-- ==== Sys2Proof/Word.lean ====
section
/-! DEFINITION. The plain words of the Lyseo model: bytes, 32-bit words, cell and ridge numbers (R5, R7, R14, R15). -/

namespace Sys2Proof

/-- A byte of a cell memory, a packet or a message. -/
abbrev Byte := BitVec 8

/-- A 32-bit cell register or processor word (R7). -/
abbrev Word := BitVec 32

/-- A string of bytes as it stands in a packet, a message or an image. -/
abbrev Bytes := List Byte

/-- Cells are numbered 0 to 63 (R14). -/
abbrev CellId := Fin 64

/-- Ridges are numbered 0 to 15 (R14). -/
abbrev RidgeId := Fin 16

end Sys2Proof
end

