-- ==== Sys2Proof/Syntax.lean ====
section
/-! DEFINITION. The commands of the Lyseo block: one constructor per row of spec/opcode_table.json, with the operands
the row's rule names, and the operand types. -/

namespace Sys2Proof

/-! Operands of the cell processor's instructions (R26: RV32I, M, C, Zicsr, Zba, Zbb). -/

/-- A register number x0 to x31. -/
abbrev Reg := Fin 32

/-- Register-register operations of RV32I, Zba and Zbb. -/
inductive AluOp where
  | add | sub | sll | slt | sltu | xor | srl | sra | or | and
  | sh1add | sh2add | sh3add
  | andn | orn | xnor | max | maxu | min | minu | rol | ror
  deriving DecidableEq, Repr

/-- Register-immediate operations of RV32I with a 12-bit immediate. -/
inductive ImmOp where
  | addi | slti | sltiu | xori | ori | andi
  deriving DecidableEq, Repr

/-- Shifts and rotates by a 5-bit amount (RV32I, Zbb). -/
inductive ShiftOp where
  | slli | srli | srai | rori
  deriving DecidableEq, Repr

/-- One-operand operations of Zbb. -/
inductive UnaryOp where
  | clz | ctz | cpop | sextB | sextH | zextH | orcB | rev8
  deriving DecidableEq, Repr

/-- The instructions of the first line of R27's table. -/
inductive AluInstr where
  | reg (op : AluOp) (rd rs1 rs2 : Reg)
  | imm (op : ImmOp) (rd rs1 : Reg) (v : BitVec 12)
  | shift (op : ShiftOp) (rd rs1 : Reg) (sh : BitVec 5)
  | unary (op : UnaryOp) (rd rs1 : Reg)
  | lui (rd : Reg) (v : BitVec 20)
  | auipc (rd : Reg) (v : BitVec 20)
  deriving DecidableEq, Repr

inductive MulOp where
  | mul | mulh | mulhsu | mulhu
  deriving DecidableEq, Repr

inductive DivOp where
  | div | divu | rem | remu
  deriving DecidableEq, Repr

inductive BranchOp where
  | beq | bne | blt | bge | bltu | bgeu
  deriving DecidableEq, Repr

inductive JumpInstr where
  | jal (rd : Reg) (off : BitVec 21)
  | jalr (rd rs1 : Reg) (off : BitVec 12)
  deriving DecidableEq, Repr

inductive LoadOp where
  | lb | lh | lw | lbu | lhu
  deriving DecidableEq, Repr

inductive StoreOp where
  | sb | sh | sw
  deriving DecidableEq, Repr

inductive CsrOp where
  | rw | rs | rc
  deriving DecidableEq, Repr

/-- The source of a CSR instruction: a register, or a 5-bit immediate. -/
inductive CsrSrc where
  | reg (rs1 : Reg)
  | imm (v : BitVec 5)
  deriving DecidableEq, Repr

/-! Operands of the other commands. -/

/-- Layers whose data is fetched ahead of the beam (R79, R142). -/
inductive FetchLayer where
  | b0 | b1 | ov
  deriving DecidableEq, Repr

/-- Where an IDR request comes from (R253). -/
inductive IdrSource where
  | object | viewer | referenceFault
  deriving DecidableEq, Repr

/-- WDG_CFG or WDG_LOAD (R208). -/
inductive WdgValueReg where
  | cfg | load
  deriving DecidableEq, Repr

/-- The two ring ports of a device (R328). -/
inductive PortSide where
  | east | west
  deriving DecidableEq, Repr

/-- A LO register of the ID block (R409). -/
inductive IdCounter where
  | vbytes | abytes | cyc
  deriving DecidableEq, Repr

/-- The three kinds of update image (R411). -/
inductive ImageKind where
  | kfw | tfw | cfg
  deriving DecidableEq, Repr

/-- A UDP source: IP version, address, port. -/
structure NetAddr where
  v6   : Bool
  addr : Nat
  port : Nat
  deriving DecidableEq, Repr

/-- The classes of ring frames in priority order (R333). -/
inductive RingClass where
  | sync | beacon | input | control | stream | dict | state
  deriving DecidableEq, Repr

/-- A ring frame as received: the header fields of R332, the payload, and whether its CRC-32C verified. -/
structure RingFrame where
  cls     : RingClass
  typ     : Nat
  src     : Nat
  dst     : Nat
  bcast   : Bool
  turned  : Bool
  hops    : Nat
  topo    : Nat
  seq     : Nat
  payload : Bytes
  crcOk   : Bool
  deriving DecidableEq, Repr

/-- The plaintext message of a DATA record (R373). -/
structure DictMsg where
  mtype : Nat
  node  : Nat
  tid   : Nat
  index : Nat
  sub   : Nat
  flags : Nat
  aux   : Nat
  data  : Bytes
  deriving DecidableEq, Repr

/-- A verified or failing record of an open channel that carries a message: its channel, RSEQ, whether its tag verifies,
and the plaintext (R368, R369, R373). -/
structure DictRec where
  channel : Nat
  rseq    : Nat
  tagOk   : Bool
  msg     : DictMsg
  deriving DecidableEq, Repr

/-- What a PTP message tells the ordinary clock (R66), or that it is of a kind that is not supported. -/
inductive PtpEvent where
  /-- An announce of a time transmitter: it is selected by the best master clock algorithm, or not. -/
  | announce (identity : Nat) (selected : Bool)
  /-- A completed delay request-response exchange: measured offset in ns and mean path delay in ns. -/
  | measured (offset : Int) (pathDelay : Nat)
  /-- Any message outside the support of R66. -/
  | unsupported
  deriving DecidableEq, Repr

/-- A PTP message on the uplink: its transport (0 IPv4, 1 IPv6, 2 IEEE 802.3), its domain number and its content.
DESIGN CHOICE, unsafe, log entry 89. -/
structure PtpMsg where
  transport : Nat
  domain    : Nat
  event     : PtpEvent
  deriving DecidableEq, Repr

/-- An SRTCP feedback packet (R284): media SSRC, SRTCP index, source and destination port, whether it authenticates. -/
structure Srtcp where
  ssrc      : Word
  index     : Nat
  srcAddr   : Nat
  dstPort   : Nat
  authentic : Bool
  deriving DecidableEq, Repr

/-- What the ring measured for an admission (R317 to R320): the edge difference d in ns, the difference of the pair's
edges in ns, the partner's own verdict (0 accepted), the partner's ticket, the Mb/s that other sessions hold on the
fullest segment of the route (with its number) in the intact ring and after every single loss, and the Mb/s that the
primaries of other devices hold at the uplink interface; the device's own primaries are counted from its state. -/
structure RingView where
  edgeDiff       : Nat
  pairDiff       : Nat
  partnerCode    : Nat
  partnerTicket  : Bytes
  segmentUsed    : Nat
  segmentNo      : Nat
  uplinkUsed     : Nat
  /-- Completion instants, at the uplink interface, of the primaries of the ring's other devices, in cell cycles of the
  house frame (R317). -/
  uplinkInstants : List Nat
  /-- Completion instants of the cells admitted on the partner's ridge (R317, R320). -/
  partnerInstants : List Nat
  hops           : Nat
  deriving DecidableEq, Repr

/-- A request of Tender in Keeper's mailbox (R387). -/
inductive TenderReq where
  | admission (cell : CellId) (ticket : Bytes)
  | sealMinute (cell : CellId) (snapshot : Bytes)
  | storeUpdate (image : Bytes)
  | activate (kind : ImageKind)
  | deliver (channel : Nat) (rec : Bytes)
  deriving DecidableEq, Repr

/-- A target of a debug frame (R422). -/
inductive DbgTarget where
  | cell (c : CellId)
  | tender (core : Fin 4)
  | keeper
  | port
  | other (code : BitVec 8)
  deriving DecidableEq, Repr

/-- The rails sampled every 10 µs, in millivolts (R456, R462). -/
structure Rails where
  core : Nat
  sram : Nat
  aon  : Nat
  vddq : Nat
  deriving DecidableEq, Repr

/-- What the SPD hubs and the training report of the DIMM population (R475): per channel the number of DIMMs, the
common rating in MT/s and density in GiB, and whether the kinds agree and are allowed. -/
structure DdrReport where
  perChannel : Nat
  equal      : Bool
  allowed    : Bool
  densityGiB : Nat
  rating     : Nat
  trained    : Bool
  deriving DecidableEq, Repr

/-- The commands: the rows of spec/opcode_table.json, by family. DESIGN CHOICE, safe, log entry 13. -/
inductive Instr where
  -- cell processor
  | aluInstruction (c : CellId) (i : AluInstr) (short : Bool)
  | mul (c : CellId) (op : MulOp) (rd rs1 rs2 : Reg)
  | div (c : CellId) (op : DivOp) (rd rs1 rs2 : Reg)
  | branch (c : CellId) (op : BranchOp) (rs1 rs2 : Reg) (off : BitVec 13) (short : Bool)
  | jalJalr (c : CellId) (i : JumpInstr) (short : Bool)
  | load (c : CellId) (op : LoadOp) (rd rs1 : Reg) (off : BitVec 12) (short : Bool)
  | store (c : CellId) (op : StoreOp) (rs1 rs2 : Reg) (off : BitVec 12) (short : Bool)
  | csrInstruction (c : CellId) (op : CsrOp) (csr : BitVec 12) (rd : Reg) (src : CsrSrc)
  | mlwaitWrite (c : CellId) (op : CsrOp) (rd : Reg) (src : CsrSrc)
  | fence (c : CellId)
  | wfi (c : CellId)
  | ecall (c : CellId)
  | ebreak (c : CellId) (short : Bool)
  | mret (c : CellId)
  | illegalInstruction (c : CellId) (bits : Word)
  | waitTargetReached (c : CellId)
  | wfiWake (c : CellId)
  | interruptTaken (c : CellId)
  | registerWrite (c : CellId) (off : BitVec 16) (v : Word)
  -- beam, house frame
  | lineStart (c : CellId)
  | frameBoundary (c : CellId)
  | porchStart (c : CellId) (delta : Int)
  | rstLcmpMatch (c : CellId)
  | commitGo (c : CellId)
  | syncInEdge (t : Nat) (phaseError : Int)
  | houseFrameEdge (t : Nat) (phaseError : Int)
  | predictedEdge (t : Nat)
  | syncOutEnd
  | ppsInEdge (t : Nat)
  | houseSecond (t : Nat)
  | ppsOutEnd
  | ptpMessage (m : PtpMsg)
  -- fetch, lists, composition
  | fetchUrgency (c : CellId)
  | fetchDataReturn (c : CellId) (layer : FetchLayer) (line : Nat) (bad : List Nat)
  | tagRetryReturn (c : CellId) (layer : FetchLayer) (line : Nat) (addr : Nat) (ok : Bool)
  | lineListEntry (c : CellId)
  | cmpPaldataWrite (c : CellId) (v : Word)
  | sclCdataWrite (c : CellId) (v : Word)
  | overlayApply (c : CellId)
  -- encoder
  | stripeClose (c : CellId) (intact : Bool)
  | keepalive (c : CellId)
  | idrRequest (c : CellId) (src : IdrSource)
  | referenceDataReturn (c : CellId) (bad : List Nat)
  -- block copy and DMA
  | bltSubmit (c : CellId) (v : Word)
  | bltCommandLand (c : CellId) (n : Nat) (bad : List Nat)
  | bltCommandVisible (c : CellId) (n : Nat)
  | dmaStart (c : CellId) (ch : Fin 8)
  | dmaStop (c : CellId) (ch : Fin 8)
  | dmaMove (c : CellId) (ch : Fin 8)
  | dmaLoop (c : CellId) (ch : Fin 8)
  | dmaWait (c : CellId) (ch : Fin 8)
  | dmaSignal (c : CellId) (ch : Fin 8)
  | dmaEnd (c : CellId) (ch : Fin 8)
  | dmaWaitEnd (c : CellId) (ch : Fin 8)
  | dmaMoveIssue (c : CellId) (ch : Fin 8)
  | dmaMoveLand (c : CellId) (ch : Fin 8) (n : Nat) (bad : List Nat)
  | dmaMoveVisible (c : CellId) (ch : Fin 8)
  | dmaEvtsetWrite (c : CellId) (v : Word)
  -- timers and watchdog
  | timerTick (c : CellId) (n : Fin 8)
  | timerWrap (c : CellId) (n : Fin 8)
  | compareMatch (c : CellId) (n : Fin 8)
  | periodSkip (c : CellId) (n : Fin 8)
  | tmrGo (c : CellId) (v : Word)
  | timerCntWrite (c : CellId) (n : Fin 8) (v : Word)
  | timerCntRead (c : CellId) (n : Fin 8)
  | wdgFeed (c : CellId) (v : Word)
  | wdgKey (c : CellId) (v : Word)
  | wdgValueStore (c : CellId) (r : WdgValueReg) (v : Word)
  | wdgWindowExpiry (c : CellId)
  | watchdogBark (c : CellId)
  | watchdogBite (c : CellId)
  | ridgePllLock (r : RidgeId)
  -- audio
  | sampleBoundary (c : CellId)
  | audPdataWrite (c : CellId) (v : Word)
  | audSwapGo (c : CellId)
  | sampleVoiceTrig (c : CellId) (n : Fin 32) (v : Word)
  | waveVoiceTrig (c : CellId) (w : Fin 8) (v : Word)
  | audPosWrite (c : CellId) (n : Fin 32) (v : Word)
  | audioProgram (c : CellId) (intact : Bool)
  | opusPacket (c : CellId) (intact : Bool)
  -- streams and input
  | streamPacketEgress (c : CellId)
  | uplinkFrameReceive (iface : Fin 2) (frame : Bytes) (fcsOk : Bool)
  | pli (p : Srtcp)
  | fir (p : Srtcp)
  | inputMessage (t : Nat) (src : NetAddr) (udp : Bytes)
  | pictureLoss (t : Nat) (src : NetAddr) (udp : Bytes)
  | inputFrameSend
  | stampedMessageReceive (msg : Bytes)
  | inputApply (c : CellId)
  | inpPop (c : CellId)
  | inpRptsend (c : CellId) (v : Word)
  | reportSend
  -- admission and session life
  | descriptorWrite (c : CellId) (desc : Bytes)
  | admissionCalculus (c : CellId) (v : RingView)
  | start (c : CellId) (t : Nat)
  | park (c : CellId) (t : Nat)
  | resume (c : CellId) (t : Nat) (v : RingView)
  | endSession (c : CellId) (t : Nat)
  | migrate (c : CellId) (t : Nat) (v : RingView)
  | startApply (c : CellId)
  | parkApply (c : CellId)
  | resumeApply (c : CellId)
  | migrateApply (c : CellId)
  | endApply (c : CellId)
  -- ring
  | syncFrame (p : PortSide) (f : RingFrame)
  | beacon (p : PortSide) (f : RingFrame)
  | streamFrame (p : PortSide) (f : RingFrame)
  | dictFrame (p : PortSide) (f : RingFrame)
  | stateFrame (p : PortSide) (f : RingFrame)
  | topo (p : PortSide) (f : RingFrame)
  | probe (p : PortSide) (f : RingFrame)
  | probeReply (p : PortSide) (f : RingFrame) (roundTrip : Nat)
  | join (p : PortSide) (f : RingFrame)
  | leave (p : PortSide) (f : RingFrame)
  | promoted (p : PortSide) (f : RingFrame)
  | epoch (p : PortSide) (f : RingFrame)
  | active (p : PortSide) (f : RingFrame)
  | resync (p : PortSide) (f : RingFrame)
  | switch (p : PortSide) (f : RingFrame)
  | stamp (p : PortSide) (f : RingFrame)
  | keyx (p : PortSide) (f : RingFrame)
  | role (p : PortSide) (f : RingFrame)
  | portUp (p : PortSide)
  | portDown (p : PortSide) (rdi : Bool)
  | superframeSlot (t : Nat)
  | beaconMissed (node : Fin 16)
  | confirmationEnd (node : Fin 16)
  | heldUnitTimeout (c : CellId)
  | managerListenExpiry
  | joinRequest (device : Nat)
  | joinTime
  | probeTimeout
  | joinWaitTimeout
  | leaveRequest (node : Nat)
  | standbyCopy
  | leaseRenew (epoch : Nat)
  | leaseLapse
  | standbyGrantLapse
  | epochApply (c : CellId)
  | resyncRequest (c : CellId)
  | mirrorNewPartner (c : CellId) (node : Nat) (cell : Nat) (v : RingView)
  | boundaryRecordApplied (c : CellId) (rec : Bytes) (slip : Nat)
  | migrationSwap (c : CellId)
  | migrationTimeout (c : CellId)
  -- dictionary
  | hello (service : Bool) (src : NetAddr) (body : Bytes)
  | finish (channel : Nat) (body : Bytes)
  | close (channel rseq : Nat) (tagOk : Bool)
  | handshakeTimeout (channel : Nat)
  | channelIdleTimeout (channel : Nat)
  | read (r : DictRec)
  | write (r : DictRec)
  | segInitDl (r : DictRec)
  | segInitUl (r : DictRec)
  | segData (r : DictRec)
  | segAck (r : DictRec)
  | segAbort (r : DictRec)
  | segResendTimeout (channel tid : Nat)
  | segProgressTimeout (channel tid : Nat)
  | nodeReplyTimeout (channel tid : Nat)
  | notifyAck (r : DictRec)
  | notifyResendTimeout (channel nseq : Nat)
  | familyWrite (channel tid : Nat) (sub : Fin 3) (v : Nat)
  | houseTimeWrite (channel tid : Nat) (v : Nat)
  -- Keeper, metering, update
  | nonceReq (src : NetAddr)
  | provisionIdentity (src : NetAddr) (order : Bytes)
  | provisionCertificates (src : NetAddr) (order : Bytes)
  | operatorRootBind (key : Bytes)
  | lifecycleOrder (doc : Bytes)
  | registration (doc : Bytes)
  | revocation (doc : Bytes)
  | consent (doc : Bytes)
  | keyExpiry (keyid : Nat)
  | quoteNonceWrite (channel tid : Nat) (nonce : Bytes)
  | quoteRead (channel tid : Nat)
  | tenderRequest (r : TenderReq)
  | healthReport
  | keeperRestartRequest
  | keeperFirmwareWatchdog
  | keeperRestartComplete (retentionOk : Bool) (late : Bool)
  | minuteStart (t : Nat)
  | meteringSeal (c : CellId) (t : Nat)
  | meterAck (recseq : Nat)
  | idLoRead (c : CellId) (k : IdCounter)
  | activate (k : ImageKind)
  | slotCommit (k : ImageKind)
  | handoverWindowOpen
  | tenderReady (tickets : List Bytes)
  | handoverTimeout
  -- debug and trace
  | debugRead (tgt : DbgTarget) (addr : Word)
  | debugWrite (tgt : DbgTarget) (addr data : Word)
  | debugHalt (tgt : DbgTarget)
  | haltEffect (c : CellId)
  | debugResume (tgt : DbgTarget)
  | debugStep (tgt : DbgTarget)
  | stepComplete (c : CellId)
  | debugInject (tgt : DbgTarget) (bits : Word)
  | debugLineReset
  | portReq (v : Word)
  | portResp (v : Word)
  | portSubmit (v : Word)
  | unlockVerdict
  | portRelock (v : Word)
  | consentExpiry
  | debugLevelWrite (c : CellId) (level : Nat)
  | debugTunnelRequest (channel : Nat) (c : CellId) (req : Bytes)
  | traceRemove (c : CellId) (n : Nat)
  | traceWordRead (c : CellId)
  | stimPortWrite (c : CellId) (k : Fin 32) (v : Word)
  -- power, clocks, reset, supply, pins
  | ridgePowerUpDone (r : RidgeId)
  | deviceResetCommand (v : Nat)
  | roleSample (role : Bool) (testN : Bool)
  | ddrTrainingComplete (d : DdrReport)
  | brownoutHoldBegin (mv : Nat)
  | vddCoreReset (mv : Nat)
  | supplySample (r : Rails)
  | temperatureReading (sensors : List Int)
  | ridgePllLockLoss (r : RidgeId)
  | ridgeFault (r : RidgeId)
  | gpioFunctionWrite (p : Fin 40) (code : Nat)
  | gpioHoldEnd (p : Fin 40)
  | gpioOptionsWrite (p : Fin 40) (v : Byte)
  | vrhotN (high : Bool)
  | adcConversion (ch : Fin 8) (microvolts : Nat)
  | keyxTimeout (c : CellId)
  | vddCoreHoldLevelCrossing (mv : Nat)
  | uplinkLinkChange (lane : Bool) (n : Fin 8) (up : Bool)
  | serviceLinkChange (up : Bool)
  | smbUnlistedCommand (code : Byte)
  | designatedStandbyWrite (channel tid : Nat) (node : Nat)
  -- of these, the ones without an operand (a compiled program numbers at most 244 constructors that have operands)
  | powerRequestParked
  | powerRequestIdle
  | pwrOkFall
  | resetNLow
  | resetRelease
  | brownoutHoldEnd
  | vddAonLow
  | refclkLoss
  | crystalLoss
  | lockstepMismatch
  | ringPathFault
  | smbReadRevision
  | smbReadStatus
  | smbReadTemperature
  | smbReadTemperatureMax
  | smbReadVddCore
  | smbReadVddCoreMin
  | smbReadResetKind
  | smbReadDeviceId
  | smbAlertResponse
  | refclkReturn
  | deviceResetEnd
  | healthReportMissed
  | powerTransitionComplete
  | syncLeaseAgeExpiry
  | debugFrameCrcError
  | houseTimeSourceLoss
  deriving DecidableEq, Repr

end Sys2Proof
end

