-- ==== Sys2Proof/Config.lean ====
section
/-! DEFINITION. What an implementation fixes and the free values: uninterpreted constants, so that a claim about the model
holds whatever they are. -/

namespace Sys2Proof.Config

/-- Values the spec leaves undefined, one for each draw (DESIGN CHOICE, safe, log entry 11, DESIGN CHOICE, safe, log entry 12). -/
opaque freeWord : Nat → Word

/-- mtval after an illegal-instruction exception whose mtval the spec does not give: the instruction's bits, or 0; the
privileged specification leaves the choice (DESIGN CHOICE, safe, log entry 17). -/
opaque illegalTvalHoldsBits : Bool

/-- mtval after a breakpoint exception: the address of the instruction, or 0 (DESIGN CHOICE, safe, log entry 17). -/
opaque ebreakTvalHoldsPc : Bool

/-- Which sample a STREAM voice of LEN 0 takes for tap j, and where its position goes: R217 and R219 take both modulo LEN
(DESIGN CHOICE, safe, log entry 18). -/
opaque streamModZero : Nat → Nat

/-- The bytes after the TOC byte of an Opus packet (R231; RFC 6716 is not restated by the spec): bit rate in kbit/s, frame
duration code, the encoder's state, the samples of the frame and of the 2.5 ms after it (DESIGN CHOICE, safe, log entry 9). -/
opaque opusBody : Nat → Nat → Bytes → List (Int × Int) → Bytes

/-- The Opus encoder's state after that packet (DESIGN CHOICE, safe, log entry 9). -/
opaque opusState : Nat → Nat → Bytes → List (Int × Int) → Bytes

/-- What a slice of a picture depends on (R241 to R252). -/
structure SliceIn where
  /-- The admitted settings. -/
  cfg     : List Nat
  /-- Kind, stripe, QP, frame_num, picture order count, refresh columns, renewal of the long-term reference. -/
  pic     : List Nat
  /-- The stripe's samples. -/
  src     : Bytes
  /-- Hint word and unchanged flag of each block. -/
  hints   : List (Int × Int × Bool)
  short   : List Bytes
  long    : List Bytes
  /-- Stripes of this picture already reconstructed. -/
  done    : List Bytes
  /-- 64-byte reference lines read as 0x00. -/
  bad     : List Nat
  deriving DecidableEq, Repr

/-- The NAL units of a slice of an H.264 or HEVC picture, parameter sets and SEI included where they precede it (R241 to
R252; the standards' syntax is not restated by the spec, DESIGN CHOICE, safe, log entry 9). -/
opaque sliceUnits : SliceIn → List Bytes

/-- The reconstruction of that stripe, from the same arguments (DESIGN CHOICE, safe, log entry 9). -/
opaque sliceRecon : SliceIn → Bytes

/-! Cryptographic functions (DESIGN CHOICE, safe, log entry 8). The spec names the standards (FIPS 202, 203, 204; SP 800-38D; RFC 3711, 7714)
and does not restate them: each is an uninterpreted function of everything its result depends on. -/

/-- SHA3-256, SHA3-512 and SHAKE256 of a byte string; the last takes the number of bytes wanted.
DESIGN CHOICE, safe, log entry 8. -/
opaque sha3256 : Bytes → Bytes
opaque sha3512 : Bytes → Bytes
opaque shake256 : Bytes → Nat → Bytes

/-- ML-DSA-87: public key of a seed, signature (seed, context, pre-hashed form, message), verification (public key, context,
pre-hashed form, message, signature). DESIGN CHOICE, safe, log entry 8. -/
opaque dsaPublic : Bytes → Bytes
opaque dsaSign : Bytes → Bytes → Bool → Bytes → Bytes
opaque dsaVerify : Bytes → Bytes → Bool → Bytes → Bytes → Bool

/-- ML-KEM-1024 encapsulation to a key with given randomness: ciphertext and shared secret.
DESIGN CHOICE, safe, log entry 8. -/
opaque kemCipher : Bytes → Bytes → Bytes
opaque kemSecret : Bytes → Bytes → Bytes

/-- AES-GCM: key, IV, additional data, plaintext to ciphertext with its 16-byte tag; and back, when the tag verifies.
DESIGN CHOICE, safe, log entry 8. -/
opaque gcmSeal : Bytes → Bytes → Bytes → Bytes → Bytes
opaque gcmOpen : Bytes → Bytes → Bytes → Bytes → Option Bytes

/-- SRTP (R278): master key, salt, suite, rollover counter, the whole RTP header and the payload to the protected payload
with its tag. DESIGN CHOICE, safe, log entry 8. -/
opaque srtpSeal : Bytes → Bytes → Nat → Nat → Bytes → Bytes → Bytes

/-- The TRNG: the `n` bytes of draw `k` (DESIGN CHOICE, unsafe, log entry 16). DESIGN CHOICE, safe, log entry 12. -/
opaque trng : Nat → Nat → Bytes

/-- Do two X.509 certificates verify up to the Trohild root and name this device ID and this public key (R391)?
DESIGN CHOICE, safe, log entry 8. -/
opaque chainNames : Bytes → Nat → Bytes → Bool

/-- The compiler revision that a ticket records (R225). DESIGN CHOICE, unsafe, log entry 20. -/
opaque compilerRevision : Nat

/-! What an implementation holds in OTP and Keeper ROM (DESIGN CHOICE, unsafe, log entry 16). -/

/-- The device ID in OTP. DESIGN CHOICE, unsafe, log entry 16. -/
opaque deviceId : BitVec 64

/-- Digests held in Keeper ROM: provisioning keys and firmware signing keys (R393).
DESIGN CHOICE, unsafe, log entry 16. -/
opaque provisioningKeys : List Bytes
opaque firmwareKeys : List Bytes

/-- Firmware versions, image digests and contents of the images in the flash when the model's history begins.
DESIGN CHOICE, unsafe, log entry 16. -/
opaque flashImage : Nat → Bytes
opaque flashVersion : Nat → Nat

/-- The public key of an operator root whose digest OTP holds (R395; DESIGN CHOICE, safe, log entry 29). -/
opaque rootKey : Bytes → Bytes

/-- A node's own forwarding delay in 1/16 ns, added to ACCUM (R342): no value stated (DESIGN CHOICE, safe, log entry 25). -/
opaque forwardDelay : Nat

/-- The level at a GPIO pad: draw and pin (DESIGN CHOICE, safe, log entry 26). -/
opaque padLevel : Nat → Nat → Bool

/-- Error of an ADC conversion in LSB, as a draw; its remainder by 9 less 4 lies within the ±4 LSB of R472 (DESIGN CHOICE, safe, log entry 27). -/
opaque adcError : Nat → Nat

/-- A time elapsed since an event that the model does not date, as a draw (DESIGN CHOICE, safe, log entry 28). -/
opaque elapsed : Nat → Nat

end Sys2Proof.Config
end

