-- ==== Sys2Proof/Machine/RegTable.lean ====
section
/-! DEFINITION. The register table of a cell: every register of the sixteen blocks with its offset, its reset value, the
bits a tenant store writes, the bits that a store of 1 clears, the bits whose store of 1 acts, and whether it is a frame
register (R8, R35, R60, R87, R112, R133, R134, R161 to R163, R195, R196, R212, R213, R234, R302, R409, R441). -/

namespace Sys2Proof.Machine

/-- One row of a register map: `count` registers, `stride` bytes apart. -/
structure RegDesc where
  name   : String
  base   : Nat
  stride : Nat
  count  : Nat
  reset  : Nat
  /-- RW bits. -/
  rw     : Nat
  /-- W1C bits. -/
  w1c    : Nat
  /-- W1P and WO bits. -/
  act    : Nat
  /-- A frame register (R73). -/
  frame  : Bool
  deriving DecidableEq, Repr

/-! Offsets, from 0x4000_0000 (R35); an array stands at its first register. -/

abbrev Reg.CELL_BEAM : Nat := 0x0
abbrev Reg.CELL_FRAME : Nat := 0x4
abbrev Reg.CELL_FPOS : Nat := 0x8
abbrev Reg.CELL_FRAMECYC : Nat := 0xC
abbrev Reg.CELL_DIVSTAT : Nat := 0x10
abbrev Reg.CELL_DIVINFO : Nat := 0x14
abbrev Reg.CELL_DIVFRAME : Nat := 0x18
abbrev Reg.CELL_FENCE : Nat := 0x1C
abbrev Reg.RST_VTIME : Nat := 0x1000
abbrev Reg.RST_HTIME : Nat := 0x1004
abbrev Reg.RST_HACT : Nat := 0x1008
abbrev Reg.RST_PORCH : Nat := 0x100C
abbrev Reg.RST_CL : Nat := 0x1010
abbrev Reg.RST_COMMIT : Nat := 0x1014
abbrev Reg.RST_CSTAT : Nat := 0x1018
abbrev Reg.RST_CFRAME : Nat := 0x101C
abbrev Reg.RST_STAT : Nat := 0x1020
abbrev Reg.RST_IEN : Nat := 0x1024
abbrev Reg.RST_LCMP : Nat := 0x1028
abbrev Reg.RST_FETCH : Nat := 0x102C
abbrev Reg.RST_URGWM : Nat := 0x1030
abbrev Reg.RST_UFCOL : Nat := 0x1040
abbrev Reg.RST_UFCOL7 : Nat := 0x105C
abbrev Reg.RST_QCTRL : Nat := 0x1060
abbrev Reg.RST_QLO : Nat := 0x1064
abbrev Reg.RST_QHI : Nat := 0x1068
abbrev Reg.RST_QSTAT : Nat := 0x106C
abbrev Reg.PLN_PCTL : Nat := 0x2000
abbrev Reg.PLN_P3CTL : Nat := 0x2060
abbrev Reg.PLN_PMAP : Nat := 0x2004
abbrev Reg.PLN_PPAT : Nat := 0x2008
abbrev Reg.PLN_PSCR : Nat := 0x200C
abbrev Reg.PLN_PLST : Nat := 0x2010
abbrev Reg.PLN_AFFA : Nat := 0x2080
abbrev Reg.PLN_AFFB : Nat := 0x2084
abbrev Reg.PLN_AFFC : Nat := 0x2088
abbrev Reg.PLN_AFFD : Nat := 0x208C
abbrev Reg.PLN_AFFX : Nat := 0x2090
abbrev Reg.PLN_AFFY : Nat := 0x2094
abbrev Reg.PLN_AFFT : Nat := 0x2098
abbrev Reg.PLN_BCTL : Nat := 0x2100
abbrev Reg.PLN_BADDR : Nat := 0x2104
abbrev Reg.PLN_BSTRIDE : Nat := 0x2108
abbrev Reg.PLN_BSIZE : Nat := 0x210C
abbrev Reg.PLN_BPOS : Nat := 0x2110
abbrev Reg.PLN_BCAP : Nat := 0x2114
abbrev Reg.PLN_BRET : Nat := 0x2118
abbrev Reg.PLN_CAPS : Nat := 0x2180
abbrev Reg.PLN_BSTAT : Nat := 0x2184
abbrev Reg.PLN_BIEN : Nat := 0x2188
abbrev Reg.PLN_GUARD : Nat := 0x218C
abbrev Reg.PLN_GFRAME : Nat := 0x2190
abbrev Reg.SPR_CTL : Nat := 0x3000
abbrev Reg.SPR_TAB : Nat := 0x3004
abbrev Reg.SPR_CAPS : Nat := 0x3008
abbrev Reg.SPR_STAT : Nat := 0x300C
abbrev Reg.SPR_IEN : Nat := 0x3010
abbrev Reg.SPR_OVF : Nat := 0x3014
abbrev Reg.SPR_OVFFRAME : Nat := 0x3018
abbrev Reg.SPR_LAST : Nat := 0x301C
abbrev Reg.LNL_CTL : Nat := 0x6000
abbrev Reg.LNL_DIR : Nat := 0x6004
abbrev Reg.LNL_CAPS : Nat := 0x6008
abbrev Reg.LNL_STAT : Nat := 0x600C
abbrev Reg.LNL_IEN : Nat := 0x6010
abbrev Reg.LNL_ERR : Nat := 0x6014
abbrev Reg.LNL_ERRFRAME : Nat := 0x6018
abbrev Reg.CMP_CTL : Nat := 0x4000
abbrev Reg.CMP_BACKDROP : Nat := 0x4004
abbrev Reg.CMP_STACK : Nat := 0x4010
abbrev Reg.CMP_BLEND : Nat := 0x4020
abbrev Reg.CMP_PALIDX : Nat := 0x4040
abbrev Reg.CMP_PALDATA : Nat := 0x4044
abbrev Reg.CMP_OVCTL : Nat := 0x4080
abbrev Reg.CMP_OVPOS : Nat := 0x4084
abbrev Reg.CMP_OVSIZE : Nat := 0x4088
abbrev Reg.SIG_RGNCTL : Nat := 0xE000
abbrev Reg.SIG_RGNPOS : Nat := 0xE004
abbrev Reg.SIG_RGNSIZE : Nat := 0xE008
abbrev Reg.SIG_RGNEXP : Nat := 0xE00C
abbrev Reg.SIG_RGNRES : Nat := 0xE010
abbrev Reg.SIG_OUTRES : Nat := 0xE100
abbrev Reg.SIG_STAT : Nat := 0xE104
abbrev Reg.SIG_IEN : Nat := 0xE108
abbrev Reg.SIG_FRAME : Nat := 0xE10C
abbrev Reg.SCL_CFG : Nat := 0x5000
abbrev Reg.SCL_OUT : Nat := 0x5004
abbrev Reg.SCL_HSTEP : Nat := 0x5008
abbrev Reg.SCL_VSTEP : Nat := 0x500C
abbrev Reg.SCL_CCTL : Nat := 0x5010
abbrev Reg.SCL_CIDX : Nat := 0x5014
abbrev Reg.SCL_CDATA : Nat := 0x5018
abbrev Reg.BLT_SUBMIT : Nat := 0x7000
abbrev Reg.BLT_LASTSUB : Nat := 0x7004
abbrev Reg.BLT_STAT : Nat := 0x7008
abbrev Reg.BLT_IEN : Nat := 0x700C
abbrev Reg.BLT_QUEUE : Nat := 0x7010
abbrev Reg.BLT_TAILLINE : Nat := 0x7014
abbrev Reg.BLT_TAILFRAME : Nat := 0x7018
abbrev Reg.BLT_DEAD : Nat := 0x701C
abbrev Reg.BLT_WM : Nat := 0x7020
abbrev Reg.BLT_CAPS : Nat := 0x7024
abbrev Reg.BLT_ACCCNT : Nat := 0x7028
abbrev Reg.BLT_DONECNT : Nat := 0x702C
abbrev Reg.DMA_CHCTL : Nat := 0x8000
abbrev Reg.DMA_CHPC : Nat := 0x8004
abbrev Reg.DMA_CHSTAT : Nat := 0x8008
abbrev Reg.DMA_CHSOFS : Nat := 0x800C
abbrev Reg.DMA_CHDOFS : Nat := 0x8010
abbrev Reg.DMA_CHSTRIDE : Nat := 0x8014
abbrev Reg.DMA_CHFREC : Nat := 0x8018
abbrev Reg.DMA_CHISS : Nat := 0x801C
abbrev Reg.DMA_CHVIS : Nat := 0x8020
abbrev Reg.DMA_CHDUE : Nat := 0x8024
abbrev Reg.DMA_CHQUOTA : Nat := 0x8028
abbrev Reg.DMA_CHLOOP : Nat := 0x802C
abbrev Reg.DMA_STAT : Nat := 0x8200
abbrev Reg.DMA_IEN : Nat := 0x8204
abbrev Reg.DMA_EVT : Nat := 0x8208
abbrev Reg.DMA_EVTSET : Nat := 0x820C
abbrev Reg.DMA_REQLO : Nat := 0x8210
abbrev Reg.DMA_REQHI : Nat := 0x8214
abbrev Reg.DMA_TAGF : Nat := 0x8218
abbrev Reg.DMA_TAGIEN : Nat := 0x821C
abbrev Reg.TMR_CTL : Nat := 0x9000
abbrev Reg.TMR_CNT : Nat := 0x9004
abbrev Reg.TMR_PER : Nat := 0x9008
abbrev Reg.TMR_CMP : Nat := 0x900C
abbrev Reg.TMR_CMPADD : Nat := 0x9010
abbrev Reg.TMR_GO : Nat := 0x9100
abbrev Reg.TMR_STAT : Nat := 0x9104
abbrev Reg.TMR_IEN : Nat := 0x9108
abbrev Reg.WDG_KEY : Nat := 0x9200
abbrev Reg.WDG_CFG : Nat := 0x9204
abbrev Reg.WDG_LOAD : Nat := 0x9208
abbrev Reg.WDG_FEED : Nat := 0x920C
abbrev Reg.WDG_CNT : Nat := 0x9210
abbrev Reg.WDG_STAT : Nat := 0x9214
abbrev Reg.INTC_PEND : Nat := 0xA000
abbrev Reg.INTC_EN : Nat := 0xA004
abbrev Reg.INTC_PRIO0 : Nat := 0xA008
abbrev Reg.INTC_PRIO1 : Nat := 0xA00C
abbrev Reg.INTC_PRIO2 : Nat := 0xA010
abbrev Reg.INTC_THRESH : Nat := 0xA014
abbrev Reg.INTC_CLAIM : Nat := 0xA018
abbrev Reg.AUD_SVCTL : Nat := 0xB000
abbrev Reg.AUD_SVADDR : Nat := 0xB004
abbrev Reg.AUD_SVLEN : Nat := 0xB008
abbrev Reg.AUD_SVLOOP : Nat := 0xB00C
abbrev Reg.AUD_SVSTEP : Nat := 0xB010
abbrev Reg.AUD_SVVOL : Nat := 0xB014
abbrev Reg.AUD_SVPOS : Nat := 0xB018
abbrev Reg.AUD_SVSTRM : Nat := 0xB01C
abbrev Reg.AUD_WVCTL : Nat := 0xB800
abbrev Reg.AUD_WVFREQ : Nat := 0xB804
abbrev Reg.AUD_WVVOL : Nat := 0xB808
abbrev Reg.AUD_WVTAB0 : Nat := 0xB820
abbrev Reg.AUD_WVTAB1 : Nat := 0xB824
abbrev Reg.AUD_WVTAB2 : Nat := 0xB828
abbrev Reg.AUD_WVTAB3 : Nat := 0xB82C
abbrev Reg.AUD_WVTAB4 : Nat := 0xB830
abbrev Reg.AUD_WVTAB5 : Nat := 0xB834
abbrev Reg.AUD_WVTAB6 : Nat := 0xB838
abbrev Reg.AUD_WVTAB7 : Nat := 0xB83C
abbrev Reg.AUD_SAMPLE : Nat := 0xBC00
abbrev Reg.AUD_SPOS : Nat := 0xBC04
abbrev Reg.AUD_STAT : Nat := 0xBC08
abbrev Reg.AUD_IEN : Nat := 0xBC0C
abbrev Reg.AUD_VEND : Nat := 0xBC10
abbrev Reg.AUD_VIEN : Nat := 0xBC14
abbrev Reg.AUD_PIDX : Nat := 0xBC20
abbrev Reg.AUD_PDATA : Nat := 0xBC24
abbrev Reg.AUD_SWAP : Nat := 0xBC28
abbrev Reg.AUD_BSTAT : Nat := 0xBC2C
abbrev Reg.AUD_CAPS : Nat := 0xBC30
abbrev Reg.AUD_OCFG : Nat := 0xBC34
abbrev Reg.INP_LEVEL : Nat := 0xC000
abbrev Reg.INP_HDR : Nat := 0xC004
abbrev Reg.INP_SEQ : Nat := 0xC008
abbrev Reg.INP_FRAME : Nat := 0xC00C
abbrev Reg.INP_PAY : Nat := 0xC010
abbrev Reg.INP_POP : Nat := 0xC040
abbrev Reg.INP_STAT : Nat := 0xC044
abbrev Reg.INP_IEN : Nat := 0xC048
abbrev Reg.INP_DROPS : Nat := 0xC04C
abbrev Reg.INP_RPT : Nat := 0xC060
abbrev Reg.INP_RPTSEND : Nat := 0xC080
abbrev Reg.INP_RPTQ : Nat := 0xC084
abbrev Reg.INP_RPTSEQ : Nat := 0xC088
abbrev Reg.ID_REV : Nat := 0xF000
abbrev Reg.ID_SESSLO : Nat := 0xF004
abbrev Reg.ID_SESSHI : Nat := 0xF008
abbrev Reg.ID_AFRAMES : Nat := 0xF00C
abbrev Reg.ID_QFRAMES : Nat := 0xF010
abbrev Reg.ID_INPUTS : Nat := 0xF014
abbrev Reg.ID_VBYTESLO : Nat := 0xF018
abbrev Reg.ID_ABYTESLO : Nat := 0xF020
abbrev Reg.ID_CYCLO : Nat := 0xF028
abbrev Reg.ID_VBYTESHI : Nat := 0xF01C
abbrev Reg.ID_ABYTESHI : Nat := 0xF024
abbrev Reg.ID_CYCHI : Nat := 0xF02C
abbrev Reg.STIM_PORT : Nat := 0xD000
abbrev Reg.STIM_EN : Nat := 0xD080
abbrev Reg.STIM_CTL : Nat := 0xD084
abbrev Reg.STIM_CNT : Nat := 0xD088

def regRowsCELL : List RegDesc := [
  ⟨"CELL_BEAM", 0x0, 0x4, 1, 0x0, 0x0, 0x0, 0x0, false⟩,
  ⟨"CELL_FRAME", 0x4, 0x4, 1, 0x0, 0x0, 0x0, 0x0, false⟩,
  ⟨"CELL_FPOS", 0x8, 0x4, 1, 0x0, 0x0, 0x0, 0x0, false⟩,
  ⟨"CELL_FRAMECYC", 0xC, 0x4, 1, 0x0, 0x0, 0x0, 0x0, false⟩,
  ⟨"CELL_DIVSTAT", 0x10, 0x4, 1, 0x0, 0x0, 0x1FF, 0x0, false⟩,
  ⟨"CELL_DIVINFO", 0x14, 0x4, 1, 0x0, 0x0, 0x0, 0x0, false⟩,
  ⟨"CELL_DIVFRAME", 0x18, 0x4, 1, 0x0, 0x0, 0x0, 0x0, false⟩,
  ⟨"CELL_FENCE", 0x1C, 0x4, 1, 0x0, 0x0, 0x0, 0x0, false⟩]

def regRowsRST : List RegDesc := [
  ⟨"RST_VTIME", 0x1000, 0x4, 1, 0x0, 0x0, 0x0, 0x0, false⟩,
  ⟨"RST_HTIME", 0x1004, 0x4, 1, 0x0, 0x0, 0x0, 0x0, false⟩,
  ⟨"RST_HACT", 0x1008, 0x4, 1, 0x0, 0x0, 0x0, 0x0, false⟩,
  ⟨"RST_PORCH", 0x100C, 0x4, 1, 0x0, 0x0, 0x0, 0x0, false⟩,
  ⟨"RST_CL", 0x1010, 0x4, 1, 0x0, 0xFFF, 0x0, 0x0, true⟩,
  ⟨"RST_COMMIT", 0x1014, 0x4, 1, 0x0, 0x0, 0x0, 0x1, false⟩,
  ⟨"RST_CSTAT", 0x1018, 0x4, 1, 0x0, 0x0, 0x0, 0x0, false⟩,
  ⟨"RST_CFRAME", 0x101C, 0x4, 1, 0x0, 0x0, 0x0, 0x0, false⟩,
  ⟨"RST_STAT", 0x1020, 0x4, 1, 0x0, 0x0, 0x1F, 0x0, false⟩,
  ⟨"RST_IEN", 0x1024, 0x4, 1, 0x0, 0x1F, 0x0, 0x0, false⟩,
  ⟨"RST_LCMP", 0x1028, 0x4, 1, 0x0, 0xFFFFFFFF, 0x0, 0x0, false⟩,
  ⟨"RST_FETCH", 0x102C, 0x4, 1, 0x0, 0x0, 0x0, 0x0, false⟩,
  ⟨"RST_URGWM", 0x1030, 0x4, 1, 0x0, 0x0, 0x0, 0x0, false⟩,
  ⟨"RST_UFCOL", 0x1040, 0x4, 7, 0x0, 0xFFFFFFFF, 0x0, 0x0, true⟩,
  ⟨"RST_UFCOL7", 0x105C, 0x4, 1, 0x0, 0x0, 0x0, 0x0, true⟩,
  ⟨"RST_QCTRL", 0x1060, 0x4, 1, 0x1, 0x1, 0x0, 0x0, false⟩,
  ⟨"RST_QLO", 0x1064, 0x4, 1, 0x0, 0xFFFFC, 0x0, 0x0, false⟩,
  ⟨"RST_QHI", 0x1068, 0x4, 1, 0xC0000, 0xFFFFC, 0x0, 0x0, false⟩,
  ⟨"RST_QSTAT", 0x106C, 0x4, 1, 0x0, 0x0, 0x0, 0x0, false⟩]

def regRowsPLN0 : List RegDesc := [
  ⟨"PLN_PCTL", 0x2000, 0x20, 3, 0x0, 0x7F7, 0x0, 0x0, false⟩,
  ⟨"PLN_P3CTL", 0x2060, 0x20, 1, 0x0, 0xFF7, 0x0, 0x0, false⟩,
  ⟨"PLN_PMAP", 0x2004, 0x20, 4, 0x0, 0xFFFFC, 0x0, 0x0, false⟩,
  ⟨"PLN_PPAT", 0x2008, 0x20, 4, 0x0, 0xFFFE0, 0x0, 0x0, false⟩,
  ⟨"PLN_PSCR", 0x200C, 0x20, 4, 0x0, 0xFFFFFFFF, 0x0, 0x0, false⟩,
  ⟨"PLN_PLST", 0x2010, 0x20, 4, 0x0, 0xFFFFC, 0x0, 0x0, false⟩,
  ⟨"PLN_AFFA", 0x2080, 0x4, 1, 0x10000, 0xFFFFFFFF, 0x0, 0x0, false⟩,
  ⟨"PLN_AFFB", 0x2084, 0x4, 1, 0x0, 0xFFFFFFFF, 0x0, 0x0, false⟩,
  ⟨"PLN_AFFC", 0x2088, 0x4, 1, 0x0, 0xFFFFFFFF, 0x0, 0x0, false⟩,
  ⟨"PLN_AFFD", 0x208C, 0x4, 1, 0x10000, 0xFFFFFFFF, 0x0, 0x0, false⟩,
  ⟨"PLN_AFFX", 0x2090, 0x4, 1, 0x0, 0xFFFFFFFF, 0x0, 0x0, false⟩,
  ⟨"PLN_AFFY", 0x2094, 0x4, 1, 0x0, 0xFFFFFFFF, 0x0, 0x0, false⟩,
  ⟨"PLN_AFFT", 0x2098, 0x4, 1, 0x0, 0x800FFFF0, 0x0, 0x0, false⟩,
  ⟨"PLN_BCTL", 0x2100, 0x20, 2, 0x0, 0xFF, 0x0, 0x0, true⟩,
  ⟨"PLN_BADDR", 0x2104, 0x20, 2, 0x80000000, 0xFFFFFFFC, 0x0, 0x0, true⟩,
  ⟨"PLN_BSTRIDE", 0x2108, 0x20, 2, 0x0, 0xFFFFC, 0x0, 0x0, true⟩,
  ⟨"PLN_BSIZE", 0x210C, 0x20, 2, 0x0, 0xFFF0FFF, 0x0, 0x0, true⟩,
  ⟨"PLN_BPOS", 0x2110, 0x20, 2, 0x0, 0xFFFFFFFF, 0x0, 0x0, true⟩,
  ⟨"PLN_BCAP", 0x2114, 0x20, 2, 0x0, 0x0, 0x0, 0x0, false⟩,
  ⟨"PLN_BRET", 0x2118, 0x20, 2, 0x0, 0x0, 0x0, 0x0, false⟩]

def regRowsPLN1 : List RegDesc := [
  ⟨"PLN_CAPS", 0x2180, 0x4, 1, 0x0, 0x0, 0x0, 0x0, false⟩,
  ⟨"PLN_BSTAT", 0x2184, 0x4, 1, 0x0, 0x0, 0xFF, 0x0, false⟩,
  ⟨"PLN_BIEN", 0x2188, 0x4, 1, 0x0, 0xFF, 0x0, 0x0, false⟩,
  ⟨"PLN_GUARD", 0x218C, 0x4, 1, 0x0, 0x0, 0x0, 0x0, false⟩,
  ⟨"PLN_GFRAME", 0x2190, 0x4, 1, 0x0, 0x0, 0x0, 0x0, false⟩]

def regRowsSPR : List RegDesc := [
  ⟨"SPR_CTL", 0x3000, 0x4, 1, 0x0, 0x3FF0001, 0x0, 0x0, false⟩,
  ⟨"SPR_TAB", 0x3004, 0x4, 1, 0x0, 0xFFFF8, 0x0, 0x0, false⟩,
  ⟨"SPR_CAPS", 0x3008, 0x4, 1, 0x0, 0x0, 0x0, 0x0, false⟩,
  ⟨"SPR_STAT", 0x300C, 0x4, 1, 0x0, 0x0, 0xF, 0x0, false⟩,
  ⟨"SPR_IEN", 0x3010, 0x4, 1, 0x0, 0xF, 0x0, 0x0, false⟩,
  ⟨"SPR_OVF", 0x3014, 0x4, 1, 0x0, 0x0, 0x0, 0x0, false⟩,
  ⟨"SPR_OVFFRAME", 0x3018, 0x4, 1, 0x0, 0x0, 0x0, 0x0, false⟩,
  ⟨"SPR_LAST", 0x301C, 0x4, 1, 0x0, 0x0, 0x0, 0x0, false⟩]

def regRowsLNL : List RegDesc := [
  ⟨"LNL_CTL", 0x6000, 0x4, 1, 0x0, 0x1, 0x0, 0x0, false⟩,
  ⟨"LNL_DIR", 0x6004, 0x4, 1, 0x0, 0xFFFFC, 0x0, 0x0, false⟩,
  ⟨"LNL_CAPS", 0x6008, 0x4, 1, 0x0, 0x0, 0x0, 0x0, false⟩,
  ⟨"LNL_STAT", 0x600C, 0x4, 1, 0x0, 0x0, 0xF, 0x0, false⟩,
  ⟨"LNL_IEN", 0x6010, 0x4, 1, 0x0, 0xF, 0x0, 0x0, false⟩,
  ⟨"LNL_ERR", 0x6014, 0x4, 1, 0x0, 0x0, 0x0, 0x0, false⟩,
  ⟨"LNL_ERRFRAME", 0x6018, 0x4, 1, 0x0, 0x0, 0x0, 0x0, false⟩]

def regRowsCMP : List RegDesc := [
  ⟨"CMP_CTL", 0x4000, 0x4, 1, 0x0, 0x1, 0x0, 0x0, true⟩,
  ⟨"CMP_BACKDROP", 0x4004, 0x4, 1, 0x0, 0xFFFFFF, 0x0, 0x0, false⟩,
  ⟨"CMP_STACK", 0x4010, 0x4, 1, 0x3210, 0x7777777, 0x0, 0x0, true⟩,
  ⟨"CMP_BLEND", 0x4020, 0x4, 7, 0xFF01, 0xFF07, 0x0, 0x0, false⟩,
  ⟨"CMP_PALIDX", 0x4040, 0x4, 1, 0x80000000, 0x80000FFF, 0x0, 0x0, false⟩,
  ⟨"CMP_PALDATA", 0x4044, 0x4, 1, 0x0, 0xFFFFFFFF, 0x0, 0x0, false⟩,
  ⟨"CMP_OVCTL", 0x4080, 0x4, 1, 0x0, 0x0, 0x0, 0x0, false⟩,
  ⟨"CMP_OVPOS", 0x4084, 0x4, 1, 0x0, 0x0, 0x0, 0x0, false⟩,
  ⟨"CMP_OVSIZE", 0x4088, 0x4, 1, 0x0, 0x0, 0x0, 0x0, false⟩]

def regRowsSIG : List RegDesc := [
  ⟨"SIG_RGNCTL", 0xE000, 0x20, 6, 0x0, 0x3, 0x0, 0x0, true⟩,
  ⟨"SIG_RGNPOS", 0xE004, 0x20, 6, 0x0, 0xFFF07FF, 0x0, 0x0, true⟩,
  ⟨"SIG_RGNSIZE", 0xE008, 0x20, 6, 0x0, 0xFFF07FF, 0x0, 0x0, true⟩,
  ⟨"SIG_RGNEXP", 0xE00C, 0x20, 6, 0x0, 0xFFFFFFFF, 0x0, 0x0, true⟩,
  ⟨"SIG_RGNRES", 0xE010, 0x20, 6, 0x0, 0x0, 0x0, 0x0, false⟩,
  ⟨"SIG_OUTRES", 0xE100, 0x4, 1, 0x0, 0x0, 0x0, 0x0, false⟩,
  ⟨"SIG_STAT", 0xE104, 0x4, 1, 0x0, 0x0, 0x7F, 0x0, false⟩,
  ⟨"SIG_IEN", 0xE108, 0x4, 1, 0x0, 0x7F, 0x0, 0x0, false⟩,
  ⟨"SIG_FRAME", 0xE10C, 0x4, 1, 0x0, 0x0, 0x0, 0x0, false⟩]

def regRowsSCL : List RegDesc := [
  ⟨"SCL_CFG", 0x5000, 0x4, 1, 0x0, 0x0, 0x0, 0x0, false⟩,
  ⟨"SCL_OUT", 0x5004, 0x4, 1, 0x0, 0x0, 0x0, 0x0, false⟩,
  ⟨"SCL_HSTEP", 0x5008, 0x4, 1, 0x0, 0x0, 0x0, 0x0, false⟩,
  ⟨"SCL_VSTEP", 0x500C, 0x4, 1, 0x0, 0x0, 0x0, 0x0, false⟩,
  ⟨"SCL_CCTL", 0x5010, 0x4, 1, 0x0, 0x0, 0x0, 0x0, false⟩,
  ⟨"SCL_CIDX", 0x5014, 0x4, 1, 0x80000000, 0x800001FF, 0x0, 0x0, false⟩,
  ⟨"SCL_CDATA", 0x5018, 0x4, 1, 0x0, 0x3FF03FF, 0x0, 0x0, true⟩]

def regRowsBLT : List RegDesc := [
  ⟨"BLT_SUBMIT", 0x7000, 0x4, 1, 0x0, 0x0, 0x0, 0x3FFE0, false⟩,
  ⟨"BLT_LASTSUB", 0x7004, 0x4, 1, 0x0, 0x0, 0x0, 0x0, false⟩,
  ⟨"BLT_STAT", 0x7008, 0x4, 1, 0x0, 0x0, 0x1F, 0x0, false⟩,
  ⟨"BLT_IEN", 0x700C, 0x4, 1, 0x0, 0x1F, 0x0, 0x0, false⟩,
  ⟨"BLT_QUEUE", 0x7010, 0x4, 1, 0x0, 0x0, 0x0, 0x0, false⟩,
  ⟨"BLT_TAILLINE", 0x7014, 0x4, 1, 0x0, 0x0, 0x0, 0x0, false⟩,
  ⟨"BLT_TAILFRAME", 0x7018, 0x4, 1, 0x0, 0x0, 0x0, 0x0, false⟩,
  ⟨"BLT_DEAD", 0x701C, 0x4, 1, 0x0, 0xFFF00FFF, 0x0, 0x0, false⟩,
  ⟨"BLT_WM", 0x7020, 0x4, 1, 0x0, 0xFFF, 0x0, 0x0, false⟩,
  ⟨"BLT_CAPS", 0x7024, 0x4, 1, 0x0, 0x0, 0x0, 0x0, false⟩,
  ⟨"BLT_ACCCNT", 0x7028, 0x4, 1, 0x0, 0x0, 0x0, 0x0, false⟩,
  ⟨"BLT_DONECNT", 0x702C, 0x4, 1, 0x0, 0x0, 0x0, 0x0, false⟩]

def regRowsDMA : List RegDesc := [
  ⟨"DMA_CHCTL", 0x8000, 0x40, 8, 0x0, 0x0, 0x0, 0x3, false⟩,
  ⟨"DMA_CHPC", 0x8004, 0x40, 8, 0x0, 0x3FFF0, 0x0, 0x0, false⟩,
  ⟨"DMA_CHSTAT", 0x8008, 0x40, 8, 0x0, 0x0, 0x0, 0x0, false⟩,
  ⟨"DMA_CHSOFS", 0x800C, 0x40, 8, 0x0, 0xFFFFFFFF, 0x0, 0x0, false⟩,
  ⟨"DMA_CHDOFS", 0x8010, 0x40, 8, 0x0, 0xFFFFFFFF, 0x0, 0x0, false⟩,
  ⟨"DMA_CHSTRIDE", 0x8014, 0x40, 8, 0x0, 0xFFFFFFFF, 0x0, 0x0, false⟩,
  ⟨"DMA_CHFREC", 0x8018, 0x40, 8, 0x0, 0x3FFF1, 0x0, 0x0, false⟩,
  ⟨"DMA_CHISS", 0x801C, 0x40, 8, 0x0, 0x0, 0x0, 0x0, false⟩,
  ⟨"DMA_CHVIS", 0x8020, 0x40, 8, 0x0, 0x0, 0x0, 0x0, false⟩,
  ⟨"DMA_CHDUE", 0x8024, 0x40, 8, 0x0, 0x0, 0x0, 0x0, false⟩,
  ⟨"DMA_CHQUOTA", 0x8028, 0x40, 8, 0x0, 0x0, 0x0, 0x0, false⟩,
  ⟨"DMA_CHLOOP", 0x802C, 0x40, 8, 0x0, 0x0, 0x0, 0x0, false⟩,
  ⟨"DMA_STAT", 0x8200, 0x4, 1, 0x0, 0x0, 0xFFFFFFFF, 0x0, false⟩,
  ⟨"DMA_IEN", 0x8204, 0x4, 1, 0x0, 0xFFFFFFFF, 0x0, 0x0, false⟩,
  ⟨"DMA_EVT", 0x8208, 0x4, 1, 0x0, 0x0, 0xFFFF, 0x0, false⟩,
  ⟨"DMA_EVTSET", 0x820C, 0x4, 1, 0x0, 0x0, 0x0, 0xFFFF, false⟩,
  ⟨"DMA_REQLO", 0x8210, 0x4, 1, 0x0, 0x0, 0x0, 0x0, false⟩,
  ⟨"DMA_REQHI", 0x8214, 0x4, 1, 0x0, 0x0, 0x0, 0x0, false⟩,
  ⟨"DMA_TAGF", 0x8218, 0x4, 1, 0x0, 0x0, 0xFF, 0x0, false⟩,
  ⟨"DMA_TAGIEN", 0x821C, 0x4, 1, 0x0, 0xFF, 0x0, 0x0, false⟩]

def regRowsTMR : List RegDesc := [
  ⟨"TMR_CTL", 0x9000, 0x20, 8, 0x0, 0xFF030333, 0x0, 0x0, false⟩,
  ⟨"TMR_CNT", 0x9004, 0x20, 8, 0x0, 0xFFFFFFFF, 0x0, 0x0, false⟩,
  ⟨"TMR_PER", 0x9008, 0x20, 8, 0xFFFFFFFF, 0xFFFFFFFF, 0x0, 0x0, false⟩,
  ⟨"TMR_CMP", 0x900C, 0x20, 8, 0x0, 0xFFFFFFFF, 0x0, 0x0, false⟩,
  ⟨"TMR_CMPADD", 0x9010, 0x20, 8, 0x0, 0xFFFFFFFF, 0x0, 0x0, false⟩,
  ⟨"TMR_GO", 0x9100, 0x4, 1, 0x0, 0x0, 0x0, 0xFFFF, false⟩,
  ⟨"TMR_STAT", 0x9104, 0x4, 1, 0x0, 0x0, 0xFFFFFF, 0x0, false⟩,
  ⟨"TMR_IEN", 0x9108, 0x4, 1, 0x0, 0xFFFFFF, 0x0, 0x0, false⟩,
  ⟨"WDG_KEY", 0x9200, 0x4, 1, 0x0, 0x0, 0x0, 0xFFFFFFFF, false⟩,
  ⟨"WDG_CFG", 0x9204, 0x4, 1, 0x200, 0xF07, 0x0, 0x0, false⟩,
  ⟨"WDG_LOAD", 0x9208, 0x4, 1, 0x10000, 0xFFFFFF, 0x0, 0x0, false⟩,
  ⟨"WDG_FEED", 0x920C, 0x4, 1, 0x0, 0x0, 0x0, 0xFFFFFFFF, false⟩,
  ⟨"WDG_CNT", 0x9210, 0x4, 1, 0x0, 0x0, 0x0, 0x0, false⟩,
  ⟨"WDG_STAT", 0x9214, 0x4, 1, 0x0, 0x0, 0x7, 0x0, false⟩]

def regRowsINTC : List RegDesc := [
  ⟨"INTC_PEND", 0xA000, 0x4, 1, 0x0, 0x0, 0x0, 0x0, false⟩,
  ⟨"INTC_EN", 0xA004, 0x4, 1, 0x0, 0xFFFFE, 0x0, 0x0, false⟩,
  ⟨"INTC_PRIO0", 0xA008, 0x4, 1, 0x11111110, 0x77777770, 0x0, 0x0, false⟩,
  ⟨"INTC_PRIO1", 0xA00C, 0x4, 1, 0x11111111, 0x77777777, 0x0, 0x0, false⟩,
  ⟨"INTC_PRIO2", 0xA010, 0x4, 1, 0x1111, 0x7777, 0x0, 0x0, false⟩,
  ⟨"INTC_THRESH", 0xA014, 0x4, 1, 0x0, 0x7, 0x0, 0x0, false⟩,
  ⟨"INTC_CLAIM", 0xA018, 0x4, 1, 0x0, 0x0, 0x0, 0x0, false⟩]

def regRowsAUD0 : List RegDesc := [
  ⟨"AUD_SVCTL", 0xB000, 0x40, 32, 0x0, 0x67, 0x0, 0x80, false⟩,
  ⟨"AUD_SVADDR", 0xB004, 0x40, 32, 0x0, 0xFFFFFFFF, 0x0, 0x0, false⟩,
  ⟨"AUD_SVLEN", 0xB008, 0x40, 32, 0x0, 0xFFFFF, 0x0, 0x0, false⟩,
  ⟨"AUD_SVLOOP", 0xB00C, 0x40, 32, 0x0, 0xFFFFF, 0x0, 0x0, false⟩,
  ⟨"AUD_SVSTEP", 0xB010, 0x40, 32, 0x100000, 0x3FFFFF, 0x0, 0x0, false⟩,
  ⟨"AUD_SVVOL", 0xB014, 0x40, 32, 0x8000, 0xFFFF, 0x0, 0x0, false⟩,
  ⟨"AUD_SVPOS", 0xB018, 0x40, 32, 0x0, 0xFFFFF000, 0x0, 0x0, false⟩,
  ⟨"AUD_SVSTRM", 0xB01C, 0x40, 32, 0x0, 0xFFFF, 0x0, 0x0, false⟩,
  ⟨"AUD_WVCTL", 0xB800, 0x40, 8, 0x0, 0x7F, 0x0, 0x80, false⟩,
  ⟨"AUD_WVFREQ", 0xB804, 0x40, 8, 0x0, 0xFFFFFFFF, 0x0, 0x0, false⟩,
  ⟨"AUD_WVVOL", 0xB808, 0x40, 8, 0x8000, 0xFFFF, 0x0, 0x0, false⟩,
  ⟨"AUD_WVTAB0", 0xB820, 0x40, 8, 0x0, 0xFFFFFFFF, 0x0, 0x0, false⟩,
  ⟨"AUD_WVTAB1", 0xB824, 0x40, 8, 0x0, 0xFFFFFFFF, 0x0, 0x0, false⟩,
  ⟨"AUD_WVTAB2", 0xB828, 0x40, 8, 0x0, 0xFFFFFFFF, 0x0, 0x0, false⟩,
  ⟨"AUD_WVTAB3", 0xB82C, 0x40, 8, 0x0, 0xFFFFFFFF, 0x0, 0x0, false⟩,
  ⟨"AUD_WVTAB4", 0xB830, 0x40, 8, 0x0, 0xFFFFFFFF, 0x0, 0x0, false⟩,
  ⟨"AUD_WVTAB5", 0xB834, 0x40, 8, 0x0, 0xFFFFFFFF, 0x0, 0x0, false⟩,
  ⟨"AUD_WVTAB6", 0xB838, 0x40, 8, 0x0, 0xFFFFFFFF, 0x0, 0x0, false⟩,
  ⟨"AUD_WVTAB7", 0xB83C, 0x40, 8, 0x0, 0xFFFFFFFF, 0x0, 0x0, false⟩,
  ⟨"AUD_SAMPLE", 0xBC00, 0x4, 1, 0x0, 0x0, 0x0, 0x0, false⟩]

def regRowsAUD1 : List RegDesc := [
  ⟨"AUD_SPOS", 0xBC04, 0x4, 1, 0x0, 0x0, 0x0, 0x0, false⟩,
  ⟨"AUD_STAT", 0xBC08, 0x4, 1, 0x0, 0x0, 0xF, 0x0, false⟩,
  ⟨"AUD_IEN", 0xBC0C, 0x4, 1, 0x0, 0xF, 0x0, 0x0, false⟩,
  ⟨"AUD_VEND", 0xBC10, 0x4, 1, 0x0, 0x0, 0xFFFFFFFF, 0x0, false⟩,
  ⟨"AUD_VIEN", 0xBC14, 0x4, 1, 0x0, 0xFFFFFFFF, 0x0, 0x0, false⟩,
  ⟨"AUD_PIDX", 0xBC20, 0x4, 1, 0x80000000, 0x800003FF, 0x0, 0x0, false⟩,
  ⟨"AUD_PDATA", 0xBC24, 0x4, 1, 0x0, 0xFFFFFFFF, 0x0, 0x0, false⟩,
  ⟨"AUD_SWAP", 0xBC28, 0x4, 1, 0x0, 0x0, 0x0, 0x1, false⟩,
  ⟨"AUD_BSTAT", 0xBC2C, 0x4, 1, 0x0, 0x0, 0x0, 0x0, false⟩,
  ⟨"AUD_CAPS", 0xBC30, 0x4, 1, 0x0, 0x0, 0x0, 0x0, false⟩,
  ⟨"AUD_OCFG", 0xBC34, 0x4, 1, 0x0, 0x0, 0x0, 0x0, false⟩]

def regRowsINP : List RegDesc := [
  ⟨"INP_LEVEL", 0xC000, 0x4, 1, 0x0, 0x0, 0x0, 0x0, false⟩,
  ⟨"INP_HDR", 0xC004, 0x4, 1, 0x0, 0x0, 0x0, 0x0, false⟩,
  ⟨"INP_SEQ", 0xC008, 0x4, 1, 0x0, 0x0, 0x0, 0x0, false⟩,
  ⟨"INP_FRAME", 0xC00C, 0x4, 1, 0x0, 0x0, 0x0, 0x0, false⟩,
  ⟨"INP_PAY", 0xC010, 0x4, 12, 0x0, 0x0, 0x0, 0x0, false⟩,
  ⟨"INP_POP", 0xC040, 0x4, 1, 0x0, 0x0, 0x0, 0x1, false⟩,
  ⟨"INP_STAT", 0xC044, 0x4, 1, 0x0, 0x0, 0xF, 0x0, false⟩,
  ⟨"INP_IEN", 0xC048, 0x4, 1, 0x0, 0xF, 0x0, 0x0, false⟩,
  ⟨"INP_DROPS", 0xC04C, 0x4, 1, 0x0, 0x0, 0x0, 0x0, false⟩,
  ⟨"INP_RPT", 0xC060, 0x4, 8, 0x0, 0xFFFFFFFF, 0x0, 0x0, false⟩,
  ⟨"INP_RPTSEND", 0xC080, 0x4, 1, 0x0, 0x0, 0x0, 0xF000003F, false⟩,
  ⟨"INP_RPTQ", 0xC084, 0x4, 1, 0x0, 0x0, 0x0, 0x0, false⟩,
  ⟨"INP_RPTSEQ", 0xC088, 0x4, 1, 0x0, 0x0, 0x0, 0x0, false⟩]

def regRowsID : List RegDesc := [
  ⟨"ID_REV", 0xF000, 0x4, 1, 0xB0, 0x0, 0x0, 0x0, false⟩,
  ⟨"ID_SESSLO", 0xF004, 0x4, 1, 0x0, 0x0, 0x0, 0x0, false⟩,
  ⟨"ID_SESSHI", 0xF008, 0x4, 1, 0x0, 0x0, 0x0, 0x0, false⟩,
  ⟨"ID_AFRAMES", 0xF00C, 0x4, 1, 0x0, 0x0, 0x0, 0x0, false⟩,
  ⟨"ID_QFRAMES", 0xF010, 0x4, 1, 0x0, 0x0, 0x0, 0x0, false⟩,
  ⟨"ID_INPUTS", 0xF014, 0x4, 1, 0x0, 0x0, 0x0, 0x0, false⟩,
  ⟨"ID_VBYTESLO", 0xF018, 0x4, 1, 0x0, 0x0, 0x0, 0x0, false⟩,
  ⟨"ID_ABYTESLO", 0xF020, 0x4, 1, 0x0, 0x0, 0x0, 0x0, false⟩,
  ⟨"ID_CYCLO", 0xF028, 0x4, 1, 0x0, 0x0, 0x0, 0x0, false⟩,
  ⟨"ID_VBYTESHI", 0xF01C, 0x4, 1, 0x0, 0x0, 0x0, 0x0, false⟩,
  ⟨"ID_ABYTESHI", 0xF024, 0x4, 1, 0x0, 0x0, 0x0, 0x0, false⟩,
  ⟨"ID_CYCHI", 0xF02C, 0x4, 1, 0x0, 0x0, 0x0, 0x0, false⟩]

def regRowsSTIM : List RegDesc := [
  ⟨"STIM_PORT", 0xD000, 0x4, 32, 0x0, 0x0, 0x0, 0xFFFFFFFF, false⟩,
  ⟨"STIM_EN", 0xD080, 0x4, 1, 0x0, 0xFFFFFFFF, 0x0, 0x0, false⟩,
  ⟨"STIM_CTL", 0xD084, 0x4, 1, 0x0, 0x1, 0x0, 0x0, false⟩,
  ⟨"STIM_CNT", 0xD088, 0x4, 1, 0x0, 0x0, 0x0, 0x0, false⟩]

/-- The register maps by block number, the block of offset 0x1000 × k at place k (R35). -/
def regBlocks : List (List RegDesc) := [
  regRowsCELL,
  regRowsRST,
  regRowsPLN0 ++ regRowsPLN1,
  regRowsSPR,
  regRowsCMP,
  regRowsSCL,
  regRowsLNL,
  regRowsBLT,
  regRowsDMA,
  regRowsTMR,
  regRowsINTC,
  regRowsAUD0 ++ regRowsAUD1,
  regRowsINP,
  regRowsSTIM,
  regRowsSIG,
  regRowsID]

/-- Does the row hold a register at this offset? -/
def RegDesc.has (d : RegDesc) (off : Nat) : Bool :=
  decide (d.base ≤ off) && (off - d.base) % d.stride == 0 && decide ((off - d.base) / d.stride < d.count)

/-- The row of the register at an offset; none where no register occupies it (R37). -/
def regDesc (off : Nat) : Option RegDesc :=
  (regBlocks.getD (off / 0x1000) []).find? fun d => d.has off

/-- The reset value of the register at an offset; 0 where there is none. -/
def regReset (off : Nat) : Word := match regDesc off with
  | some d => BitVec.ofNat 32 d.reset
  | none => 0

/-- Is the register at this offset a frame register (R73)? -/
def regFrame (off : Nat) : Bool := match regDesc off with
  | some d => d.frame
  | none => false

end Sys2Proof.Machine
end

