-- ==== Sys2Proof/Machine/Sparse.lean ====
section
/-! DEFINITION. Sparse memories and register files: lists of key and value pairs in one canonical form, with the reads,
writes and byte-order helpers over them. -/

namespace Sys2Proof.Machine

/-- The value at key `a`; an unlisted key holds `dflt a`. -/
def Sparse.get {α : Type} (dflt : Nat → α) : List (Nat × α) → Nat → α
  | [], a => dflt a
  | (k, v) :: r, a => if k = a then v else if a < k then dflt a else Sparse.get dflt r a

/-- Store `v` at key `a`, keeping the keys rising and listing no key that holds its default. -/
def Sparse.put {α : Type} [DecidableEq α] (dflt : Nat → α) : List (Nat × α) → Nat → α → List (Nat × α)
  | [], a, v => if v = dflt a then [] else [(a, v)]
  | (k, w) :: r, a, v =>
    if a < k then (if v = dflt a then (k, w) :: r else (a, v) :: (k, w) :: r)
    else if a = k then (if v = dflt a then r else (a, v) :: r)
    else (k, w) :: Sparse.put dflt r a v

/-- The canonical form: keys strictly rising, above `lo`, and no key that holds its default. -/
def Sparse.wfFrom {α : Type} [DecidableEq α] (dflt : Nat → α) (lo : Nat) : List (Nat × α) → Bool
  | [] => true
  | (k, v) :: r => decide (lo ≤ k) && decide (v ≠ dflt k) && Sparse.wfFrom dflt (k + 1) r

/-- The canonical form of a whole sparse file. -/
def Sparse.wf {α : Type} [DecidableEq α] (dflt : Nat → α) (m : List (Nat × α)) : Bool := Sparse.wfFrom dflt 0 m

/-- The canonical form of a list of key and value pairs, a later pair over an earlier one. -/
def Sparse.normal {α : Type} [DecidableEq α] (dflt : Nat → α) (m : List (Nat × α)) : List (Nat × α) :=
  m.foldl (fun r q => Sparse.put dflt r q.1 q.2) []

/-! Memories: bytes by address; a byte that nothing has written reads 0x00 (R29, R107). -/

/-- A memory of bytes. -/
abbrev Memory := List Host.Cell

/-- What an unlisted address reads as (R29: WRAM and VRAM hold 0; R107: unwritten asset lines hold 0x00).
DEDUCED, unsafe, log entry 7. -/
def Memory.unlisted (_ : Nat) : Byte := 0

def Memory.read (m : Memory) (a : Nat) : Byte := Sparse.get Memory.unlisted m a

def Memory.write (m : Memory) (a : Nat) (v : Byte) : Memory := Sparse.put Memory.unlisted m a v

/-- The canonical form of a memory. -/
def Memory.wf (m : Memory) : Bool := Sparse.wf Memory.unlisted m

/-- `n` bytes from `a` upward. -/
def Memory.readBytes (m : Memory) (a n : Nat) : Bytes := (List.range n).map fun i => m.read (a + i)

/-- Store a string of bytes from `a` upward. -/
def Memory.writeBytes (m : Memory) (a : Nat) : Bytes → Memory
  | [] => m
  | b :: bs => Memory.writeBytes (m.write a b) (a + 1) bs

/-! Byte order: everything a cell sees is little-endian; packets and messages say their own order. -/

/-- The number that a byte string spells, least significant byte first. -/
def leNat : Bytes → Nat
  | [] => 0
  | b :: bs => b.toNat + 256 * leNat bs

/-- The `n` low bytes of a number, least significant first. -/
def leBytes : Nat → Nat → Bytes
  | 0, _ => []
  | n + 1, v => BitVec.ofNat 8 v :: leBytes n (v / 256)

/-- The number that a byte string spells, most significant byte first. -/
def beNat (bs : Bytes) : Nat := bs.foldl (fun a b => a * 256 + b.toNat) 0

/-- The `n` low bytes of a number, most significant first. -/
def beBytes (n v : Nat) : Bytes := (leBytes n v).reverse

def Memory.read32 (m : Memory) (a : Nat) : Word := BitVec.ofNat 32 (leNat (m.readBytes a 4))

def Memory.read16 (m : Memory) (a : Nat) : Nat := leNat (m.readBytes a 2)

def Memory.write32 (m : Memory) (a : Nat) (v : Word) : Memory := m.writeBytes a (leBytes 4 v.toNat)

/-! Bit fields of a word. -/

/-- Bits hi..lo of a number, as a number. -/
def bits (v hi lo : Nat) : Nat := v / 2 ^ lo % 2 ^ (hi + 1 - lo)

/-- Bit k of a number. -/
def bit (v k : Nat) : Bool := v / 2 ^ k % 2 == 1

/-- A number read as two's complement of `w` bits. -/
def signed (w v : Nat) : Int := if v % 2 ^ w < 2 ^ (w - 1) then (v % 2 ^ w : Nat) else (v % 2 ^ w : Nat) - (2 ^ w : Nat)

/-- The low `w` bits of an integer. -/
def wrap (w : Nat) (v : Int) : Nat := (v % (2 ^ w : Nat)).toNat

def b2n (b : Bool) : Nat := if b then 1 else 0

/-- Clamp an integer to lo..hi. -/
def clampInt (lo hi v : Int) : Int := if v < lo then lo else if v > hi then hi else v

/-- Add one to a counter that stops at `top`. -/
def satInc (top v : Nat) : Nat := if v < top then v + 1 else v

/-- `n` items from position `a` of a list. -/
def slice {α : Type} (l : List α) (a n : Nat) : List α := (l.drop a).take n

/-! CRC-32C (R107): polynomial 0x1EDC_6F41, reflected, initial value and final XOR 0xFFFF_FFFF. -/

/-- One bit step of the reflected CRC-32C; 0x82F6_3B78 is 0x1EDC_6F41 reflected. -/
def crcBit (c : Word) : Word := if c.getLsbD 0 then (c >>> 1) ^^^ 0x82F63B78#32 else c >>> 1

def crcByte (c : Word) (b : Byte) : Word :=
  crcBit (crcBit (crcBit (crcBit (crcBit (crcBit (crcBit (crcBit (c ^^^ b.setWidth 32))))))))

/-- The running CRC over a string of bytes. -/
def crcRun (c : Word) (bs : Bytes) : Word := bs.foldl crcByte c

/-- CRC-32C of a string of bytes. -/
def crc32c (bs : Bytes) : Word := crcRun 0xFFFFFFFF#32 bs ^^^ 0xFFFFFFFF#32

end Sys2Proof.Machine
end

