-- ==== Sys2Proof/Machine/CellState.lean ====
section
/-! DEFINITION. The state of one cell as plain data: its processor, beam, memories, registers, picture, engines and
session. -/

namespace Sys2Proof.Machine

/-! ## Processor and beam (02_cell_processor_and_beam_time.md) -/

/-- What holds the processor back (R27, R39). -/
inductive Wait where
  | none
  /-- An mlwait wait: it ends at this position of this frame. -/
  | line (frame pos : Nat)
  /-- WFI has executed and no enabled interrupt is pending. -/
  | wfi
  deriving DecidableEq, Repr

/-- The debug side of a cell processor (R430 to R435). -/
structure CpuDebug where
  /-- Halted at an instruction boundary. -/
  halted   : Bool
  /-- A HALT was accepted and has not taken effect. -/
  haltReq  : Bool
  /-- A STEP was accepted and the one instruction has not completed. -/
  stepping : Bool
  stepped  : Bool
  /-- HALTCAUSE: 0 not halted, 1 debugger, 2 EBREAK, 3 step. -/
  cause    : Nat
  ebrkHalt : Bool
  injExc   : Bool
  injCause : Nat
  deriving DecidableEq, Repr

/-- The cell processor (R26 to R33). -/
structure Cpu where
  pc       : Word
  x        : Vector Word 32
  mie      : Bool
  mpie     : Bool
  mtvec    : Word
  meie     : Bool
  mscratch : Word
  mepc     : Word
  mcause   : Word
  mtval    : Word
  mcycle   : BitVec 64
  minstret : BitVec 64
  cy       : Bool
  ir       : Bool
  mlwait   : Word
  mode     : Bool
  passed   : Bool
  intr     : Bool
  wait     : Wait
  /-- Held in reset until the session's first boundary, and again after it ends (R29, R443). -/
  inReset  : Bool
  /-- A register store whose fourth cycle lies behind a beam event that has not been handled: offset, value, position. -/
  straddle : Option (Nat × Word × Nat)
  dbg      : CpuDebug
  deriving DecidableEq, Repr

/-- The beam in counted cycles (R12, R13, R45). -/
structure Beam where
  /-- Counted cycles since the frame boundary: where the processor's next instruction begins. -/
  fpos      : Nat
  /-- Lines of the present frame whose cycle 0 has been reached. -/
  started   : Nat
  /-- Frames since session start, unwrapped. -/
  frame     : Nat
  inPorch   : Bool
  /-- The porch length of the porch in progress, and the part of δ carried into the porches that follow (R45). -/
  porchLen  : Nat
  porchCarry : Int
  /-- A shadow held by a resync: it counts nothing (R349). -/
  held      : Bool
  deriving DecidableEq, Repr

/-! ## Memories and fences -/

/-- The fenced regions of a cell (R48, R164). -/
inductive Region where
  | pram | wram | vram | asset
  deriving DecidableEq, Repr

/-- What holds a fence entry: the move `n` of a channel, or the block-copy command `n`. -/
inductive FenceOwner where
  | dma (ch : Fin 8) (n : Nat)
  | blt (n : Nat)
  deriving DecidableEq, Repr

/-- A fence: bytes lo to hi, end excluded, of a region (R48). -/
structure Fence where
  owner  : FenceOwner
  region : Region
  lo     : Nat
  hi     : Nat
  deriving DecidableEq, Repr

/-- The storage of a cell (R31, R34, R107, R142). -/
structure Store where
  pram  : Memory
  wram  : Memory
  vram  : Memory
  asset : Memory
  ovA   : Memory
  ovB   : Memory
  /-- Words marked uncorrectable: processor address of each (R31). -/
  bad   : List Nat
  /-- The fences in force (R48). -/
  fences : List Fence
  deriving DecidableEq, Repr

/-! ## Picture (03 to 06) -/

/-- The working values of affine P3 (R97, R98). -/
structure Affine where
  a  : Word
  c  : Word
  xr : Word
  yr : Word
  bUsed : Word
  dUsed : Word
  xWritten : Bool
  yWritten : Bool
  deriving DecidableEq, Repr

/-- The settings of a bitmap layer or of the overlay as a fetch uses them (R100, R102, R141). -/
structure BitmapSet where
  en     : Bool
  fmt    : Nat
  opq0   : Bool
  pal    : Nat
  addr   : Nat
  stride : Nat
  bw     : Nat
  bh     : Nat
  xpos   : Int
  ypos   : Int
  /-- The overlay's alpha; 255 for a bitmap layer. -/
  alpha  : Nat
  deriving DecidableEq, Repr

/-- A line of a layer in its fetch line buffer (R79, R80, R108). -/
structure FetchLine where
  layer   : FetchLayer
  frame   : Nat
  line    : Nat
  set     : BitmapSet
  /-- First byte fetched and the bytes, whole 64-byte lines. -/
  base    : Nat
  data    : Bytes
  arrived : Bool
  urgent  : Bool
  /-- 64-byte lines that failed once and are being read again, and those that failed twice. -/
  retry   : List Nat
  failed  : List Nat
  /-- 64-byte lines that lay under an asset-window fence when they were read (R165). -/
  unread  : List Nat
  deriving DecidableEq, Repr

/-- A pixel of the sprite layer: its PRIO, its palette index or none for the underflow colour, and the table entry that
supplied it (R116, R123). -/
structure SprPx where
  prio  : Nat
  idx   : Option Nat
  entry : Nat
  deriving DecidableEq, Repr

/-- What the evaluation of one line found (R121 to R123). -/
structure SprResult where
  sprites : Nat
  pixels  : Nat
  /-- Kind (0 sprite limit, 1 pixel limit) and entry of an overflow. -/
  ovf     : Option (Nat × Nat)
  tabuf   : Bool
  patuf   : Bool
  deriving DecidableEq, Repr

/-- The sprite line buffer for the next line (R117). -/
structure SprLine where
  line : Nat
  px   : List (Option SprPx)
  res  : SprResult
  /-- Selected entries with their X and Y, for the motion hints (R247). -/
  sel  : List (Nat × Int × Int)
  deriving DecidableEq, Repr

/-- A slot of a captured line list (R127 to R131). -/
inductive LnlSlot where
  /-- FENCED (false) or RANGE (true) on the directory word or on the entry. -/
  | dirError (range : Bool)
  | entryError (range : Bool)
  | write (target : Nat) (value : Word)
  | over (lmax : Nat)
  deriving DecidableEq, Repr

/-- The list captured for a line, and the next slot (R128). -/
structure LnlRun where
  /-- The line served and the frame it belongs to. -/
  line  : Nat
  frame : Nat
  next  : Nat
  slots : List LnlSlot
  deriving DecidableEq, Repr

/-- An operator signature region (R145, R160). -/
structure OpRegion where
  x0  : Nat
  y0  : Nat
  w   : Nat
  h   : Nat
  exp : Word
  en  : Bool
  cmp : Bool
  signed : Bool
  deriving DecidableEq, Repr

/-- An overlay set with the operator regions that stage with it (R143, R145). -/
structure OvSet where
  en    : Bool
  fmt   : Nat
  x     : Nat
  y     : Nat
  w     : Nat
  h     : Nat
  alpha : Nat
  buf   : Bool
  ufcol : Word
  rgn6  : OpRegion
  rgn7  : OpRegion
  deriving DecidableEq, Repr

/-- The overlay's sets (R143). -/
structure Overlay where
  /-- Submitted and not yet staged, with the frame in which it stages. -/
  submitted : Option (OvSet × Nat)
  staged    : Option OvSet
  active    : OvSet
  /-- Did each operator region mismatch in the last frame compared (R148)? -/
  mism6     : Bool
  mism7     : Bool
  /-- Admitted maximum width and height (R142). -/
  maxW      : Nat
  maxH      : Nat
  deriving DecidableEq, Repr

/-- The overlay-proof accumulator of one operator region within a minute (R149, R405). -/
structure ProofAcc where
  frames   : Nat
  matched  : Nat
  mism     : Nat
  expected : Word
  first    : Option Nat
  digestIn : Bytes
  deriving DecidableEq, Repr

/-- Commits, quiet frames and the composed picture (R73 to R86, R97, R105 to R110, R119, R128, R135 to R150). -/
structure Picture where
  armed      : Bool
  staged     : Bool
  /-- Frame at whose boundary the armed or staged commit applies (RST_CFRAME, unwrapped). -/
  applyFrame : Nat
  stagedRegs : List (Nat × Word)
  activeRegs : List (Nat × Word)
  /-- Bitmap layers that failed the check of R105 in the staged and in the active copy. -/
  stagedFail : Bool × Bool
  activeFail : Bool × Bool
  /-- Has the buffer of the active copy retired already (R109)? -/
  retired    : Bool × Bool
  /-- Does the staged commit retire each layer's buffer at VACTIVE (R109)? -/
  retiring   : Bool × Bool
  quiet      : Bool
  dirty      : Bool
  quietRun   : Nat
  /-- The first frame of the session, or after a resync, a promotion or a migration (R84). -/
  firstFrame : Bool
  affine     : Affine
  fetch      : List FetchLine
  spr        : Option SprLine
  /-- Results of the last composed frame, line by line (R119). -/
  sprLast    : List SprResult
  lnl        : Option LnlRun
  overlay    : Overlay
  palette    : List (Nat × Word)
  coefPend   : List (Nat × Word)
  coefStaged : List (Nat × Word)
  coefActive : List (Nat × Word)
  /-- Composed native lines of the current or last composed frame, RGB 24-bit numbers. -/
  lines      : List (List Nat)
  deriving DecidableEq, Repr

/-! ## Block copy and DMA (07) -/

/-- An accepted block-copy command (R169, R176). -/
structure BltCmd where
  seq    : Nat
  /-- WRAM offset of its command block and the eight words read from it. -/
  block  : Nat
  words  : List Word
  /-- Absolute visibility line and FDELTA (R176, R180). -/
  vis    : Nat
  fdelta : Nat
  landed : Bool
  late   : Bool
  tagf   : Bool
  deriving DecidableEq, Repr

/-- The block-copy engine (R176 to R180). -/
structure Blt where
  queue   : List BltCmd
  /-- The tail position: last line given units, units given in it. -/
  tl      : Nat
  tu      : Nat
  /-- Visibility line of the last accepted command, and whether the watermark is armed. -/
  lastVis : Nat
  armed   : Bool
  /-- Accepted commands since session start. -/
  count   : Nat
  /-- Write-backs that take effect when the present cycle ends: block and STATUS (R168, R180). -/
  wb      : List (Nat × Word)
  deriving DecidableEq, Repr

/-- A move in flight (R191, R192). DEDUCED, unsafe, log entry 33. -/
structure DmaMoveRec where
  seq    : Nat
  src    : Nat
  dst    : Nat
  sstride : Nat
  dstride : Nat
  width  : Nat
  rows   : Nat
  /-- The source rows, read when the move issued. -/
  data   : List Bytes
  /-- Absolute due line. -/
  due    : Nat
  landed : Bool
  late   : Bool
  tagf   : Bool
  vevt   : Option Nat
  deriving DecidableEq, Repr

/-- What a channel is held on. -/
inductive DmaHeld where
  | none
  /-- A MOVE that passed its checks and has not issued: rows, width, source, destination, strides, SADV, DADV, event. -/
  | move (rows width src dst sstride dstride : Nat) (sadv dadv : Bool) (vevt : Option Nat)
  | waitLine (frame line : Nat)
  | waitReq (req : Nat)
  | waitEvent (mask : Nat)
  deriving DecidableEq, Repr

/-- A DMA channel (R181 to R194). STATE: 0 IDLE, 1 RUN, 2 WAIT, 3 ENDED, 4 ERROR. -/
structure DmaChan where
  state  : Nat
  /-- WRAM offset of the current instruction. -/
  pc     : Nat
  code   : Nat
  cnt0   : Nat
  cnt1   : Nat
  armed0 : Bool
  armed1 : Bool
  held   : DmaHeld
  tprev  : Nat
  /-- Units used, by target frame. -/
  used   : List (Nat × Nat)
  moves  : List DmaMoveRec
  /-- STOP was written during the current instruction, which is the channel's last (R183). -/
  ending : Bool
  /-- The words of the current instruction, as the channel read them in its first cycle; none where it cannot be read. -/
  words  : List Word
  /-- Position of the fourth cycle of the current instruction, or of the line that its WAIT names (R182). -/
  acts   : Nat
  /-- SOFS, DOFS, SSTRIDE and DSTRIDE as they stand in the first cycle of the current instruction (R184). -/
  sofs   : Word
  dofs   : Word
  stride : Word
  /-- In that cycle the instruction found that it had to wait for something that other events bring. -/
  low    : Bool
  deriving DecidableEq, Repr

/-- The counted cycles of events. DEDUCED, unsafe, log entry 5. -/
structure EventTimes where
  /-- Position in the frame of the last event or register write. -/
  last    : Nat
  /-- Position from which MEIP shows the source event that last raised it (R42). -/
  irqFrom : Nat
  /-- The counted cycle of the last acknowledge of a DMA request, and the requests acknowledged in it (R187). -/
  ackPos  : Nat
  acked   : List Nat
  /-- The first position of the frame that is still compared with RST_LCMP: past its last write and its last match (R87). -/
  lcmpFrom : Nat
  deriving DecidableEq, Repr

/-! ## Timers, watchdog (08) -/

/-- Prescaler counts, pair latches and DMA requests of the eight timers, and the watchdog's hidden state. -/
structure Timers where
  presc  : Vector Nat 8
  /-- Position of the counted cycle that first began with a timer's count above PER (R201). -/
  above  : Vector Nat 8
  latch  : Vector Word 4
  /-- The DMA requests, the first cycle in which each is asserted, and the cycle after the last event that asserts it
  (R205). -/
  dreq   : Vector Bool 8
  dfrom  : Vector Nat 8
  dlast  : Vector Nat 8
  /-- Has the watchdog barked since the last feed? -/
  barked : Bool
  /-- Window cycles left of an open locked sequence. -/
  window : Option Nat
  deriving DecidableEq, Repr

/-! ## Audio (09) -/

/-- A sample voice (R219, R222). -/
structure SVoice where
  i    : Nat
  f    : Nat
  cons : Nat
  trig : Bool
  posW : Option Nat
  deriving DecidableEq, Repr

/-- A wave voice (R223, R224). -/
structure WVoice where
  p     : Word
  h     : List Int
  noise : Nat
  trig  : Bool
  deriving DecidableEq, Repr

/-- A delay line (R226). -/
structure DelayLine where
  len  : Nat
  head : Nat
  mem  : List (Nat × Word)
  deriving DecidableEq, Repr

/-- The audio state of a cell (R214 to R232). -/
structure Audio where
  sv      : Vector SVoice 32
  wv      : Vector WVoice 8
  /-- Index within its frame of the next boundary. -/
  next    : Nat
  /-- Boundaries since session start, unwrapped. -/
  count   : Nat
  bankP   : List (Nat × Word)
  bankA   : List (Nat × Word)
  program : List Word
  biquad  : List (Nat × Word)
  delays  : List DelayLine
  /-- Voice outputs of a boundary whose program has not run. -/
  voices  : Option (List Int)
  out     : Int × Int
  /-- Output samples not yet in a packet, oldest first, and the session index of the first. -/
  buf     : List (Int × Int)
  bufIdx  : Nat
  /-- The Opus encoder's state. -/
  opus    : Bytes
  /-- Frame, line and index in its frame of the last sample of each audio packet that has not formed. -/
  marks   : List (Nat × Nat × Nat)
  deriving DecidableEq, Repr

/-! ## Encoder (10) -/

/-- The admitted encoder settings (R237, R253 to R260, R270, R311). -/
structure EncCfg where
  codec   : Nat
  profile : Nat
  entropy : Nat
  deblock : Bool
  level   : Nat
  rate    : Nat
  cw      : Nat
  ch      : Nat
  qpmin   : Nat
  qpmax   : Nat
  cols    : Nat
  rper    : Nat
  ltper   : Nat
  idrmin  : Nat
  qskip   : Nat
  kaint   : Nat
  deriving DecidableEq, Repr

/-- The kinds of picture a frame may be coded as (R244, R264). -/
inductive PicKind where
  | none | idr | active | skip
  deriving DecidableEq, Repr

/-- What a layer showed on a line, for the motion hints of the next composed frame (R247). -/
structure PlaneSnap where
  en   : Bool
  aff  : Bool
  fmt  : Nat
  offx : Int
  offy : Int
  a    : Word
  c    : Word
  xr   : Word
  yr   : Word
  deriving DecidableEq, Repr

/-- A composed line as the hints need it (R247): the owning layer of each pixel (0 none, 1 to 4 planes, 5 and 6 bitmap
layers, 7 + e sprite entry e), the planes, the bitmap positions and the sprite entries on the line. -/
structure HintLine where
  owner  : List Nat
  planes : List PlaneSnap
  bitmap : List (Bool × Nat × Int × Int)
  spr    : List (Nat × Int × Int)
  deriving DecidableEq, Repr

/-- The encoder state of a cell (R256, R261). -/
structure Enc where
  cfg      : EncCfg
  credit   : Int
  racc     : Nat
  grant    : Nat
  pqp      : List Nat
  pbits    : List Nat
  /-- PrevRefFrameNum, coded pictures since the IDR, active pictures since the IDR. -/
  frameNum : Nat
  poc      : Nat
  actives  : Nat
  /-- Frames since the last IDR, quiet or not (R255). -/
  sinceIdr : Nat
  /-- Latest frame that holds an IDR, coded or stamped (R254). -/
  lastIdr  : Nat
  stamps   : List Nat
  /-- Consecutive quiet frames (R259). -/
  q        : Nat
  pic      : PicKind
  /-- Next stripe of the picture in progress. -/
  stripe   : Nat
  /-- 64-byte reference lines of the stripe in progress that are read as 0x00 (R263). -/
  refBad   : List Nat
  keepDue  : Bool
  /-- Reference pictures and the picture being built, stripe by stripe. -/
  refShort : List Bytes
  refLong  : Option (List Bytes)
  cur      : List Bytes
  hints    : List HintLine
  hintsPrev : List HintLine
  tileCrc  : List Word
  /-- NLC: colour table, NEXT and the previous NLC frame (R266). -/
  table    : List (Nat × Nat)
  next     : Nat
  prevNlc  : List (List Nat)
  deriving DecidableEq, Repr

/-! ## Streams and input (11) -/

/-- The kinds of unit the packet engine sends (R300). -/
inductive UnitKind where
  | video | audio | keepalive
  deriving DecidableEq, Repr

/-- A closed stripe, audio packet or keep-alive waiting for egress (R279 to R282). -/
structure EUnit where
  kind   : UnitKind
  frame  : Nat
  /-- Frames since session start with parked frames counted (R276), or the session index of the first sample. -/
  ts     : Nat
  /-- Stripe index, or the audio packet's index within its frame (R344). -/
  stripe : Nat
  key    : Bool
  /-- Last stripe of its picture. -/
  last   : Bool
  nals   : List Bytes
  check  : Word
  /-- Does the unit match its check value on intake (R301)? -/
  intact : Bool
  /-- Line at which the stripe completed, or of the last sample boundary (R345). -/
  line   : Nat
  deriving DecidableEq, Repr

/-- A stamped input message (R290). -/
structure InMsg where
  frame   : Nat
  line    : Nat
  player  : Nat
  seq     : Nat
  payload : Bytes
  /-- It arrived after its stamped position had passed (R53). -/
  late    : Bool
  deriving DecidableEq, Repr

/-- A report of the tenant (R292). -/
structure Report where
  player  : Nat
  seq     : Nat
  payload : Bytes
  deriving DecidableEq, Repr

/-- The packet engine's state for a cell (R272 to R282, R292, R294). -/
structure Stream where
  vseq    : Nat
  aseq    : Nat
  vroc    : Nat
  aroc    : Nat
  /-- Units waiting, oldest first; packets of the first unit already sent. -/
  queue   : List EUnit
  sent    : Nat
  egress  : Bool
  /-- Frames spent parked, and the samples they would have held (R325). -/
  parkedFrames  : Nat
  parkedSamples : Nat
  staging : List InMsg
  fifo    : List InMsg
  lastSeq : Nat
  reports : List Report
  /-- Video bytes, audio bytes and input messages of the frame in progress (R402). -/
  vnow    : Nat
  anow    : Nat
  inow    : Nat
  /-- The 64-bit totals of video bytes, audio bytes and counted cycles (R408). -/
  vtot    : Nat
  atot    : Nat
  ctot    : Nat
  /-- Fence epoch in force for the session, and the one that the packets of the first unit carry (R277, R353). -/
  epoch     : Nat
  unitEpoch : Nat
  deriving DecidableEq, Repr

/-! ## Session life (12) -/

inductive SessState where
  | free | loading | admitted | running | parked | migrating | ended
  deriving DecidableEq, Repr

inductive SessRole where
  | none | primary | shadow
  deriving DecidableEq, Repr

inductive SessCmd where
  | start | park | resume | endIt | migrate
  deriving DecidableEq, Repr

/-- The progress of an image load (R304 to R307). -/
structure ImageLoad where
  /-- The container as it has arrived. -/
  data    : Bytes
  /-- Checks passed so far: 0 none, 1 the header block, 2 DIGEST, 3 the signature. -/
  stage   : Nat
  /-- Data blocks verified. -/
  blocks  : Nat
  /-- Contents of the REQ, GRAPH, REGS, PALETTE and SCALER sections once the last block has been verified. -/
  req     : Bytes
  graph   : Bytes
  regs    : Bytes
  palette : Bytes
  scaler  : Bytes
  /-- All blocks verified and every section judged. -/
  complete : Bool
  deriving DecidableEq, Repr

/-- What a session holds on this device (R314, R315, R317, R318). -/
structure Reserve where
  ddr     : Nat
  storage : Nat
  share   : Nat
  load    : Nat
  instants : List Nat
  deriving DecidableEq, Repr

/-- The session of a cell (R312, R322 to R327). -/
structure Session where
  state   : SessState
  role    : SessRole
  desc    : Bytes
  image   : ImageLoad
  ticket  : Bytes
  phase   : Nat
  delay   : Nat
  reserve : Reserve
  /-- The command that is stamped, and the house time of its boundary. -/
  pending : Option (SessCmd × Nat)
  /-- A bite with ACTION 1 ends the session at the next boundary (R327). -/
  biteEnd : Bool
  /-- The ring as measured for an admission, RESUME or MIGRATE that waits (R324, R417, R443). -/
  view : Option RingView
  /-- The boundary of the session's first frame, and the frames run since (house time, ns). -/
  first   : Nat
  partNode : Nat
  partCell : Nat
  deriving DecidableEq, Repr

end Sys2Proof.Machine
end

