-- ==== Sys2Proof/Machine/Cell.lean ====
section
/-! DEFINITION. A whole cell and its reset state. -/

namespace Sys2Proof.Machine

/-- What a cell raises for the rest of the device within one step; the step hands each on before it ends. -/
inductive CellEvent where
  /-- A divergence event: code, frame and line recorded (R56). -/
  | diverge (code frame line : Nat)
  /-- Add one to a subindex of the cell's dictionary objects, 0x1A to 0x1F. -/
  | bump (obj sub : Nat)
  /-- Add an amount to such a subindex. -/
  | add (obj sub amount : Nat)
  /-- Set such a subindex. -/
  | put (obj sub value : Nat)
  /-- An operator region mismatched after a match (R148). -/
  | regionMismatch (region : Nat)
  /-- The watchdog bit (R207). -/
  | bite (ends : Bool)
  /-- A unit failed its check value (R301): kind (0 video, 1 audio), index, frame. -/
  | withheld (kind index frame : Nat)
  /-- A report was taken for a player (R292, R293). -/
  | report (r : Report)
  /-- A trace packet leaves the cell (R438, R439). -/
  | trace (packet : Bytes)
  /-- A frame ended: active or quiet, cycles, video bytes, audio bytes, inputs (R402). -/
  | frameEnd (quiet : Bool) (cycles vbytes abytes inputs : Nat)
  /-- A signed region's result in a frame (R405): region, frame, result, expected, compared. -/
  | proof (region frame : Nat) (result expected : Word) (compared : Bool)
  /-- The session entered another state (R323). -/
  | sessState
  /-- A reference fault asks for an IDR (R263). -/
  | idr
  deriving DecidableEq, Repr

/-- One of the 64 cells (R14). -/
structure Cell where
  cpu    : Cpu
  beam   : Beam
  mem    : Store
  /-- The register file: offset to value, unlisted registers at their reset values. -/
  regs   : List (Nat × Word)
  pic    : Picture
  blt    : Blt
  dma    : Vector DmaChan 8
  tmr    : Timers
  aud    : Audio
  enc    : Enc
  str    : Stream
  sess   : Session
  evt    : EventTimes
  /-- Events raised in the present step; empty between steps. -/
  outbox : List CellEvent
  deriving DecidableEq, Repr

def CpuDebug.reset : CpuDebug := ⟨false, false, false, false, 0, false, false, 0⟩

/-- The processor in reset: R29 and R32 give the values at session start; the rest are the model's (DESIGN CHOICE, unsafe, log entry 6). -/
def Cpu.reset : Cpu where
  pc := 0
  x := Vector.replicate 32 0
  mie := false
  mpie := false
  mtvec := 0
  meie := false
  mscratch := 0
  mepc := 0
  mcause := 0
  mtval := 0
  mcycle := 0
  minstret := 0
  cy := false
  ir := false
  mlwait := 0
  mode := false
  passed := false
  intr := false
  wait := .none
  inReset := true
  straddle := none
  dbg := CpuDebug.reset

def Beam.reset : Beam := ⟨0, 0, 0, false, 0, 0, false⟩

def Store.reset : Store := ⟨[], [], [], [], [], [], [], []⟩

def Affine.reset : Affine := ⟨0, 0, 0, 0, 0, 0, false, false⟩

def OpRegion.reset : OpRegion := ⟨0, 0, 0, 0, 0, false, false, false⟩

def OvSet.reset : OvSet := ⟨false, 0, 0, 0, 0, 0, 0, false, 0, OpRegion.reset, OpRegion.reset⟩

def Overlay.reset : Overlay := ⟨none, none, OvSet.reset, false, false, 0, 0⟩

def Picture.reset : Picture where
  armed := false
  staged := false
  applyFrame := 0
  stagedRegs := []
  activeRegs := []
  stagedFail := (false, false)
  activeFail := (false, false)
  retired := (false, false)
  retiring := (false, false)
  quiet := false
  dirty := false
  quietRun := 0
  firstFrame := true
  affine := Affine.reset
  fetch := []
  spr := none
  sprLast := []
  lnl := none
  overlay := Overlay.reset
  palette := []
  coefPend := []
  coefStaged := []
  coefActive := []
  lines := []

def Blt.reset : Blt := ⟨[], 0, 0, 0, false, 0, []⟩

def DmaChan.reset : DmaChan := ⟨0, 0, 0, 0, 0, false, false, .none, 0, [], [], false, [], 0, 0, 0, 0, false⟩

def EventTimes.reset : EventTimes := ⟨0, 0, 0, [], 0⟩

def Timers.reset : Timers :=
  ⟨Vector.replicate 8 0, Vector.replicate 8 0, Vector.replicate 4 0, Vector.replicate 8 false, Vector.replicate 8 0,
    Vector.replicate 8 0, false, none⟩

def SVoice.reset : SVoice := ⟨0, 0, 0, false, none⟩

def WVoice.reset : WVoice := ⟨0, List.replicate 16 0, 0, false⟩

def Audio.reset : Audio where
  sv := Vector.replicate 32 SVoice.reset
  wv := Vector.replicate 8 WVoice.reset
  next := 0
  count := 0
  bankP := []
  bankA := []
  program := []
  biquad := []
  delays := []
  voices := none
  out := (0, 0)
  buf := []
  bufIdx := 0
  opus := []
  marks := []

def EncCfg.reset : EncCfg := ⟨0, 0, 0, false, 0, 0, 0, 0, 10, 48, 0, 0, 0, 30, 1, 30⟩

def Enc.reset : Enc where
  cfg := EncCfg.reset
  credit := 0
  racc := 0
  grant := 0
  pqp := []
  pbits := []
  frameNum := 0
  poc := 0
  actives := 0
  sinceIdr := 0
  lastIdr := 0
  stamps := []
  q := 0
  pic := .none
  stripe := 0
  refBad := []
  keepDue := false
  refShort := []
  refLong := none
  cur := []
  hints := []
  hintsPrev := []
  tileCrc := []
  table := []
  next := 0
  prevNlc := []

def Stream.reset : Stream := ⟨0, 0, 0, 0, [], 0, false, 0, 0, [], [], 0, [], 0, 0, 0, 0, 0, 0, 0, 0⟩

def ImageLoad.reset : ImageLoad := ⟨[], 0, 0, [], [], [], [], [], false⟩

def Reserve.reset : Reserve := ⟨0, 0, 0, 0, []⟩

def Session.reset : Session where
  state := .free
  role := .none
  desc := []
  image := ImageLoad.reset
  ticket := []
  phase := 0
  delay := 0
  reserve := Reserve.reset
  pending := none
  biteEnd := false
  view := none
  first := 0
  partNode := 0
  partCell := 0

/-- A cell with no session: memories hold 0, every register its reset value (R323). -/
def Cell.reset : Cell where
  cpu := Cpu.reset
  beam := Beam.reset
  mem := Store.reset
  regs := []
  pic := Picture.reset
  blt := Blt.reset
  dma := Vector.replicate 8 DmaChan.reset
  tmr := Timers.reset
  aud := Audio.reset
  enc := Enc.reset
  str := Stream.reset
  sess := Session.reset
  evt := EventTimes.reset
  outbox := []

end Sys2Proof.Machine
end

