-- ==== Sys2Proof/Machine/CellOps.lean ====
section
/-! DEFINITION. The named operations over one cell: registers, geometry, beam time, memories, fences, divergence events,
dirty events and interrupts. -/

namespace Sys2Proof.Machine

/-! ## Registers -/

/-- The stored value of the register at an offset. -/
def Cell.reg (c : Cell) (off : Nat) : Word := Sparse.get regReset c.regs off

/-- Replace the stored value of the register at an offset. -/
def Cell.setReg (c : Cell) (off : Nat) (v : Word) : Cell := { c with regs := Sparse.put regReset c.regs off v }

/-- Bits hi..lo of a register. -/
def Cell.fld (c : Cell) (off hi lo : Nat) : Nat := bits (c.reg off).toNat hi lo

/-- Bit k of a register. -/
def Cell.rbit (c : Cell) (off k : Nat) : Bool := (c.reg off).getLsbD k

/-- Set the bits of a mask in a register. -/
def Cell.orReg (c : Cell) (off : Nat) (m : Nat) : Cell := c.setReg off (c.reg off ||| BitVec.ofNat 32 m)

/-- Clear the bits of a mask in a register. -/
def Cell.clrReg (c : Cell) (off : Nat) (m : Nat) : Cell := c.setReg off (c.reg off &&& ~~~(BitVec.ofNat 32 m))

/-- Put a number into bits hi..lo of a register. -/
def Cell.setFld (c : Cell) (off hi lo v : Nat) : Cell :=
  c.setReg off (BitVec.ofNat 32 ((c.reg off).toNat - c.fld off hi lo * 2 ^ lo + v % 2 ^ (hi + 1 - lo) * 2 ^ lo))

/-- A register of the active copy of the frame registers (R73). -/
def Cell.act (c : Cell) (off : Nat) : Word := Sparse.get regReset c.pic.activeRegs off

/-- The frame registers of a register file (R73). -/
def frameRegs (m : List (Nat × Word)) : List (Nat × Word) := m.filter fun p => regFrame p.1

/-! ## Geometry of the raster (R62, R87) -/

def Cell.vtotal (c : Cell) : Nat := c.fld Reg.RST_VTIME 27 16
def Cell.vactive (c : Cell) : Nat := c.fld Reg.RST_VTIME 11 0
def Cell.cpl (c : Cell) : Nat := c.fld Reg.RST_HTIME 19 0
def Cell.hbstart (c : Cell) : Nat := c.fld Reg.RST_HACT 31 12
def Cell.hactive (c : Cell) : Nat := c.fld Reg.RST_HACT 10 0
def Cell.family (c : Cell) : Nat := c.fld Reg.RST_PORCH 11 10
def Cell.porch (c : Cell) : Nat := c.fld Reg.RST_PORCH 9 0
/-- Counted cycles of a frame (R44). -/
def Cell.counted (c : Cell) : Nat := c.vtotal * c.cpl

/-- Cell cycles of a frame in a family (R44, R64). -/
def frameBudget (family : Nat) : Nat := if family = 2 then 12000000 else 10000000

/-! ## Beam time -/

/-- Position of a counted cycle within its frame: line and cycle; during the porch line 0, cycle 0 (R60). -/
def Cell.posAt (c : Cell) (p : Nat) : Nat × Nat :=
  if c.beam.inPorch = true ∨ c.cpl = 0 ∨ c.counted ≤ p then (0, 0) else (p / c.cpl, p % c.cpl)

/-- LINE in 31:20, CYCLE in 19:0 (R33, R60). -/
def beamWord (p : Nat × Nat) : Word := BitVec.ofNat 32 (p.1 * 2 ^ 20 + p.2)

/-- The line of the beam: of the processor's position, or of the last line started when that is later. -/
def Cell.curLine (c : Cell) : Nat := Nat.max (c.beam.started - 1) (c.posAt c.beam.fpos).1

/-- Absolute line = CELL_FRAME × VTOTAL + line (R176), with the frame count unwrapped. -/
def Cell.absLine (c : Cell) : Nat := c.beam.frame * c.vtotal + c.curLine

/-- The absolute line that starts next in the present frame (R176). -/
def Cell.nextAbs (c : Cell) : Nat := c.beam.frame * c.vtotal + c.beam.started

/-- Is absolute line `due`, or the same line of a later frame, the one that starts next (R48, R164)? -/
def Cell.dueNext (c : Cell) (due : Nat) : Bool :=
  decide (c.beam.started < c.vtotal ∧ due ≤ c.nextAbs ∧ due % c.vtotal = c.beam.started)

/-- Is timer n enabled, unlinked, with the clock source `clk` (R197, R202)? -/
def Cell.timerOn (c : Cell) (n clk : Nat) : Bool :=
  let off := Reg.TMR_CTL + 0x20 * n
  c.rbit off 0 && !(c.rbit off 1) && c.fld off 9 8 == clk

/-- `k` source events of clock source `clk` reach the prescalers (R197). -/
def Cell.clockTimers (c : Cell) (clk k : Nat) : Cell :=
  let presc := Vector.ofFn fun i : Fin 8 => if c.timerOn i.val clk then c.tmr.presc[i] + k else c.tmr.presc[i]
  { c with tmr := { c.tmr with presc := presc } }

/-- Is a session's beam running in this cell (R323)? -/
def Cell.running (c : Cell) : Bool :=
  (c.sess.state = .running || c.sess.state = .migrating) && !c.beam.held

/-! ## Events for the device -/

def Cell.raise (c : Cell) (e : CellEvent) : Cell := { c with outbox := c.outbox ++ [e] }

/-- A trace packet (R439). -/
def tracePacket (typ port line cycle frame : Nat) (data : Word) : Bytes :=
  [BitVec.ofNat 8 typ, BitVec.ofNat 8 port] ++ beBytes 2 (line % 4096) ++ beBytes 4 (cycle % 2 ^ 20) ++
    beBytes 4 (frame % 2 ^ 32) ++ beBytes 4 data.toNat

/-- A divergence event at a line (R55, R56): its CELL_DIVSTAT bit, and CELL_DIVINFO and CELL_DIVFRAME when it is the
first. -/
def Cell.diverge (c : Cell) (code line : Nat) : Cell :=
  let first := c.reg Reg.CELL_DIVSTAT == 0
  let c1 := if first then
      (c.setReg Reg.CELL_DIVINFO (BitVec.ofNat 32 (line % 4096 * 2 ^ 20 + code))).setReg Reg.CELL_DIVFRAME
        (BitVec.ofNat 32 c.beam.frame)
    else c
  let q := c.posAt c.beam.fpos
  let t := tracePacket 0x06 code line (if q.1 = line then q.2 else 0) c.beam.frame 0
  ((c1.orReg Reg.CELL_DIVSTAT (2 ^ (code - 1))).raise (.diverge code c.beam.frame line)).raise (.trace t)

/-- A dirty event (R84). -/
def Cell.dirty (c : Cell) : Cell := { c with pic := { c.pic with dirty := true } }

/-- A pixel took an underflow colour (R84, R87). -/
def Cell.underflowed (c : Cell) : Cell := (c.orReg Reg.RST_STAT 0x10).dirty

/-! ## Memories and fences -/

/-- The region and offset of an address (R34); the asset window reaches as far as the session admits it (R308). -/
def locate (a : Nat) : Option (Region × Nat) :=
  if a < 0x80000 then some (.pram, a)
  else if 0x10000000 ≤ a ∧ a < 0x10040000 then some (.wram, a - 0x10000000)
  else if 0x20000000 ≤ a ∧ a < 0x200C0000 then some (.vram, a - 0x20000000)
  else if 0x80000000 ≤ a ∧ a < 0xC0000000 then some (.asset, a - 0x80000000)
  else none

/-- Processor address of the first byte of a region. -/
def Region.base : Region → Nat
  | .pram => 0
  | .wram => 0x10000000
  | .vram => 0x20000000
  | .asset => 0x80000000

/-- Bytes of a region (R34). -/
def Region.size : Region → Nat
  | .pram => 0x80000
  | .wram => 0x40000
  | .vram => 0xC0000
  | .asset => 0x40000000

def Store.region (m : Store) : Region → Memory
  | .pram => m.pram
  | .wram => m.wram
  | .vram => m.vram
  | .asset => m.asset

def Store.setRegion (m : Store) (r : Region) (v : Memory) : Store := match r with
  | .pram => { m with pram := v }
  | .wram => { m with wram := v }
  | .vram => { m with vram := v }
  | .asset => { m with asset := v }

/-- Does some fence cover a byte of lo..hi (end excluded) of a region (R49)? -/
def Cell.fenced (c : Cell) (r : Region) (lo hi : Nat) : Bool :=
  c.mem.fences.any fun f => f.region = r ∧ f.lo < hi ∧ lo < f.hi

/-- Drop the fence that an owner holds; over the watch range of VRAM that is a dirty event (R84). -/
def Cell.dropFence (c : Cell) (o : FenceOwner) : Cell :=
  let lo := c.fld Reg.RST_QLO 19 2 * 4
  let hi := c.fld Reg.RST_QHI 19 2 * 4
  let hit := c.mem.fences.any fun f => f.owner = o ∧ f.region = .vram ∧ f.lo < hi ∧ lo < f.hi ∧ lo < hi
  let c := { c with mem := { c.mem with fences := c.mem.fences.filter fun f => f.owner ≠ o } }
  if hit then c.dirty else c

/-- Words of lo..hi (end excluded) of a region marked uncorrectable (R31). -/
def Cell.badIn (c : Cell) (r : Region) (lo hi : Nat) : Bool :=
  c.mem.bad.any fun w => r.base + lo / 4 * 4 ≤ w ∧ w < r.base + hi

/-- Store bytes into a cell memory: a whole word gets fresh ECC, a part of a word that is marked uncorrectable stays so
and records MEM_UNCORR (R31). -/
def Cell.writeMem (c : Cell) (r : Region) (off : Nat) (bs : Bytes) : Cell :=
  let m := (c.mem.region r).writeBytes off bs
  let hi := off + bs.length
  let whole := fun w : Nat => r.base + off ≤ w ∧ w + 4 ≤ r.base + hi
  let part := c.mem.bad.any fun w => r.base + off < w + 4 ∧ w < r.base + hi ∧ ¬ whole w
  let bad := c.mem.bad.filter fun w => ¬ whole w
  let c := { c with mem := { c.mem.setRegion r m with bad := bad } }
  if part then c.diverge 0x05 c.curLine else c

/-- Write a command's STATUS back into word 7 of its block (R180): one cycle after a submission, and in cycle 0 of a line, behind
a store of that cycle and not seen by a load that begins in it (R168). -/
def Cell.bltWriteBack (c : Cell) (block : Nat) (st : Word) : Cell :=
  { c with blt := { c.blt with wb := c.blt.wb ++ [(block, st)] } }

/-- The write-backs take effect. -/
def Cell.bltFlush (c : Cell) : Cell :=
  c.blt.wb.foldl (fun c q => c.writeMem .wram (q.1 + 28) (leBytes 4 q.2.toNat)) { c with blt := { c.blt with wb := [] } }

/-- `k` counted cycles pass (R28, R197, R208). DEDUCED, unsafe, log entry 5. -/
def Cell.advance (c0 : Cell) (k : Nat) : Cell :=
  let c := c0.bltFlush.clockTimers 0 k
  { c with
    beam := { c.beam with fpos := c.beam.fpos + k }
    cpu := { c.cpu with mcycle := if c.cpu.cy then c.cpu.mcycle else c.cpu.mcycle + BitVec.ofNat 64 k }
    tmr := { c.tmr with window := if c.cpu.dbg.halted then c.tmr.window else c.tmr.window.map (· + k) } }

/-- Counted cycles pass until position `p` of the frame, if it lies ahead. DEDUCED, unsafe, log entry 5. -/
def Cell.advanceTo (c : Cell) (p : Nat) : Cell := if c.beam.fpos < p then c.advance (p - c.beam.fpos) else c

/-- Is a VRAM store at this offset inside the watch range of RST_QLO and RST_QHI (R84)? -/
def Cell.watched (c : Cell) (off n : Nat) : Bool :=
  let lo := c.fld Reg.RST_QLO 19 2 * 4
  let hi := c.fld Reg.RST_QHI 19 2 * 4
  decide (lo < off + n ∧ off < hi ∧ lo < hi)

/-- May the processor begin an instruction: its session runs, it is out of reset, counting, not waiting and not halted
(R28, R29, R431)? -/
def Cell.cpuReady (c : Cell) : Bool :=
  c.running && !c.cpu.inReset && !c.beam.inPorch && decide (c.beam.fpos < c.counted) && c.cpu.wait == .none &&
    !c.cpu.dbg.halted && !(c.cpu.dbg.stepping && c.cpu.dbg.stepped)

/-- May counted cycles pass until position `p` with no other command due before: a processor that begins no instruction, no
line start and no end of its wait before `p`? -/
def Cell.mayIdleTo (c : Cell) (p : Nat) : Bool :=
  !c.beam.inPorch && !c.cpuReady && decide (p ≤ if c.beam.started < c.vtotal then c.beam.started * c.cpl else c.counted) &&
    match c.cpu.wait with
    | .line f t => decide (f ≠ c.beam.frame ∨ p ≤ t)
    | _ => true

end Sys2Proof.Machine
end

