-- ==== Sys2Proof/Machine/CellTimer.lean ====
section
/-! DEFINITION. Timers and watchdog of a cell (08_timers_watchdog_interrupts.md). -/

namespace Sys2Proof.Machine

def Cell.tmrCtl (n : Nat) : Nat := Reg.TMR_CTL + 0x20 * n
def Cell.tmrCnt (n : Nat) : Nat := Reg.TMR_CNT + 0x20 * n
def Cell.tmrPer (n : Nat) : Nat := Reg.TMR_PER + 0x20 * n
def Cell.tmrCmp (n : Nat) : Nat := Reg.TMR_CMP + 0x20 * n

/-- Is the timer enabled? -/
def Cell.tmrEn (c : Cell) (n : Nat) : Bool := c.rbit (Cell.tmrCtl n) 0

/-- The prescaler's divisor, PRESC + 1 (R197). -/
def Cell.tmrDiv (c : Cell) (n : Nat) : Nat := c.fld (Cell.tmrCtl n) 31 24 + 1

def Cell.setPresc (c : Cell) (n : Fin 8) (v : Nat) : Cell :=
  { c with tmr := { c.tmr with presc := c.tmr.presc.set n.val v } }

def Cell.setDreq (c : Cell) (n : Fin 8) (v : Bool) : Cell :=
  { c with tmr := { c.tmr with dreq := c.tmr.dreq.set n.val v } }

/-- A wrap or a period skip of timer n is a source event of its linked odd partner (R202). -/
def Cell.linkEvent (c : Cell) (n : Fin 8) : Cell :=
  if n.val % 2 = 0 then
    let m : Fin 8 := ⟨n.val / 2 * 2 + 1, by omega⟩
    if c.tmrEn m.val && c.rbit (Cell.tmrCtl m.val) 1 then c.setPresc m (c.tmr.presc[m] + 1) else c
  else c

/-- An event of timer n asserts its request in the cycle after its own; one that finds it asserted is only noted (R205). -/
def Cell.raiseDreq (c : Cell) (n : Fin 8) : Cell :=
  let p := c.evt.last + 1
  let first := if c.tmr.dreq[n] then c.tmr.dfrom[n] else p
  { c with tmr := { c.tmr with
      dreq := c.tmr.dreq.set n.val true, dfrom := c.tmr.dfrom.set n.val first, dlast := c.tmr.dlast.set n.val p } }

/-- Timer n asserts its DMA request when DREQ selects this kind of event: 1 a match, 2 a wrap or a skip (R205). -/
def Cell.tmrRequest (c : Cell) (n : Fin 8) (kind : Nat) : Cell :=
  if c.fld (Cell.tmrCtl n.val) 17 16 = kind then c.raiseDreq n else c

/-- WRAPn with what follows a wrap. -/
def Cell.tmrWrap (c : Cell) (n : Fin 8) : Cell :=
  ((c.orReg Reg.TMR_STAT (2 ^ (8 + n.val))).linkEvent n).tmrRequest n 2

/-- Does a running timer count up with its count above PER (R201)? -/
def Cell.skipNow (c : Cell) (n : Fin 8) : Bool :=
  c.tmrEn n.val && !(c.fld (Cell.tmrCtl n.val) 5 4 == 1 && c.rbit (Cell.tmrCtl n.val) 2) &&
    decide ((c.reg (Cell.tmrPer n.val)).toNat < (c.reg (Cell.tmrCnt n.val)).toNat)

/-- Is its period skip due: has the cycle that began so passed? -/
def Cell.skipDue (c : Cell) (n : Fin 8) : Bool := c.skipNow n && decide (c.tmr.above[n] < c.beam.fpos)

/-- Is a tick due: enough source events, and no period skip in their place (R197, R201)? -/
def Cell.tickDue (c : Cell) (n : Fin 8) : Bool :=
  c.tmrEn n.val && decide (c.tmrDiv n.val ≤ c.tmr.presc[n]) && !(c.skipNow n)

/-- What a tick does to count and direction: new count, new direction (true down), does it wrap (R198). -/
def tickOutcome (mode cnt per : Nat) (down : Bool) : Nat × Bool × Bool :=
  if mode = 1 then
    if per = 0 ∧ cnt = 0 then (0, down, true)
    else if down then (if cnt = 0 then (1, false, false) else (cnt - 1, true, decide (cnt = 1)))
    else if per < cnt + 1 then (cnt - 1, true, decide (cnt = 1))
    else (cnt + 1, false, false)
  else if cnt = per then (0, false, true)
  else ((cnt + 1) % 2 ^ 32, false, false)

/-- The outcome of the tick that is due now. -/
def Cell.tickResult (c : Cell) (n : Fin 8) : Nat × Bool × Bool :=
  tickOutcome (c.fld (Cell.tmrCtl n.val) 5 4) (c.reg (Cell.tmrCnt n.val)).toNat (c.reg (Cell.tmrPer n.val)).toNat
    (c.rbit (Cell.tmrCtl n.val) 2)

/-- Does that tick leave the count at CMP (R200)? -/
def Cell.tickMatches (c : Cell) (n : Fin 8) : Bool :=
  (c.tickResult n).1 == (c.reg (Cell.tmrCmp n.val)).toNat

/-- A compare match: CMPn, the auto-add and the DMA request (R200, R205). -/
def Cell.tmrMatch (c : Cell) (n : Fin 8) : Cell :=
  let step := (c.reg (Reg.TMR_CMPADD + 0x20 * n.val)).toNat
  let per := (c.reg (Cell.tmrPer n.val)).toNat
  let sum := (c.reg (Cell.tmrCmp n.val)).toNat + step
  let c1 := c.orReg Reg.TMR_STAT (2 ^ n.val)
  let c2 := if c.fld (Cell.tmrCtl n.val) 5 4 ≠ 1 ∧ step ≠ 0 then
      c1.setReg (Cell.tmrCmp n.val) (BitVec.ofNat 32 (if per < sum then sum - (per + 1) else sum))
    else c1
  c2.tmrRequest n 1

/-- One tick of timer n (R197 to R200). -/
def Cell.tick (c : Cell) (n : Fin 8) : Cell :=
  let r := c.tickResult n
  let oneshot := c.fld (Cell.tmrCtl n.val) 5 4 == 2
  let hit := c.tickMatches n
  let c1 := c.setPresc n (c.tmr.presc[n] - c.tmrDiv n.val)
  let c2 := (c1.setReg (Cell.tmrCnt n.val) (BitVec.ofNat 32 r.1)).setFld (Cell.tmrCtl n.val) 2 2 (b2n r.2.1)
  let c3 := if r.2.2 then c2.tmrWrap n else c2
  let c4 := if r.2.2 && oneshot then c3.clrReg (Cell.tmrCtl n.val) 1 else c3
  if hit then c4.tmrMatch n else c4

/-- A period skip of timer n (R201). -/
def Cell.periodSkip (c : Cell) (n : Fin 8) : Cell :=
  let mode := c.fld (Cell.tmrCtl n.val) 5 4
  let after := if c.timerOn n.val 0 then c.beam.fpos - c.tmr.above[n] - 1 else 0
  let c1 := (c.orReg Reg.TMR_STAT (2 ^ (16 + n.val))).setPresc n after
  if mode = 1 then
    (((c1.setReg (Cell.tmrCnt n.val) (c.reg (Cell.tmrPer n.val))).orReg (Cell.tmrCtl n.val) 4).linkEvent n).tmrRequest n 2
  else
    let c2 := (c1.setReg (Cell.tmrCnt n.val) 0).tmrWrap n
    if mode = 2 then c2.clrReg (Cell.tmrCtl n.val) 1 else c2

/-- A start of timer n (R204). -/
def Cell.tmrStart (c : Cell) (n : Fin 8) : Cell :=
  (c.setPresc n 0).setReg (Cell.tmrCtl n.val) ((c.reg (Cell.tmrCtl n.val) ||| 1) &&& ~~~4)

/-- A write to TMR_GO: stops, then starts of timers that are not stopped (R204). -/
def Cell.tmrGo (c : Cell) (v : Word) : Cell :=
  (List.finRange 8).foldl (fun c n =>
    if v.getLsbD (8 + n.val) then c.clrReg (Cell.tmrCtl n.val) 1
    else if v.getLsbD n.val then c.tmrStart n else c) c

/-- A write to TMRn_CNT: the tick or skip of its cycle is lost (R199). -/
def Cell.writeCnt (c : Cell) (n : Fin 8) (v : Word) : Cell :=
  let c1 := if c.skipDue n then c.setPresc n 0
    else if c.tickDue n then c.setPresc n (c.tmr.presc[n] - c.tmrDiv n.val) else c
  c1.setReg (Cell.tmrCnt n.val) v

/-- Is the pair of timer n linked (R202)? -/
def Cell.pairLinked (c : Cell) (n : Fin 8) : Bool := c.rbit (Cell.tmrCtl (n.val / 2 * 2 + 1)) 1

/-- The timers after the ticks and skips of the present cycle, as a read of a count samples them (R203).
DEDUCED, unsafe, log entry 78. -/
def Cell.sampleCounts (c : Cell) : Cell :=
  (List.finRange 8).foldl (fun c n => if c.skipDue n then c.periodSkip n else if c.tickDue n then c.tick n else c)
    (({ c with beam := { c.beam with fpos := c.beam.fpos + 1 } } : Cell).clockTimers 0 1)

/-- After a write at position `pos`, the cycle that follows is the first to begin with a count above PER (R201). -/
def Cell.markSkips (c0 c : Cell) (pos : Nat) : Cell :=
  let first := Vector.ofFn fun n : Fin 8 => if c.skipNow n && !(c0.skipNow n) then pos + 1 else c.tmr.above[n]
  { c with tmr := { c.tmr with above := first } }

/-- What a read of TMRn_CNT returns (R203). -/
def Cell.cntValue (c : Cell) (n : Fin 8) : Word :=
  if n.val % 2 = 1 ∧ c.pairLinked n then c.tmr.latch[n.val / 2]'(by omega) else c.reg (Cell.tmrCnt n.val)

/-- The side effect of a processor read of TMRn_CNT: the latch of a linked pair (R203). -/
def Cell.cntReadEffect (c : Cell) (n : Fin 8) : Cell :=
  if n.val % 2 = 0 ∧ c.pairLinked n then
    let latch := c.tmr.latch.set (n.val / 2) (c.sampleCounts.reg (Cell.tmrCnt (n.val + 1))) (by omega)
    { c with tmr := { c.tmr with latch := latch } }
  else c

/-- Take a field of the new value unless it holds the reserved code 3. -/
def keepIf3 (old v hi lo : Nat) : Nat := (if bits v hi lo = 3 then bits old hi lo else bits v hi lo) * 2 ^ lo

/-- A write to TMRn_CTL (R204, R205, R212). -/
def Cell.writeTmrCtl (c : Cell) (n : Fin 8) (v : Word) : Cell :=
  let old := (c.reg (Cell.tmrCtl n.val)).toNat
  let w := v.toNat
  let link := if n.val % 2 = 1 then bits w 1 1 * 2 else 0
  let new := bits w 31 24 * 2 ^ 24 + keepIf3 old w 17 16 + keepIf3 old w 9 8 + keepIf3 old w 5 4 + bits old 2 2 * 4 +
    link + bits w 0 0
  let c1 := c.setReg (Cell.tmrCtl n.val) (BitVec.ofNat 32 new)
  let c2 := if bits w 17 16 = 0 then c1.setDreq n false else c1
  let c3 := c2.setPresc n (Nat.min c2.tmr.presc[n] (bits w 31 24))
  if bits old 0 0 = 0 ∧ bits w 0 0 = 1 then c3.tmrStart n else c3

/-! ## Watchdog (R207 to R209) -/

/-- At cycle 0 of a line the watchdog counts down (R207). -/
def Cell.wdgLine (c : Cell) : Cell :=
  if c.rbit Reg.WDG_CFG 0 && !c.cpu.dbg.halted then c.setReg Reg.WDG_CNT (BitVec.ofNat 32 (c.fld Reg.WDG_CNT 23 0 - 1))
  else c

/-- The watchdog runs and its count has come to 0 (R207). -/
def Cell.wdgZero (c : Cell) : Bool := c.rbit Reg.WDG_CFG 0 && c.fld Reg.WDG_CNT 23 0 == 0

/-- The first time the count reaches 0 after a feed or after enabling (R207). -/
def Cell.bark (c : Cell) : Cell :=
  let c1 := (c.orReg Reg.WDG_STAT 1).setReg Reg.WDG_CNT (c.reg Reg.WDG_LOAD)
  { c1 with tmr := { c1.tmr with barked := true } }

/-- The count reaches 0 again with no feed in between (R207, R327). -/
def Cell.bite (c : Cell) : Cell :=
  let ends := c.rbit Reg.WDG_CFG 1
  let c1 := (c.orReg Reg.WDG_STAT 2).setReg Reg.WDG_CNT (c.reg Reg.WDG_LOAD)
  let c2 := if ends then { c1 with sess := { c1.sess with biteEnd := true } } else c1
  c2.raise (.bite ends)

def Cell.seqErr (c : Cell) : Cell := c.orReg Reg.WDG_STAT 4

/-- A store to WDG_FEED (R207). -/
def Cell.wdgFeed (c : Cell) (v : Word) : Cell :=
  if v = 0xFEED#32 then
    let c1 := c.setReg Reg.WDG_CNT (c.reg Reg.WDG_LOAD)
    { c1 with tmr := { c1.tmr with barked := false } }
  else c.seqErr

/-- Is a locked-sequence window open: no more than 16 window cycles since the key (R208)? -/
def Cell.windowOpen (c : Cell) : Bool := match c.tmr.window with
  | some k => decide (k ≤ 16)
  | none => false

def Cell.setWindow (c : Cell) (w : Option Nat) : Cell := { c with tmr := { c.tmr with window := w } }

/-- A store to WDG_KEY (R208). -/
def Cell.wdgKey (c : Cell) (v : Word) : Cell :=
  if v = 0xA5C3#32 then c.setWindow (some 0) else (c.setWindow none).seqErr

/-- A store to WDG_CFG or WDG_LOAD (R208). -/
def Cell.wdgValue (c : Cell) (r : WdgValueReg) (v : Word) : Cell :=
  if c.windowOpen && !(c.rbit Reg.WDG_CFG 2) then
    let c := c.setWindow none
    match r with
    | .cfg =>
      let grace := if bits v.toNat 11 8 = 0 then c.fld Reg.WDG_CFG 11 8 else bits v.toNat 11 8
      let c1 := c.setReg Reg.WDG_CFG (BitVec.ofNat 32 (grace * 256 + bits v.toNat 2 0))
      if c.rbit Reg.WDG_CFG 0 = false ∧ v.getLsbD 0 = true then
        let c2 := c1.setReg Reg.WDG_CNT (c1.reg Reg.WDG_LOAD)
        { c2 with tmr := { c2.tmr with barked := false } }
      else c1
    | .load => if bits v.toNat 23 0 = 0 then c else c.setReg Reg.WDG_LOAD (BitVec.ofNat 32 (bits v.toNat 23 0))
  else (c.setWindow none).seqErr

/-- On release from debug halt the held count becomes at least GRACE frames (R209). -/
def Cell.wdgRelease (c : Cell) : Cell :=
  let grace := c.fld Reg.WDG_CFG 11 8 * c.vtotal
  if c.rbit Reg.WDG_CFG 0 then c.setReg Reg.WDG_CNT (BitVec.ofNat 32 (Nat.max (c.fld Reg.WDG_CNT 23 0) grace)) else c

/-! ## DMA requests (R186, R187, R205, R222) -/

/-- Is request `req` asserted, and not yet acknowledged, in counted cycle `p` (R186)? -/
def Cell.reqOn (c : Cell) (req p : Nat) : Bool :=
  if h : req < 32 then
    let thr := c.fld (Reg.AUD_SVSTRM + 0x40 * req) 15 0
    c.fld (Reg.AUD_SVCTL + 0x40 * req) 6 5 == 2 && thr != 0 && decide (thr ≤ (c.aud.sv[req]).cons)
  else if h : 32 ≤ req ∧ req < 40 then c.tmr.dreq[req - 32] && decide (c.tmr.dfrom[req - 32] ≤ p)
  else if req = 40 then !c.str.fifo.isEmpty
  else req == 63

/-- Was it acknowledged in that very cycle? It keeps its level to the cycle's end (R205, R222). -/
def Cell.reqAcked (c : Cell) (req p : Nat) : Bool := decide (c.evt.ackPos = p) && c.evt.acked.contains req

/-- Level of request `req` in counted cycle `p`. DEDUCED, unsafe, log entry 92. -/
def Cell.reqAt (c : Cell) (req p : Nat) : Bool := c.reqOn req p || c.reqAcked req p

/-- The cycle from which a request that a WAIT found low is asserted (R205): for a timer the one after its event. -/
def Cell.reqFrom (c : Cell) (req : Nat) : Nat :=
  if h : 32 ≤ req ∧ req < 40 then c.tmr.dfrom[req - 32] else c.evt.last

/-- Note an acknowledge in cycle `p`. -/
def Cell.noteAck (c : Cell) (req p : Nat) : Cell :=
  { c with evt := { c.evt with ackPos := p, acked := req :: (if c.evt.ackPos = p then c.evt.acked else []) } }

/-- A write in cycle `p` that withdraws request `req` takes its level away at the end of that cycle (R205, R222): `c` before
the write and `y` after it. DEDUCED, unsafe, log entry 92. -/
def Cell.keepLevel (c y : Cell) (req p : Nat) : Cell := if c.reqAt req p && !(y.reqAt req p) then y.noteAck req p else y

/-- The acknowledge, in cycle `p`, that ends a WAIT on request `req` (R187, R222); an event of the same cycle keeps a timer's
request asserted (R205). -/
def Cell.reqAck (c : Cell) (req p : Nat) : Cell :=
  if h : req < 32 then
    let v := c.aud.sv[req]
    let thr := c.fld (Reg.AUD_SVSTRM + 0x40 * req) 15 0
    let sv := c.aud.sv.set req { v with cons := v.cons - thr }
    ({ c with aud := { c.aud with sv := sv } } : Cell).noteAck req p
  else if h : 32 ≤ req ∧ req < 40 then
    (if c.tmr.dlast[req - 32] = p + 1 then c else c.setDreq ⟨req - 32, by omega⟩ false).noteAck req p
  else c

end Sys2Proof.Machine
end

