-- ==== Sys2Proof/Machine/ResampleTable.lean ====
section
/-! DEFINITION. The resampler tables of the audio engine: phases 0 to 128 of 16 taps, table U and table D, the results of
the procedure of R220 in IEEE 754 binary64; phases 129 to 255 follow from the symmetry R220 states. -/

namespace Sys2Proof.Machine

def resampleU0 : List (List Int) := [
  [0, 0, 0, 0, 0, 0, 0, 32768, 0, 0, 0, 0, 0, 0, 0, 0],
  [0, 1, -4, 11, -24, 49, -120, 32768, 121, -50, 24, -11, 4, -1, 0, 0],
  [-1, 3, -9, 22, -47, 98, -238, 32765, 242, -100, 48, -22, 9, -3, 1, 0],
  [-1, 4, -13, 32, -70, 147, -356, 32761, 365, -150, 72, -33, 13, -4, 1, 0],
  [-1, 6, -17, 43, -94, 196, -472, 32753, 489, -200, 96, -44, 18, -6, 1, 0],
  [-1, 7, -22, 53, -117, 244, -587, 32747, 614, -251, 120, -55, 22, -7, 1, 0],
  [-2, 8, -26, 64, -139, 292, -702, 32737, 740, -302, 144, -66, 27, -9, 2, 0],
  [-2, 10, -30, 74, -162, 339, -815, 32726, 866, -353, 169, -78, 32, -10, 2, 0],
  [-2, 11, -34, 85, -185, 386, -927, 32715, 994, -405, 193, -89, 36, -12, 2, 0],
  [-2, 12, -38, 95, -207, 433, -1038, 32699, 1123, -457, 218, -101, 41, -13, 3, 0],
  [-2, 13, -42, 105, -229, 479, -1147, 32682, 1253, -509, 243, -112, 46, -15, 3, 0],
  [-3, 15, -46, 115, -251, 526, -1256, 32664, 1384, -561, 268, -124, 50, -16, 3, 0],
  [-3, 16, -50, 125, -273, 571, -1364, 32645, 1516, -614, 293, -135, 55, -18, 4, 0],
  [-3, 17, -54, 135, -295, 617, -1470, 32623, 1649, -666, 318, -147, 60, -20, 4, 0],
  [-3, 18, -58, 145, -317, 662, -1575, 32601, 1782, -719, 343, -159, 65, -21, 4, 0],
  [-3, 20, -62, 155, -338, 706, -1680, 32574, 1917, -772, 369, -170, 70, -23, 5, 0]]

def resampleU1 : List (List Int) := [
  [-4, 21, -66, 164, -359, 751, -1783, 32549, 2053, -826, 394, -182, 75, -24, 5, 0],
  [-4, 22, -70, 174, -380, 795, -1885, 32522, 2189, -879, 420, -194, 79, -26, 5, 0],
  [-4, 23, -73, 183, -401, 838, -1985, 32492, 2327, -933, 445, -206, 84, -28, 6, 0],
  [-4, 24, -77, 193, -422, 881, -2085, 32461, 2465, -987, 471, -218, 89, -29, 6, 0],
  [-4, 25, -81, 202, -442, 924, -2183, 32427, 2605, -1041, 497, -230, 94, -31, 6, 0],
  [-5, 26, -84, 211, -463, 966, -2281, 32395, 2745, -1095, 522, -242, 99, -33, 7, 0],
  [-5, 27, -88, 220, -483, 1008, -2377, 32358, 2886, -1149, 548, -254, 104, -34, 7, 0],
  [-5, 29, -91, 229, -503, 1050, -2472, 32319, 3028, -1204, 574, -266, 109, -36, 7, 0],
  [-5, 30, -95, 238, -522, 1091, -2566, 32278, 3171, -1258, 600, -278, 114, -38, 8, 0],
  [-5, 31, -98, 247, -542, 1132, -2658, 32236, 3315, -1313, 626, -290, 119, -40, 8, 0],
  [-5, 32, -102, 256, -561, 1172, -2750, 32192, 3460, -1368, 652, -302, 124, -41, 9, 0],
  [-6, 33, -105, 264, -580, 1212, -2840, 32149, 3605, -1423, 678, -315, 130, -43, 9, 0],
  [-6, 34, -108, 273, -599, 1251, -2929, 32102, 3752, -1478, 704, -327, 135, -45, 9, 0],
  [-6, 35, -112, 281, -618, 1290, -3017, 32054, 3899, -1533, 731, -339, 140, -47, 10, 0],
  [-6, 36, -115, 289, -636, 1329, -3104, 32004, 4047, -1589, 757, -351, 145, -48, 10, 0],
  [-6, 36, -118, 298, -655, 1367, -3190, 31955, 4196, -1644, 783, -364, 150, -50, 10, 0]]

def resampleU2 : List (List Int) := [
  [-6, 37, -121, 306, -673, 1405, -3274, 31900, 4346, -1699, 809, -376, 155, -52, 11, 0],
  [-6, 38, -124, 314, -690, 1442, -3357, 31844, 4496, -1755, 836, -388, 161, -54, 11, 0],
  [-6, 39, -127, 322, -708, 1479, -3439, 31788, 4647, -1811, 862, -401, 166, -55, 12, 0],
  [-7, 40, -130, 329, -726, 1515, -3520, 31733, 4799, -1866, 888, -413, 171, -57, 12, 0],
  [-7, 41, -133, 337, -743, 1551, -3600, 31672, 4952, -1922, 915, -425, 176, -59, 13, 0],
  [-7, 42, -136, 345, -760, 1587, -3678, 31612, 5105, -1978, 941, -438, 181, -61, 13, 0],
  [-7, 43, -139, 352, -777, 1622, -3755, 31547, 5260, -2033, 968, -450, 187, -63, 13, 0],
  [-7, 43, -142, 359, -793, 1657, -3831, 31484, 5415, -2089, 994, -463, 192, -65, 14, 0],
  [-7, 44, -144, 367, -809, 1691, -3906, 31417, 5570, -2145, 1020, -475, 197, -66, 14, 0],
  [-7, 45, -147, 374, -826, 1724, -3980, 31350, 5727, -2201, 1047, -487, 202, -68, 15, 0],
  [-7, 46, -150, 381, -841, 1757, -4052, 31281, 5884, -2257, 1073, -500, 208, -70, 15, 0],
  [-7, 46, -152, 388, -857, 1790, -4123, 31210, 6041, -2312, 1099, -512, 213, -72, 16, 0],
  [-7, 47, -155, 395, -872, 1822, -4193, 31138, 6200, -2368, 1126, -525, 218, -74, 16, 0],
  [-7, 48, -158, 401, -888, 1854, -4262, 31065, 6359, -2424, 1152, -537, 224, -76, 17, 0],
  [-8, 48, -160, 408, -903, 1886, -4330, 30991, 6519, -2480, 1178, -549, 229, -78, 17, 0],
  [-8, 49, -162, 414, -917, 1916, -4396, 30915, 6679, -2535, 1204, -562, 234, -80, 17, 0]]

def resampleU3 : List (List Int) := [
  [-8, 50, -165, 421, -932, 1947, -4461, 30834, 6840, -2591, 1230, -574, 240, -81, 18, 0],
  [-8, 50, -167, 427, -946, 1977, -4525, 30755, 7001, -2646, 1256, -586, 245, -83, 18, 0],
  [-8, 51, -169, 433, -960, 2006, -4588, 30673, 7164, -2702, 1283, -599, 250, -85, 19, 0],
  [-8, 52, -172, 439, -974, 2035, -4650, 30593, 7326, -2757, 1308, -611, 255, -87, 19, 0],
  [-8, 52, -174, 445, -988, 2063, -4710, 30507, 7490, -2812, 1334, -623, 261, -89, 20, 0],
  [-8, 53, -176, 451, -1001, 2091, -4770, 30423, 7653, -2867, 1360, -636, 266, -91, 20, 0],
  [-8, 53, -178, 457, -1014, 2118, -4828, 30337, 7818, -2923, 1386, -648, 271, -93, 21, -1],
  [-8, 54, -180, 462, -1027, 2145, -4884, 30247, 7983, -2977, 1412, -660, 276, -95, 21, -1],
  [-8, 54, -182, 468, -1039, 2172, -4940, 30156, 8148, -3032, 1437, -672, 282, -97, 22, -1],
  [-8, 55, -184, 473, -1052, 2198, -4994, 30065, 8314, -3087, 1463, -684, 287, -99, 22, -1],
  [-8, 55, -186, 478, -1064, 2223, -5048, 29971, 8481, -3141, 1489, -696, 292, -100, 23, -1],
  [-8, 56, -188, 484, -1076, 2248, -5100, 29877, 8648, -3196, 1514, -708, 297, -102, 23, -1],
  [-8, 56, -190, 489, -1087, 2273, -5151, 29780, 8815, -3250, 1539, -720, 303, -104, 24, -1],
  [-8, 57, -191, 494, -1099, 2297, -5200, 29682, 8983, -3304, 1564, -732, 308, -106, 24, -1],
  [-8, 57, -193, 498, -1110, 2320, -5249, 29584, 9152, -3358, 1590, -744, 313, -108, 25, -1],
  [-8, 58, -195, 503, -1121, 2343, -5296, 29485, 9320, -3411, 1614, -756, 318, -110, 25, -1]]

def resampleU4 : List (List Int) := [
  [-8, 58, -196, 508, -1132, 2365, -5342, 29383, 9490, -3465, 1639, -768, 323, -112, 26, -1],
  [-8, 58, -198, 512, -1142, 2387, -5387, 29281, 9659, -3518, 1664, -780, 329, -114, 26, -1],
  [-8, 59, -200, 516, -1152, 2409, -5431, 29176, 9829, -3571, 1689, -792, 334, -116, 27, -1],
  [-8, 59, -201, 521, -1162, 2430, -5473, 29069, 10000, -3624, 1713, -803, 339, -118, 27, -1],
  [-8, 59, -203, 525, -1172, 2450, -5515, 28963, 10170, -3676, 1738, -815, 344, -119, 28, -1],
  [-8, 60, -204, 529, -1181, 2470, -5555, 28855, 10341, -3729, 1762, -827, 349, -121, 28, -1],
  [-8, 60, -205, 533, -1190, 2489, -5594, 28744, 10513, -3781, 1786, -838, 354, -123, 29, -1],
  [-8, 60, -207, 537, -1199, 2508, -5632, 28633, 10685, -3832, 1810, -849, 359, -125, 29, -1],
  [-8, 61, -208, 540, -1208, 2527, -5669, 28521, 10857, -3884, 1834, -861, 364, -127, 30, -1],
  [-8, 61, -209, 544, -1217, 2545, -5704, 28408, 11029, -3935, 1857, -872, 369, -129, 30, -1],
  [-8, 61, -210, 547, -1225, 2562, -5739, 28293, 11202, -3986, 1881, -883, 374, -131, 31, -1],
  [-8, 61, -211, 551, -1233, 2579, -5772, 28177, 11375, -4036, 1904, -895, 379, -133, 31, -1],
  [-8, 61, -212, 554, -1241, 2595, -5804, 28060, 11548, -4087, 1927, -906, 384, -134, 32, -1],
  [-8, 62, -213, 557, -1248, 2611, -5835, 27940, 11721, -4136, 1950, -917, 389, -136, 32, -1],
  [-8, 62, -214, 560, -1255, 2627, -5865, 27819, 11895, -4186, 1973, -928, 394, -138, 33, -1],
  [-8, 62, -215, 563, -1262, 2641, -5894, 27699, 12069, -4235, 1995, -938, 399, -140, 33, -1]]

def resampleU5 : List (List Int) := [
  [-8, 62, -216, 565, -1269, 2656, -5922, 27579, 12243, -4284, 2018, -949, 403, -142, 34, -2],
  [-8, 62, -217, 568, -1276, 2670, -5948, 27457, 12417, -4333, 2040, -960, 408, -144, 34, -2],
  [-8, 62, -218, 571, -1282, 2683, -5973, 27330, 12591, -4381, 2062, -970, 413, -145, 35, -2],
  [-8, 63, -219, 573, -1288, 2696, -5998, 27205, 12766, -4429, 2084, -981, 418, -147, 35, -2],
  [-8, 63, -219, 575, -1294, 2708, -6021, 27078, 12940, -4476, 2106, -991, 422, -149, 36, -2],
  [-8, 63, -220, 578, -1299, 2720, -6043, 26950, 13115, -4523, 2127, -1002, 427, -151, 36, -2],
  [-8, 63, -221, 580, -1305, 2732, -6064, 26820, 13290, -4569, 2148, -1012, 431, -152, 37, -2],
  [-8, 63, -221, 582, -1310, 2743, -6084, 26690, 13465, -4616, 2169, -1022, 436, -154, 37, -2],
  [-8, 63, -222, 584, -1315, 2753, -6102, 26558, 13640, -4661, 2190, -1032, 440, -156, 38, -2],
  [-8, 63, -222, 585, -1319, 2763, -6120, 26426, 13815, -4706, 2210, -1042, 445, -158, 38, -2],
  [-8, 63, -223, 587, -1323, 2772, -6136, 26291, 13990, -4751, 2231, -1052, 449, -159, 39, -2],
  [-8, 63, -223, 589, -1328, 2781, -6152, 26156, 14166, -4796, 2251, -1061, 454, -161, 39, -2],
  [-7, 63, -223, 590, -1331, 2790, -6166, 26018, 14341, -4839, 2270, -1071, 458, -163, 40, -2],
  [-7, 63, -224, 591, -1335, 2798, -6180, 25884, 14516, -4883, 2290, -1080, 462, -165, 40, -2],
  [-7, 63, -224, 593, -1339, 2805, -6192, 25745, 14691, -4926, 2309, -1090, 467, -166, 41, -2],
  [-7, 63, -224, 594, -1342, 2812, -6203, 25606, 14866, -4968, 2328, -1099, 471, -168, 41, -2]]

def resampleU6 : List (List Int) := [
  [-7, 63, -225, 595, -1345, 2818, -6213, 25465, 15042, -5010, 2347, -1108, 475, -169, 42, -2],
  [-7, 63, -225, 596, -1347, 2824, -6223, 25325, 15217, -5051, 2366, -1117, 479, -171, 42, -3],
  [-7, 63, -225, 597, -1350, 2830, -6231, 25183, 15392, -5092, 2384, -1126, 483, -173, 43, -3],
  [-7, 63, -225, 597, -1352, 2835, -6238, 25040, 15567, -5132, 2402, -1135, 487, -174, 43, -3],
  [-7, 63, -225, 598, -1354, 2840, -6244, 24896, 15741, -5172, 2419, -1143, 491, -176, 44, -3],
  [-7, 62, -225, 598, -1356, 2844, -6249, 24752, 15916, -5211, 2437, -1152, 495, -177, 44, -3],
  [-7, 62, -225, 599, -1357, 2847, -6253, 24605, 16091, -5250, 2454, -1160, 499, -179, 45, -3],
  [-7, 62, -225, 599, -1359, 2850, -6256, 24460, 16265, -5288, 2471, -1168, 503, -181, 45, -3],
  [-7, 62, -225, 599, -1360, 2853, -6258, 24312, 16439, -5325, 2487, -1176, 506, -182, 46, -3],
  [-7, 62, -225, 600, -1361, 2855, -6259, 24163, 16614, -5362, 2503, -1184, 510, -184, 46, -3],
  [-7, 62, -224, 600, -1361, 2857, -6259, 24011, 16787, -5398, 2519, -1192, 514, -185, 47, -3],
  [-7, 62, -224, 599, -1362, 2858, -6258, 23862, 16961, -5434, 2535, -1199, 517, -186, 47, -3],
  [-6, 61, -224, 599, -1362, 2859, -6256, 23710, 17135, -5469, 2550, -1207, 521, -188, 48, -3],
  [-6, 61, -224, 599, -1362, 2859, -6253, 23558, 17308, -5503, 2565, -1214, 524, -189, 48, -3],
  [-6, 61, -223, 599, -1362, 2859, -6249, 23404, 17481, -5537, 2580, -1221, 527, -191, 49, -3],
  [-6, 61, -223, 598, -1361, 2859, -6244, 23250, 17654, -5570, 2594, -1228, 531, -192, 49, -4]]

def resampleU7 : List (List Int) := [
  [-6, 61, -223, 598, -1361, 2858, -6239, 23097, 17826, -5603, 2608, -1235, 534, -193, 50, -4],
  [-6, 60, -222, 597, -1360, 2856, -6232, 22943, 17998, -5634, 2622, -1242, 537, -195, 50, -4],
  [-6, 60, -222, 596, -1359, 2855, -6224, 22787, 18170, -5666, 2635, -1248, 540, -196, 50, -4],
  [-6, 60, -221, 595, -1357, 2852, -6216, 22630, 18341, -5696, 2648, -1255, 543, -197, 51, -4],
  [-6, 60, -221, 594, -1356, 2850, -6206, 22473, 18512, -5726, 2661, -1261, 546, -199, 51, -4],
  [-6, 59, -220, 593, -1354, 2846, -6196, 22315, 18683, -5755, 2673, -1267, 549, -200, 52, -4],
  [-6, 59, -219, 592, -1352, 2843, -6185, 22154, 18854, -5783, 2685, -1273, 552, -201, 52, -4],
  [-6, 59, -219, 591, -1350, 2839, -6172, 21993, 19024, -5810, 2696, -1279, 555, -202, 53, -4],
  [-6, 59, -218, 590, -1348, 2834, -6159, 21833, 19193, -5837, 2708, -1284, 557, -203, 53, -4],
  [-5, 58, -217, 588, -1345, 2829, -6145, 21673, 19362, -5863, 2718, -1290, 560, -204, 53, -4],
  [-5, 58, -217, 587, -1343, 2824, -6131, 21512, 19531, -5889, 2729, -1295, 563, -206, 54, -4],
  [-5, 58, -216, 585, -1340, 2818, -6115, 21350, 19699, -5913, 2739, -1300, 565, -207, 54, -4],
  [-5, 57, -215, 584, -1337, 2812, -6099, 21188, 19867, -5937, 2749, -1305, 567, -208, 55, -5],
  [-5, 57, -214, 582, -1333, 2806, -6081, 21022, 20034, -5960, 2758, -1309, 570, -209, 55, -5],
  [-5, 57, -213, 580, -1330, 2799, -6063, 20859, 20201, -5982, 2767, -1314, 572, -210, 55, -5],
  [-5, 56, -213, 578, -1326, 2791, -6044, 20696, 20368, -6004, 2775, -1318, 574, -211, 56, -5]]

def resampleU8 : List (List Int) := [
  [-5, 56, -212, 576, -1322, 2784, -6024, 20529, 20533, -6024, 2784, -1322, 576, -212, 56, -5]]

/-- Table U, phases 0 to 128 (R220). DEDUCED, unsafe, log entry 10. -/
def resampleU : List (List Int) :=
  resampleU0 ++ resampleU1 ++ resampleU2 ++ resampleU3 ++ resampleU4 ++ resampleU5 ++ resampleU6 ++ resampleU7 ++ resampleU8

def resampleD0 : List (List Int) := [
  [-22, 0, 359, 0, -1929, 0, 9789, 16374, 9789, 0, -1929, 0, 359, 0, -22, 0],
  [-22, -1, 358, 5, -1923, -25, 9746, 16373, 9832, 25, -1934, -5, 360, 1, -22, 0],
  [-21, -1, 356, 11, -1918, -49, 9703, 16372, 9875, 50, -1940, -11, 362, 1, -22, 0],
  [-21, -2, 355, 16, -1912, -74, 9659, 16372, 9918, 75, -1945, -16, 363, 2, -22, 0],
  [-21, -3, 353, 21, -1906, -98, 9616, 16373, 9961, 100, -1951, -22, 365, 3, -23, 0],
  [-21, -3, 352, 27, -1900, -122, 9573, 16369, 10004, 126, -1956, -28, 366, 4, -23, 0],
  [-21, -4, 350, 32, -1894, -146, 9530, 16369, 10047, 151, -1961, -33, 367, 4, -23, 0],
  [-20, -5, 349, 37, -1888, -170, 9486, 16366, 10090, 177, -1966, -39, 369, 5, -23, 0],
  [-20, -5, 348, 42, -1882, -193, 9443, 16364, 10132, 203, -1972, -45, 370, 6, -23, 0],
  [-20, -6, 346, 48, -1876, -217, 9399, 16363, 10175, 229, -1977, -50, 371, 7, -24, 0],
  [-20, -7, 345, 53, -1870, -240, 9356, 16362, 10217, 255, -1982, -56, 372, 7, -24, 0],
  [-20, -7, 343, 58, -1864, -263, 9312, 16359, 10260, 281, -1987, -62, 374, 8, -24, 0],
  [-20, -8, 342, 63, -1858, -286, 9269, 16355, 10302, 308, -1991, -68, 375, 9, -24, 0],
  [-19, -9, 340, 68, -1852, -309, 9225, 16353, 10345, 334, -1996, -74, 376, 10, -24, 0],
  [-19, -9, 339, 73, -1845, -332, 9181, 16348, 10387, 361, -2001, -80, 378, 11, -24, 0],
  [-19, -10, 337, 78, -1839, -355, 9138, 16347, 10430, 388, -2006, -86, 379, 11, -25, 0]]

def resampleD1 : List (List Int) := [
  [-19, -10, 336, 82, -1833, -377, 9094, 16342, 10472, 415, -2010, -91, 380, 12, -25, 0],
  [-19, -11, 334, 87, -1826, -399, 9050, 16340, 10514, 442, -2015, -98, 381, 13, -25, 0],
  [-18, -12, 332, 92, -1820, -422, 9006, 16337, 10556, 469, -2019, -104, 382, 14, -25, 0],
  [-18, -12, 331, 97, -1813, -444, 8962, 16330, 10598, 497, -2024, -110, 384, 15, -25, 0],
  [-18, -13, 329, 102, -1806, -465, 8919, 16325, 10640, 524, -2028, -116, 385, 16, -26, 0],
  [-18, -13, 328, 106, -1800, -487, 8875, 16320, 10682, 552, -2032, -122, 386, 17, -26, 0],
  [-18, -14, 326, 111, -1793, -509, 8831, 16317, 10724, 580, -2037, -128, 387, 17, -26, 0],
  [-17, -14, 325, 116, -1786, -530, 8787, 16309, 10765, 608, -2041, -134, 388, 18, -26, 0],
  [-17, -15, 323, 120, -1780, -551, 8743, 16306, 10807, 636, -2045, -141, 389, 19, -26, 0],
  [-17, -15, 322, 125, -1773, -573, 8699, 16299, 10849, 664, -2049, -147, 391, 20, -27, 0],
  [-17, -16, 320, 129, -1766, -594, 8655, 16294, 10890, 693, -2053, -153, 392, 21, -27, 0],
  [-17, -17, 318, 134, -1759, -614, 8611, 16287, 10931, 721, -2056, -159, 393, 22, -27, 0],
  [-17, -17, 317, 138, -1752, -635, 8567, 16280, 10973, 750, -2060, -166, 394, 23, -27, 0],
  [-16, -18, 315, 143, -1745, -656, 8523, 16273, 11014, 779, -2064, -172, 395, 24, -27, 0],
  [-16, -18, 314, 147, -1738, -676, 8479, 16267, 11055, 808, -2068, -179, 396, 25, -28, 0],
  [-16, -19, 312, 151, -1731, -696, 8435, 16260, 11096, 837, -2071, -185, 397, 26, -28, 0]]

def resampleD2 : List (List Int) := [
  [-16, -19, 310, 156, -1724, -716, 8391, 16254, 11137, 866, -2075, -192, 398, 26, -28, 0],
  [-16, -20, 309, 160, -1717, -736, 8347, 16245, 11178, 896, -2078, -198, 399, 27, -28, 0],
  [-16, -20, 307, 164, -1710, -756, 8303, 16238, 11219, 925, -2081, -205, 400, 28, -28, 0],
  [-15, -20, 305, 169, -1702, -776, 8259, 16226, 11260, 955, -2084, -211, 401, 29, -28, 0],
  [-15, -21, 304, 173, -1695, -795, 8214, 16220, 11301, 985, -2088, -218, 402, 30, -29, 0],
  [-15, -21, 302, 177, -1688, -814, 8170, 16212, 11341, 1015, -2091, -225, 403, 31, -29, 0],
  [-15, -22, 301, 181, -1680, -834, 8126, 16202, 11382, 1045, -2094, -231, 404, 32, -29, 0],
  [-15, -22, 299, 185, -1673, -853, 8082, 16194, 11422, 1075, -2097, -238, 405, 33, -29, 0],
  [-15, -23, 297, 189, -1666, -871, 8038, 16184, 11462, 1106, -2099, -245, 406, 34, -29, 0],
  [-14, -23, 296, 193, -1658, -890, 7994, 16174, 11502, 1136, -2102, -252, 407, 35, -30, 0],
  [-14, -24, 294, 197, -1651, -909, 7950, 16164, 11543, 1167, -2105, -258, 408, 36, -30, 0],
  [-14, -24, 292, 201, -1643, -927, 7905, 16155, 11583, 1198, -2108, -265, 408, 37, -30, 0],
  [-14, -24, 291, 205, -1636, -945, 7861, 16143, 11623, 1229, -2110, -272, 409, 38, -30, 0],
  [-14, -25, 289, 209, -1628, -964, 7817, 16134, 11662, 1260, -2112, -279, 410, 39, -30, 0],
  [-14, -25, 287, 212, -1620, -982, 7773, 16124, 11702, 1291, -2115, -286, 411, 40, -30, 0],
  [-13, -26, 286, 216, -1613, -999, 7729, 16112, 11742, 1322, -2117, -293, 412, 41, -31, 0]]

def resampleD3 : List (List Int) := [
  [-13, -26, 284, 220, -1605, -1017, 7685, 16099, 11781, 1354, -2119, -300, 413, 43, -31, 0],
  [-13, -26, 282, 224, -1597, -1035, 7641, 16088, 11821, 1385, -2121, -307, 413, 44, -31, 0],
  [-13, -27, 281, 227, -1590, -1052, 7596, 16078, 11860, 1417, -2123, -314, 414, 45, -31, 0],
  [-13, -27, 279, 231, -1582, -1069, 7552, 16065, 11899, 1449, -2125, -321, 415, 46, -31, 0],
  [-13, -27, 277, 234, -1574, -1086, 7508, 16055, 11938, 1481, -2127, -328, 415, 47, -32, 0],
  [-12, -28, 275, 238, -1566, -1103, 7464, 16042, 11977, 1513, -2129, -335, 416, 48, -32, 0],
  [-12, -28, 274, 242, -1558, -1120, 7420, 16027, 12016, 1545, -2130, -342, 417, 49, -32, 0],
  [-12, -29, 272, 245, -1551, -1137, 7376, 16017, 12055, 1578, -2132, -350, 418, 50, -32, 0],
  [-12, -29, 270, 248, -1543, -1153, 7332, 16004, 12094, 1610, -2133, -357, 418, 51, -32, 0],
  [-12, -29, 269, 252, -1535, -1170, 7288, 15990, 12132, 1643, -2135, -364, 419, 52, -32, 0],
  [-12, -30, 267, 255, -1527, -1186, 7244, 15977, 12171, 1676, -2136, -371, 419, 54, -33, 0],
  [-11, -30, 265, 259, -1519, -1202, 7200, 15962, 12209, 1709, -2137, -379, 420, 55, -33, 0],
  [-11, -30, 264, 262, -1511, -1218, 7156, 15947, 12247, 1742, -2138, -386, 421, 56, -33, 0],
  [-11, -30, 262, 265, -1503, -1234, 7112, 15934, 12285, 1775, -2139, -393, 421, 57, -33, 0],
  [-11, -31, 260, 268, -1495, -1249, 7068, 15921, 12323, 1808, -2140, -401, 422, 58, -33, 0],
  [-11, -31, 258, 272, -1487, -1265, 7024, 15906, 12361, 1842, -2141, -408, 422, 59, -33, 0]]

def resampleD4 : List (List Int) := [
  [-11, -31, 257, 275, -1478, -1280, 6980, 15890, 12399, 1875, -2142, -416, 423, 61, -34, 0],
  [-11, -32, 255, 278, -1470, -1295, 6936, 15877, 12436, 1909, -2143, -423, 423, 62, -34, 0],
  [-10, -32, 253, 281, -1462, -1310, 6892, 15860, 12474, 1943, -2143, -431, 424, 63, -34, 0],
  [-10, -32, 252, 284, -1454, -1325, 6848, 15846, 12511, 1977, -2144, -438, 424, 64, -34, -1],
  [-10, -32, 250, 287, -1446, -1340, 6804, 15832, 12548, 2011, -2144, -446, 424, 65, -34, -1],
  [-10, -33, 248, 290, -1438, -1355, 6761, 15814, 12586, 2045, -2144, -453, 425, 67, -34, -1],
  [-10, -33, 246, 293, -1429, -1369, 6717, 15798, 12623, 2079, -2144, -461, 425, 68, -34, -1],
  [-10, -33, 245, 296, -1421, -1383, 6673, 15782, 12659, 2114, -2144, -469, 426, 69, -35, -1],
  [-10, -33, 243, 299, -1413, -1398, 6629, 15767, 12696, 2148, -2144, -476, 426, 70, -35, -1],
  [-9, -34, 241, 302, -1405, -1412, 6586, 15750, 12733, 2183, -2144, -484, 426, 71, -35, -1],
  [-9, -34, 240, 304, -1396, -1425, 6542, 15731, 12769, 2218, -2144, -492, 427, 73, -35, -1],
  [-9, -34, 238, 307, -1388, -1439, 6498, 15715, 12806, 2252, -2144, -499, 427, 74, -35, -1],
  [-9, -34, 236, 310, -1380, -1453, 6455, 15697, 12842, 2288, -2143, -507, 427, 75, -35, -1],
  [-9, -35, 234, 313, -1371, -1466, 6411, 15681, 12878, 2323, -2143, -515, 427, 76, -35, -1],
  [-9, -35, 233, 315, -1363, -1480, 6368, 15664, 12914, 2358, -2142, -523, 427, 78, -36, -1],
  [-9, -35, 231, 318, -1355, -1493, 6324, 15645, 12950, 2393, -2141, -530, 428, 79, -36, -1]]

def resampleD5 : List (List Int) := [
  [-8, -35, 229, 321, -1346, -1506, 6281, 15625, 12985, 2429, -2140, -538, 428, 80, -36, -1],
  [-8, -35, 228, 323, -1338, -1519, 6238, 15605, 13021, 2465, -2139, -546, 428, 82, -36, -1],
  [-8, -36, 226, 326, -1329, -1531, 6194, 15588, 13056, 2500, -2138, -554, 428, 83, -36, -1],
  [-8, -36, 224, 328, -1321, -1544, 6151, 15570, 13092, 2536, -2137, -562, 428, 84, -36, -1],
  [-8, -36, 222, 331, -1312, -1556, 6108, 15549, 13127, 2572, -2136, -570, 428, 86, -36, -1],
  [-8, -36, 221, 333, -1304, -1569, 6064, 15533, 13162, 2608, -2135, -578, 428, 87, -37, -1],
  [-8, -36, 219, 336, -1295, -1581, 6021, 15512, 13197, 2644, -2133, -586, 428, 88, -37, -1],
  [-8, -37, 217, 338, -1287, -1593, 5978, 15493, 13231, 2681, -2131, -594, 428, 90, -37, -1],
  [-7, -37, 216, 340, -1278, -1605, 5935, 15472, 13266, 2717, -2130, -602, 428, 91, -37, -1],
  [-7, -37, 214, 343, -1270, -1617, 5892, 15452, 13300, 2754, -2128, -610, 428, 92, -37, -1],
  [-7, -37, 212, 345, -1261, -1628, 5849, 15430, 13335, 2790, -2126, -618, 428, 94, -37, -1],
  [-7, -37, 211, 347, -1253, -1640, 5806, 15410, 13369, 2827, -2124, -626, 428, 95, -37, -1],
  [-7, -37, 209, 349, -1244, -1651, 5763, 15389, 13403, 2864, -2122, -634, 428, 96, -37, -1],
  [-7, -37, 207, 351, -1236, -1662, 5720, 15369, 13436, 2901, -2120, -642, 428, 98, -37, -1],
  [-7, -38, 205, 354, -1227, -1673, 5677, 15348, 13470, 2938, -2117, -650, 428, 99, -38, -1],
  [-7, -38, 204, 356, -1219, -1684, 5635, 15325, 13504, 2975, -2115, -658, 428, 101, -38, -1]]

def resampleD6 : List (List Int) := [
  [-7, -38, 202, 358, -1210, -1695, 5592, 15304, 13537, 3013, -2112, -666, 427, 102, -38, -1],
  [-6, -38, 200, 360, -1202, -1705, 5549, 15284, 13570, 3050, -2110, -674, 427, 103, -38, -2],
  [-6, -38, 199, 362, -1193, -1716, 5507, 15260, 13603, 3088, -2107, -683, 427, 105, -38, -2],
  [-6, -38, 197, 364, -1184, -1726, 5464, 15238, 13636, 3125, -2104, -691, 427, 106, -38, -2],
  [-6, -38, 195, 366, -1176, -1737, 5422, 15216, 13669, 3163, -2101, -699, 426, 108, -38, -2],
  [-6, -38, 194, 368, -1167, -1747, 5379, 15192, 13702, 3201, -2098, -707, 426, 109, -38, -2],
  [-6, -38, 192, 369, -1159, -1757, 5337, 15171, 13734, 3239, -2094, -716, 426, 110, -38, -2],
  [-6, -39, 190, 371, -1150, -1766, 5295, 15148, 13766, 3277, -2091, -724, 425, 112, -38, -2],
  [-6, -39, 189, 373, -1141, -1776, 5252, 15125, 13798, 3315, -2088, -732, 425, 113, -38, -2],
  [-6, -39, 187, 375, -1133, -1786, 5210, 15102, 13830, 3353, -2084, -740, 425, 115, -39, -2],
  [-5, -39, 185, 377, -1124, -1795, 5168, 15077, 13862, 3392, -2080, -749, 424, 116, -39, -2],
  [-5, -39, 184, 378, -1116, -1804, 5126, 15052, 13894, 3430, -2076, -757, 424, 118, -39, -2],
  [-5, -39, 182, 380, -1107, -1813, 5084, 15029, 13925, 3469, -2073, -765, 423, 119, -39, -2],
  [-5, -39, 180, 382, -1098, -1822, 5042, 15003, 13957, 3507, -2068, -774, 423, 121, -39, -2],
  [-5, -39, 179, 383, -1090, -1831, 5000, 14980, 13988, 3546, -2064, -782, 422, 122, -39, -2],
  [-5, -39, 177, 385, -1081, -1840, 4959, 14955, 14019, 3585, -2060, -791, 421, 124, -39, -2]]

def resampleD7 : List (List Int) := [
  [-5, -39, 175, 386, -1072, -1849, 4917, 14931, 14050, 3624, -2056, -799, 421, 125, -39, -2],
  [-5, -39, 174, 388, -1064, -1857, 4875, 14905, 14080, 3663, -2051, -807, 420, 127, -39, -2],
  [-5, -39, 172, 390, -1055, -1865, 4834, 14878, 14111, 3702, -2046, -816, 420, 128, -39, -2],
  [-5, -39, 171, 391, -1047, -1874, 4792, 14856, 14141, 3741, -2042, -824, 419, 130, -39, -3],
  [-4, -39, 169, 392, -1038, -1882, 4751, 14830, 14171, 3781, -2037, -833, 418, 131, -39, -3],
  [-4, -39, 167, 394, -1029, -1890, 4709, 14804, 14201, 3820, -2032, -841, 417, 133, -39, -3],
  [-4, -39, 166, 395, -1021, -1897, 4668, 14777, 14231, 3860, -2027, -850, 417, 134, -39, -3],
  [-4, -39, 164, 397, -1012, -1905, 4627, 14749, 14261, 3899, -2021, -858, 416, 136, -39, -3],
  [-4, -40, 162, 398, -1004, -1913, 4586, 14727, 14290, 3939, -2016, -867, 415, 137, -39, -3],
  [-4, -40, 161, 399, -995, -1920, 4545, 14698, 14319, 3979, -2010, -875, 414, 139, -39, -3],
  [-4, -40, 159, 400, -986, -1927, 4504, 14673, 14348, 4019, -2005, -884, 413, 140, -39, -3],
  [-4, -40, 158, 402, -978, -1934, 4463, 14644, 14377, 4059, -1999, -892, 412, 142, -39, -3],
  [-4, -40, 156, 403, -969, -1941, 4422, 14619, 14406, 4099, -1993, -901, 411, 143, -40, -3],
  [-4, -40, 154, 404, -961, -1948, 4381, 14592, 14435, 4139, -1987, -909, 410, 145, -40, -3],
  [-4, -40, 153, 405, -952, -1955, 4341, 14564, 14463, 4179, -1981, -918, 409, 147, -40, -3],
  [-4, -40, 151, 406, -943, -1962, 4300, 14538, 14491, 4219, -1975, -926, 408, 148, -40, -3]]

def resampleD8 : List (List Int) := [
  [-3, -40, 150, 407, -935, -1968, 4260, 14507, 14519, 4260, -1968, -935, 407, 150, -40, -3]]

/-- Table D, phases 0 to 128 (R220). DEDUCED, unsafe, log entry 10. -/
def resampleD : List (List Int) :=
  resampleD0 ++ resampleD1 ++ resampleD2 ++ resampleD3 ++ resampleD4 ++ resampleD5 ++ resampleD6 ++ resampleD7 ++ resampleD8

/-- Tap k of phase p (R220). DEDUCED, unsafe, log entry 10. -/
def resampleTap (tableU : Bool) (p k : Nat) : Int :=
  let t := if tableU then resampleU else resampleD
  if p ≤ 128 then (t.getD p []).getD k 0 else (t.getD (256 - p) []).getD (15 - k) 0

end Sys2Proof.Machine
end

