-- ==== Sys2Proof/Machine/CellAudio.lean ====
section
/-! DEFINITION. The audio engine of a cell (09_audio_engine.md). -/

namespace Sys2Proof.Machine

/-! ## Sample boundaries (R214) -/

/-- Samples of a frame whose number modulo 5 is `q`. -/
def samplesPerFrame (family q : Nat) : Nat :=
  if family = 0 then 800 else if family = 2 then 960 else if q = 4 then 800 else 801

/-- Counted cycle of sample boundary `s` of a frame. -/
def boundaryPos (family q s : Nat) : Nat :=
  if family = 1 then (801 * q + s) * 12500000 / 1001 - 10000000 * q else 12500 * s

/-- Position of the cell's next sample boundary in this frame, if there is one more. -/
def Cell.nextBoundary (c : Cell) : Option Nat :=
  let q := c.beam.frame % 5
  if c.aud.next < samplesPerFrame c.family q then some (boundaryPos c.family q c.aud.next) else none

/-! ## Sample voices (R217 to R222) -/

def svReg (base n : Nat) : Nat := base + 0x40 * n

/-- The 89 steps of IMA/DVI ADPCM (R218). PRESUMED, unsafe, log entry 31. -/
def adpcmSteps : List Int := [
  7, 8, 9, 10, 11, 12, 13, 14, 16, 17, 19, 21, 23, 25, 28, 31, 34, 37, 41, 45, 50, 55, 60, 66, 73, 80, 88, 97, 107, 118] ++ [
  130, 143, 157, 173, 190, 209, 230, 253, 279, 307, 337, 371, 408, 449, 494, 544, 598, 658, 724, 796, 876, 963, 1060] ++ [
  1166, 1282, 1411, 1552, 1707, 1878, 2066, 2272, 2499, 2749, 3024, 3327, 3660, 4026, 4428, 4871, 5358, 5894, 6484] ++ [
  7132, 7845, 8630, 9493, 10442, 11487, 12635, 13899, 15289, 16818, 18500, 20350, 22385, 24623, 27086, 29794, 32767]

/-- Index adjustment of a nibble. PRESUMED, unsafe, log entry 31. -/
def adpcmAdjust (nib : Nat) : Int := if nib % 8 < 4 then -1 else 2 * (nib % 4 : Nat) + 2

/-- One nibble: new predictor and step index (R218). PRESUMED, unsafe, log entry 31. -/
def adpcmNibble (s : Int × Int) (nib : Nat) : Int × Int :=
  let step := adpcmSteps.getD s.2.toNat 7
  let d := step / 8 + (if bit nib 2 then step else 0) + (if bit nib 1 then step / 2 else 0) + (if bit nib 0 then step / 4 else 0)
  (clampInt (-32768) 32767 (if bit nib 3 then s.1 - d else s.1 + d), clampInt 0 88 (s.2 + adpcmAdjust nib))

/-- Sample k of the block whose bytes are `bs` (R218). -/
def adpcmSample (bs : Bytes) (k : Nat) : Int :=
  let pred := signed 16 (leNat (bs.take 2))
  let idx := Nat.min ((bs.getD 2 0).toNat) 88
  let nibs := (List.range (k + 1)).map fun i =>
    let b := (bs.getD (4 + i / 2) 0).toNat
    if i % 2 = 0 then b % 16 else b / 16
  (nibs.foldl adpcmNibble (pred, (idx : Int))).1

/-- Bytes of `len` samples of a format (R217). -/
def voiceBytes (fmt len : Nat) : Nat := if fmt = 0 then len else if fmt = 1 then 2 * len else (len + 63) / 64 * 36

/-- The settings of a sample voice. -/
structure VoiceSet where
  mode : Nat
  fmt  : Nat
  addr : Nat
  len  : Nat
  loop : Nat
  step : Nat
  vol  : Nat
  thr  : Nat
  deriving DecidableEq, Repr

def Cell.voiceSet (c : Cell) (n : Nat) : VoiceSet :=
  let g := fun b => (c.reg (svReg b n)).toNat
  ⟨bits (g Reg.AUD_SVCTL) 6 5, bits (g Reg.AUD_SVCTL) 2 1, g Reg.AUD_SVADDR, g Reg.AUD_SVLEN, g Reg.AUD_SVLOOP,
    g Reg.AUD_SVSTEP, g Reg.AUD_SVVOL, bits (g Reg.AUD_SVSTRM) 15 0⟩

/-- Do the settings break R217 (R221)? -/
def VoiceSet.bad (v : VoiceSet) : Bool :=
  let al := if v.fmt = 0 then 1 else if v.fmt = 1 then 2 else 4
  let fits := match locate v.addr with
    | some (.wram, off) => decide (off + voiceBytes v.fmt v.len ≤ Region.wram.size)
    | some (.vram, off) => decide (off + voiceBytes v.fmt v.len ≤ Region.vram.size)
    | _ => false
  decide (v.addr % al ≠ 0) || !fits || (v.fmt == 2 && decide (v.len % 64 ≠ 0 ∨ v.loop % 64 ≠ 0)) ||
    (v.mode == 1 && decide (v.len ≤ v.loop)) || decide (0x200000 < v.step)

/-- The source sample that tap j reads, none where it reads as 0 without a memory read (R217).
DESIGN CHOICE, safe, log entry 18. -/
def VoiceSet.index (v : VoiceSet) (j : Int) : Option Nat :=
  if v.mode = 2 then
    some (if v.len = 0 then Config.streamModZero (wrap 32 j) else (j % (v.len : Int)).toNat)
  else if j < 0 then none
  else if j < v.len then some j.toNat
  else if v.mode = 1 then some (v.loop + (j.toNat - v.len) % (v.len - v.loop))
  else none

/-- Source sample `j` of the voice's data, or none where its bytes are fenced or beyond the memory (R217, R221). -/
def Cell.sourceSample (c : Cell) (v : VoiceSet) (j : Nat) : Option Int :=
  match locate v.addr with
  | none => none
  | some (r, off) =>
    let m := c.mem.region r
    let lo := if v.fmt = 0 then off + j else if v.fmt = 1 then off + 2 * j else off + 36 * (j / 64)
    let n := if v.fmt = 0 then 1 else if v.fmt = 1 then 2 else 5 + j % 64 / 2
    if r.size < lo + n ∨ c.fenced r lo (lo + n) then none
    else if v.fmt = 0 then some (signed 8 (m.read lo).toNat * 256)
    else if v.fmt = 1 then some (signed 16 (m.read16 lo))
    else some (adpcmSample (m.readBytes lo n) (j % 64))

/-- The value of tap j and whether it starved (R221). -/
def Cell.tap (c : Cell) (v : VoiceSet) (j : Int) : Int × Bool :=
  match v.index j with
  | none => (0, false)
  | some k => match c.sourceSample v k with
    | some s => (s, false)
    | none => (0, true)

/-- Output of a filter over 16 taps and a volume (R219). -/
def voiceOut (tableU : Bool) (p : Nat) (taps : List Int) (vol : Nat) : Int :=
  let acc := (taps.zipIdx.foldl (fun a t => a + resampleTap tableU p t.2 * t.1) (0 : Int))
  let y := clampInt (-32768) 32767 ((acc + 16384) / 32768)
  (y * (vol : Int) + 16384) / 32768

/-- Bytes of a stream that no later sample reads when I goes from `i0` to `i1`, before the modulo (R222). -/
def consumed (fmt i0 i1 : Nat) : Nat :=
  if fmt = 0 then i1 - i0 else if fmt = 1 then 2 * (i1 - i0)
  else (36 * (((i1 : Int) - 7) / 64 - ((i0 : Int) - 7) / 64)).toNat

/-- Take up a pending TRIG or position write at a boundary (R234). DESIGN CHOICE, unsafe, log entry 35. -/
def Cell.voiceStart (c : Cell) (n : Fin 32) : Cell :=
  let v := c.aud.sv[n]
  let v1 := if v.trig then { v with i := 0, f := 0, cons := 0, trig := false } else v
  let v2 := match v1.posW with
    | some i => { v1 with i := i, f := 0, posW := none }
    | none => v1
  let c1 := { c with aud := { c.aud with sv := c.aud.sv.set n.val v2 } }
  if v.trig then c1.orReg (svReg Reg.AUD_SVCTL n.val) 1 else c1

/-- Sample voice `n` at a boundary: the cell after it, and its output for the program (R219, R221, R222).
DESIGN CHOICE, unsafe, log entry 35. -/
def Cell.voiceStep (c0 : Cell) (n : Fin 32) : Cell × Int :=
  let c := c0.voiceStart n
  let ctl := svReg Reg.AUD_SVCTL n.val
  if !(c.rbit ctl 0) then (c, 0)
  else
    let s := c.voiceSet n.val
    if s.bad then ((c.clrReg ctl 1).orReg Reg.AUD_STAT 4, 0)
    else
      let v := c.aud.sv[n]
      let taps := (List.range 16).map fun k : Nat => c.tap s ((v.i : Int) - 7 + k)
      let out := voiceOut (decide (s.step ≤ 0x100000)) (v.f / 4096) (taps.map Prod.fst) s.vol
      let pos := (v.i * 2 ^ 20 + v.f + s.step) % 2 ^ 40
      let i := pos / 2 ^ 20
      let i1 := if s.mode = 1 then (if s.len ≤ i then s.loop + (i - s.len) % (s.len - s.loop) else i)
        else if s.mode = 2 then (if s.len = 0 then Config.streamModZero i else i % s.len) else i
      let ahead := (v.i * 2 ^ 20 + v.f + s.step) / 2 ^ 20
      let cons := if s.mode = 2 then Nat.min 0xFFFF (v.cons + consumed s.fmt v.i ahead) else v.cons
      let sv := c.aud.sv.set n.val { v with i := i1, f := pos % 2 ^ 20, cons := cons }
      let c1 := { c with aud := { c.aud with sv := sv } }
      let c2 := if taps.any Prod.snd then c1.orReg Reg.AUD_STAT 2 else c1
      let c3 := if s.mode = 0 ∧ s.len + 8 ≤ i then (c2.clrReg ctl 1).orReg Reg.AUD_VEND (2 ^ n.val) else c2
      (c3, out * 256)

/-! ## Wave voices (R223, R224) -/

def wvReg (base w : Nat) : Nat := base + 0x40 * w

/-- Step w of the wave table of a voice, a signed byte. -/
def Cell.waveStep (c : Cell) (w k : Nat) : Int :=
  signed 8 ((c.reg (Reg.AUD_WVTAB0 + 0x40 * w + 4 * (k / 4))).toNat / 256 ^ (k % 4))

/-- One generator step at 96 kHz: the voice and its new value (R223). -/
def Cell.waveGen (c : Cell) (w : Nat) (v : WVoice) : WVoice :=
  let ctl := (c.reg (wvReg Reg.AUD_WVCTL w)).toNat
  let p := v.p + c.reg (wvReg Reg.AUD_WVFREQ w)
  let moved := p.toNat / 2 ^ 28 ≠ v.p.toNat / 2 ^ 28
  let noise := if moved then v.noise / 2 + (v.noise + v.noise / 2) % 2 * 2 ^ 14 else v.noise
  let shape := bits ctl 2 1
  let x : Int :=
    if shape = 0 then (if p.toNat / 2 ^ 28 ≤ bits ctl 6 3 then 32767 else -32768)
    else if shape = 1 then
      (let t : Int := (p.toNat / 2 ^ 15 : Nat)
       if t < 65536 then t - 32768 else 98303 - t)
    else if shape = 2 then (if noise % 2 = 1 then 32767 else -32768)
    else c.waveStep w (p.toNat / 2 ^ 27) * 256
  ⟨p, v.h.drop 1 ++ [x], noise, v.trig⟩

/-- Wave voice `w` at a boundary (R224). -/
def Cell.waveVoice (c : Cell) (w : Fin 8) : Cell × Int :=
  let v0 := c.aud.wv[w]
  let v1 : WVoice := if v0.trig then ⟨0, List.replicate 16 0, 0x7FFF, false⟩ else v0
  let ctl := wvReg Reg.AUD_WVCTL w.val
  let c1 := if v0.trig then c.orReg ctl 1 else c
  if c1.rbit ctl 0 then
    let v2 := c1.waveGen w.val (c1.waveGen w.val v1)
    let out := voiceOut false 0 v2.h (c1.reg (wvReg Reg.AUD_WVVOL w.val)).toNat
    ({ c1 with aud := { c1.aud with wv := c1.aud.wv.set w.val v2 } }, out * 256)
  else ({ c1 with aud := { c1.aud with wv := c1.aud.wv.set w.val v1 } }, 0)

/-! ## Boundary (R214, R215, R229) -/

/-- A sample boundary: bank swap, voices, AUD_SAMPLE and AUD_SPOS; the program of the boundary before has run.
DESIGN CHOICE, safe, log entry 11. -/
def Cell.sampleBoundary (c : Cell) : Cell :=
  match c.nextBoundary, c.aud.voices with
  | some p, none =>
    let c0 := c.advanceTo p
    let c1 := if c0.rbit Reg.AUD_BSTAT 0 then
        { (c0.clrReg Reg.AUD_BSTAT 1).orReg Reg.AUD_STAT 1 with aud := { c0.aud with bankA := c0.aud.bankP } }
      else c0
    let r := (List.finRange 32).foldl (fun (s : Cell × List Int) n =>
      let t := s.1.voiceStep n
      (t.1, s.2 ++ [t.2])) (c1, [])
    let r2 := (List.finRange 8).foldl (fun (s : Cell × List Int) w =>
      let t := s.1.waveVoice w
      (t.1, s.2 ++ [t.2])) r
    let c2 := (r2.1.setReg Reg.AUD_SAMPLE (r2.1.reg Reg.AUD_SAMPLE + 1)).setReg Reg.AUD_SPOS (BitVec.ofNat 32 c.aud.next)
    { c2 with aud := { c2.aud with next := c.aud.next + 1, count := c.aud.count + 1, voices := some r2.2 } }
  | _, _ => c

/-! ## The mixing program (R226 to R228) -/

/-- The program's machine while one sample runs. -/
structure Mix where
  a      : List Int
  bus    : List Int
  biquad : List (Nat × Word)
  delays : List DelayLine
  out    : Int × Int
  deriving DecidableEq, Repr

def sat32 (v : Int) : Int := clampInt (-2147483648) 2147483647 v

/-- One instruction (R227, R228). -/
def mixStep (voices : List Int) (bank : List (Nat × Word)) (m : Mix) (ins : Word) : Mix :=
  let i := ins.toNat
  let d := bits i 25 21
  let a := m.a.getD (bits i 20 16) 0
  let pi := bits i 15 6
  let x := i % 64
  let par := fun k => (Sparse.get (fun _ => (0 : Word)) bank (pi + k)).toInt
  let prod := (a * par 0 + 4194304) / 8388608
  let setA := fun v : Int => { m with a := m.a.set d v }
  match bits i 31 26 with
  | 0x01 => setA (voices.getD x 0)
  | 0x02 => setA (m.bus.getD x 0)
  | 0x04 => setA (sat32 (a + m.a.getD x 0))
  | 0x05 => setA (sat32 (a - m.a.getD x 0))
  | 0x06 => setA (sat32 prod)
  | 0x07 => setA (sat32 (m.a.getD d 0 + prod))
  | 0x08 => { m with bus := m.bus.set x (sat32 (m.bus.getD x 0 + prod)) }
  | 0x09 =>
    let st := fun k => (Sparse.get (fun _ => (0 : Word)) m.biquad (4 * x + k)).toInt
    let acc := par 0 * a + par 1 * st 0 + par 2 * st 1 - par 3 * st 2 - par 4 * st 3
    let y := sat32 ((acc + 268435456) / 536870912)
    let put := fun (s : List (Nat × Word)) (k : Nat) (v : Int) => Sparse.put (fun _ => (0 : Word)) s (4 * x + k) (BitVec.ofInt 32 v)
    { m with a := m.a.set d y, biquad := put (put (put (put m.biquad 0 a) 1 (st 0)) 2 y) 3 (st 2) }
  | 0x0A =>
    let l := m.delays.getD x ⟨0, 0, []⟩
    { m with delays := m.delays.set x { l with mem := Sparse.put (fun _ => (0 : Word)) l.mem l.head (BitVec.ofInt 32 a) } }
  | 0x0B =>
    let l := m.delays.getD x ⟨0, 0, []⟩
    let k := (clampInt 1 ((l.len : Int) - 1) (par 0)).toNat
    setA (Sparse.get (fun _ => (0 : Word)) l.mem ((l.head + l.len - k) % l.len)).toInt
  | 0x0C => { m with out := (m.a.getD d 0, a) }
  | _ => m

/-- Sample pairs of an audio packet: N of R231, or of R232, from AUD_OCFG. -/
def Cell.packetSamples (c : Cell) : Nat :=
  [48, 120, 240, 480, 960].getD (c.fld Reg.AUD_OCFG 3 1) 48

def Cell.lpcm (c : Cell) : Bool := c.rbit Reg.AUD_OCFG 0

/-- Put a unit at the end of the packet engine's queue; a unit that fails its check is withheld, its numbers used
(R301). -/
def Cell.queueUnit (c : Cell) (u : EUnit) : Cell :=
  let n := if u.kind = .video then (u.nals.map List.length).sum else 0
  let c1 := { c with str := { c.str with queue := c.str.queue ++ [u], vnow := c.str.vnow + n } }
  if u.intact then c1 else c1.raise (.withheld (b2n (decide (u.kind = .audio))) u.stripe (u.frame % 2 ^ 32))

/-- Bytes of an audio packet (R231, R232). -/
def Cell.audioBytes (c : Cell) : Nat :=
  if c.lpcm then 6 * c.packetSamples else c.fld Reg.AUD_OCFG 31 16 * 1000 * c.packetSamples / 48000 / 8

/-- The last sample boundary of an audio packet falls: its place in the frame, and its bytes in the frame's count
(R402). -/
def Cell.audioMark (c : Cell) : Cell :=
  if (c.aud.bufIdx + c.aud.buf.length) % c.packetSamples ≠ 0 then c
  else
    let n := c.audioBytes
    { c with
      aud := { c.aud with marks := c.aud.marks ++ [(c.beam.frame, c.curLine, c.str.anow / n)] }
      str := { c.str with anow := c.str.anow + n } }

/-- An audio packet as a unit, and the cell without its samples (R281, R300). -/
def Cell.audioUnit (c : Cell) (payload : Bytes) (intact : Bool) : Cell :=
  let m := c.aud.marks.headD (c.beam.frame, c.curLine, 0)
  let u : EUnit :=
    ⟨.audio, m.1, c.aud.bufIdx + c.str.parkedSamples, m.2.2, false, false, [payload], crc32c payload, intact, m.2.1⟩
  let n := c.packetSamples
  { c with aud := { c.aud with buf := c.aud.buf.drop n, bufIdx := c.aud.bufIdx + n, marks := c.aud.marks.tail } }.queueUnit u

/-- The next LPCM packet, when its samples are there (R232). -/
def Cell.lpcmPacket (c : Cell) (intact : Bool) : Cell :=
  let n := c.packetSamples
  if c.lpcm && decide (n ≤ c.aud.buf.length) then
    let l24 := fun v : Int => beBytes 3 (wrap 24 v)
    let payload := (c.aud.buf.take n).flatMap fun s => l24 s.1 ++ l24 s.2
    c.audioUnit payload intact
  else c

/-- The per-sample program of the boundary that fell last; `init` are the values of A0 to A31 before it (R226, R230). -/
def Cell.audioProgram (c : Cell) (init : List Int) (intact : Bool) : Cell :=
  match c.aud.voices with
  | none => c
  | some vs =>
    let m0 : Mix := ⟨init, List.replicate 16 0, c.aud.biquad, c.aud.delays, (0, 0)⟩
    let m := c.aud.program.foldl (mixStep vs c.aud.bankA) m0
    let cl := fun v => clampInt (-8388608) 8388607 v
    let out := (cl m.out.1, cl m.out.2)
    let delays := m.delays.map fun l => { l with head := (l.head + 1) % l.len }
    let c1 := { c with aud := { c.aud with
      voices := none, biquad := m.biquad, delays := delays, out := out, buf := c.aud.buf ++ [out] } }
    let c2 := if out = m.out then c1 else c1.orReg Reg.AUD_STAT 8
    c2.audioMark.lpcmPacket intact

/-- Fit a byte string to a length. DESIGN CHOICE, safe, log entry 8. -/
def fitBytes (n : Nat) (bs : Bytes) : Bytes := bs.take n ++ List.replicate (n - bs.length) 0

/-- An Opus packet, when its frame and the 2.5 ms the encoder looks ahead are there (R231, R281).
DESIGN CHOICE, safe, log entry 9. -/
def Cell.opusPacket (c : Cell) (intact : Bool) : Cell :=
  let n := c.packetSamples
  if !c.lpcm && decide (n + 120 ≤ c.aud.buf.length) then
    let kbps := c.fld Reg.AUD_OCFG 31 16
    let code := c.fld Reg.AUD_OCFG 3 1
    let toc : Byte := ([0xE4, 0xE4, 0xEC, 0xF4, 0xFC] : Bytes).getD code 0xE4
    let len := c.audioBytes
    let ss := c.aud.buf.take (n + 120)
    let payload := toc :: fitBytes (len - 1) (Config.opusBody kbps code c.aud.opus ss)
    { c with aud := { c.aud with opus := Config.opusState kbps code c.aud.opus ss } }.audioUnit payload intact
  else c

/-! ## Registers with behaviours (R229, R234) -/

/-- Parameters in the bank (AUD_CAPS.NPARAM). -/
def Cell.nparam (c : Cell) : Nat := c.fld Reg.AUD_CAPS 26 16

/-- A write to AUD_PDATA (R229). -/
def Cell.pdataWrite (c : Cell) (v : Word) : Cell :=
  let i := c.fld Reg.AUD_PIDX 9 0
  let bank := if i < c.nparam then Sparse.put (fun _ => (0 : Word)) c.aud.bankP i v else c.aud.bankP
  let c1 := { c with aud := { c.aud with bankP := bank } }
  if c.rbit Reg.AUD_PIDX 31 then c1.setFld Reg.AUD_PIDX 9 0 (if i + 1 = c.nparam then 0 else i + 1) else c1

/-- A write of 1 to AUD_SWAP.GO (R229). -/
def Cell.swapGo (c : Cell) : Cell := c.orReg Reg.AUD_BSTAT 1

/-- A write to AUD_SVnCTL (R234). -/
def Cell.writeSvCtl (c : Cell) (n : Fin 32) (v : Word) : Cell :=
  let off := svReg Reg.AUD_SVCTL n.val
  let old := (c.reg off).toNat
  let w := v.toNat
  let c1 := c.setReg off (BitVec.ofNat 32 (keepIf3 old w 6 5 + keepIf3 old w 2 1 + w % 2))
  if bit w 7 then
    { c1 with aud := { c1.aud with sv := c1.aud.sv.set n.val { c1.aud.sv[n] with trig := true, posW := none } } }
  else c1

/-- A write to AUD_WVwCTL (R234). -/
def Cell.writeWvCtl (c : Cell) (w : Fin 8) (v : Word) : Cell :=
  let c1 := c.setReg (wvReg Reg.AUD_WVCTL w.val) (BitVec.ofNat 32 (v.toNat % 128))
  if v.getLsbD 7 then
    { c1 with aud := { c1.aud with wv := c1.aud.wv.set w.val { c1.aud.wv[w] with trig := true } } }
  else c1

/-- A write to AUD_SVnPOS (R222, R234). -/
def Cell.writeSvPos (c : Cell) (n : Fin 32) (v : Word) : Cell :=
  { c with aud := { c.aud with sv := c.aud.sv.set n.val { c.aud.sv[n] with posW := some (bits v.toNat 31 12), cons := 0 } } }

end Sys2Proof.Machine
end

