-- ==== Sys2Proof/Machine/CellBlt.lean ====
section
/-! DEFINITION. The block-copy engine, the scan guard and the visibility rules shared with the DMA channels
(07_block_copy_and_dma_programs.md, R110). -/

namespace Sys2Proof.Machine

/-- Asset window size admitted with the session: ASSETSZ of the REQ section (R308). -/
def Cell.assetSize (c : Cell) : Nat := beNat (slice c.sess.image.req 36 4)

/-- 64-byte lines that the span [a, a + s) touches (R175). -/
def lines64 (a s : Nat) : Nat := if s = 0 then 0 else (a + s - 1) / 64 - a / 64 + 1

/-- 64-byte lines of [a, a + s) not covered whole (R175). -/
def partial64 (a s : Nat) : Nat :=
  if s = 0 then 0
  else if a / 64 = (a + s - 1) / 64 then b2n (decide (¬ (a % 64 = 0 ∧ s = 64)))
  else b2n (decide (a % 64 ≠ 0)) + b2n (decide ((a + s) % 64 ≠ 0))

/-- The row spans [start, start + width) of a rectangle. -/
def rowSpans (base stride width rows : Nat) : List (Nat × Nat) :=
  (List.range rows).map fun r => (base + r * stride, width)

/-- Do the spans of two rectangles share a byte (R171)? DEDUCED, unsafe, log entry 37. -/
def spansMeet (xs ys : List (Nat × Nat)) : Bool :=
  xs.any fun x => ys.any fun y => x.1 < y.1 + y.2 ∧ y.1 < x.1 + x.2

/-- First byte and end of the range that a rectangle's rows span (R48, R164). DEDUCED, unsafe, log entry 37. -/
def spanExtent (xs : List (Nat × Nat)) : Nat × Nat :=
  match xs with
  | [] => (0, 0)
  | x :: r => r.foldl (fun e y => (Nat.min e.1 y.1, Nat.max e.2 (y.1 + y.2))) (x.1, x.1 + x.2)

/-- The range rounded outward to whole units of `u` bytes. DEDUCED, unsafe, log entry 37. -/
def roundOut (u : Nat) (e : Nat × Nat) : Nat × Nat := (e.1 / u * u, (e.2 + u - 1) / u * u)

/-! ## Scan guard (R110) -/

/-- Bytes per pixel of a bitmap format (R101). -/
def bytesPerPixel (fmt : Nat) : Nat := if fmt = 0 then 1 else if fmt = 3 then 4 else 2

/-- The settings of bitmap layer k in a copy of the frame registers (R100, R112). -/
def bitmapSet (regs : List (Nat × Word)) (k : Nat) : BitmapSet :=
  let g := fun off => (Sparse.get regReset regs (off + 0x20 * k)).toNat
  let ctl := g Reg.PLN_BCTL
  { en := bit ctl 0, fmt := bits ctl 2 1, opq0 := bit ctl 3, pal := bits ctl 7 4, addr := g Reg.PLN_BADDR
    stride := g Reg.PLN_BSTRIDE, bw := bits (g Reg.PLN_BSIZE) 11 0, bh := bits (g Reg.PLN_BSIZE) 27 16
    xpos := signed 16 (g Reg.PLN_BPOS), ypos := signed 16 (g Reg.PLN_BPOS / 65536), alpha := 255 }

/-- The guarded range of a buffer, as addresses (R110). -/
def BitmapSet.range (b : BitmapSet) : Nat × Nat :=
  (b.addr, b.addr + (b.bh - 1) * b.stride + b.bw * bytesPerPixel b.fmt)

/-- Does a layer's settings copy fail the check of R105? -/
def Cell.bitmapFails (c : Cell) (k : Nat) (b : BitmapSet) : Bool :=
  let cap := c.fld (Reg.PLN_BCAP + 0x20 * k) 15 0
  let bpp := bytesPerPixel b.fmt
  b.en && (decide (cap < Nat.min b.bw c.hactive * bpp) || cap == 0 || decide (b.stride < b.bw * bpp) || b.bw == 0 ||
    b.bh == 0 || decide (b.range.1 < 0x80000000 ∨ 0x80000000 + c.assetSize < b.range.2))

def pairAt (p : Bool × Bool) (k : Nat) : Bool := if k = 0 then p.1 else p.2

def setPair (p : Bool × Bool) (k : Nat) (v : Bool) : Bool × Bool := if k = 0 then (v, p.2) else (p.1, v)

/-- The guarded ranges of layer k (R110). -/
def Cell.guards (c : Cell) (k : Nat) : List (Nat × Nat) :=
  let a := bitmapSet c.pic.activeRegs k
  let s := bitmapSet c.pic.stagedRegs k
  (if a.en && !(pairAt c.pic.activeFail k) && !(pairAt c.pic.retired k) then [a.range] else []) ++
  (if c.pic.staged && s.en && !(pairAt c.pic.stagedFail k) then [s.range] else [])

/-- The scan guard at the visibility line of a write into the asset window (R110): `spans` are addresses. -/
def Cell.scanGuard (c : Cell) (spans : List (Nat × Nat)) (frame line : Nat) : Cell :=
  (List.range 2).foldl (fun c k =>
    if (c.guards k).any fun g => spans.any fun x => x.1 < g.2 ∧ g.1 < x.1 + x.2 then
      let first := bits (c.reg Reg.PLN_BSTAT).toNat 3 2 == 0
      let c1 := if first then
          (c.setReg Reg.PLN_GUARD (BitVec.ofNat 32 (line % 4096 * 2 ^ 20 + k))).setReg Reg.PLN_GFRAME
            (BitVec.ofNat 32 frame)
        else c
      c1.orReg Reg.PLN_BSTAT (2 ^ (2 + k))
    else c) c

/-! ## Command blocks (R169) -/

/-- The fields of a command. -/
structure BltFields where
  op   : Nat
  b    : Nat
  key  : Bool
  xdir : Bool
  ydir : Bool
  rot  : Nat
  hmir : Bool
  vmir : Bool
  src  : Nat
  dst  : Nat
  sstride : Nat
  dstride : Nat
  h    : Nat
  w    : Nat
  value : Nat
  deriving DecidableEq, Repr

/-- The command that eight words spell (R169); a FILL ignores the modifiers. -/
def bltFields (ws : List Word) : BltFields :=
  let g := fun i => (ws.getD i 0).toNat
  let w0 := g 0
  let copy := bits w0 31 28 == 0
  { op := bits w0 31 28, b := 2 ^ bits w0 27 26, key := copy && bit w0 25, xdir := copy && bit w0 24
    ydir := copy && bit w0 23, rot := if copy then bits w0 22 21 else 0, hmir := copy && bit w0 20
    vmir := copy && bit w0 19, src := g 1, dst := g 2, sstride := g 3, dstride := g 4, h := g 5 / 65536
    w := g 5 % 65536, value := g 6 }

/-- Is the command a transform (R169)? -/
def BltFields.transform (f : BltFields) : Bool := f.rot != 0 || f.hmir || f.vmir

/-- Destination width and height in pixels (R169). -/
def BltFields.dw (f : BltFields) : Nat := if f.rot % 2 = 1 then f.h else f.w
def BltFields.dh (f : BltFields) : Nat := if f.rot % 2 = 1 then f.w else f.h

def BltFields.srcSpans (f : BltFields) : List (Nat × Nat) :=
  if f.op = 0 then rowSpans f.src f.sstride (f.w * f.b) f.h else []
def BltFields.dstSpans (f : BltFields) : List (Nat × Nat) := rowSpans f.dst f.dstride (f.dw * f.b) f.dh

/-- Cost of a command in units (R175). -/
def BltFields.cost (f : BltFields) : Nat :=
  1 + (f.srcSpans.map fun x => lines64 x.1 x.2).sum +
    (f.dstSpans.map fun x => lines64 x.1 x.2 + if f.key then lines64 x.1 x.2 else partial64 x.1 x.2).sum

/-- Is a line inside the dead window (R178)? -/
def Cell.deadLine (c : Cell) (l : Nat) : Bool :=
  let start := c.fld Reg.BLT_DEAD 31 20
  let count := c.fld Reg.BLT_DEAD 11 0
  decide ((l + c.vtotal - start) % c.vtotal < count)

/-- The schedule loop of R176, line by line; none when the visibility line passes `limit`. -/
def Cell.schedule (c : Cell) (rate limit : Nat) : Nat → Nat → Nat → Nat → Option (Nat × Nat)
  | 0, _, _, _ => none
  | fuel + 1, tl, tu, rem =>
    if limit < tl + 1 then none
    else if c.deadLine (tl % c.vtotal) || tu == rate then Cell.schedule c rate limit fuel (tl + 1) 0 rem
    else if rem ≤ rate - tu then some (tl, tu + rem)
    else Cell.schedule c rate limit fuel (tl + 1) 0 (rem - (rate - tu))

/-- A fence held by a DMA move overlaps one of the spans, given as addresses (R166). -/
def Cell.dmaFenceMeets (c : Cell) (spans : List (Nat × Nat)) : Bool :=
  c.mem.fences.any fun f => (match f.owner with
    | .dma _ _ => true
    | .blt _ => false) && spans.any fun x => f.region.base + f.lo < x.1 + x.2 ∧ x.1 < f.region.base + f.hi

/-- Does every span lie within the session's admitted asset window (R174, R188)? -/
def Cell.inAsset (c : Cell) (spans : List (Nat × Nat)) : Bool :=
  spans.all fun x => 0x80000000 ≤ x.1 ∧ x.1 + x.2 ≤ 0x80000000 + c.assetSize

/-- The STATUS word of a command (R180). -/
def bltStatus (state line fdelta code : Nat) : Word :=
  BitVec.ofNat 32 (state * 2 ^ 28 + line * 2 ^ 12 + fdelta * 2 ^ 8 + code)

/-- The refusal code of a submission, 0 when it passes the checks made before the schedule (R174). -/
def Cell.bltRefusal (c : Cell) (block : Nat) (f : BltFields) (pix : Nat) : Nat :=
  let al := fun v => v % f.b != 0
  if c.fld Reg.BLT_CAPS 15 0 = 0 then 1
  else if 1 < f.op then 2
  else if pix = 3 then 3
  else if f.w = 0 ∨ f.h = 0 then 4
  else if al f.dst || al f.dstride || (f.op == 0 && (al f.src || al f.sstride)) then 5
  else if (1 < f.dh ∧ f.dstride < f.dw * f.b) ∨ (f.op = 0 ∧ 1 < f.h ∧ f.sstride < f.w * f.b) then 6
  else if !(c.inAsset f.srcSpans && c.inAsset f.dstSpans) then 7
  else if f.transform && spansMeet f.srcSpans f.dstSpans then 8
  else
    let e := spanExtent f.dstSpans
    if c.dmaFenceMeets ((0x10000000 + block, 32) :: (e.1, e.2 - e.1) :: f.srcSpans) then 9
    else if 16 ≤ c.blt.queue.length then 10
    else if 16 ≤ c.mem.fences.length then 11
    else 0

/-- A refusal: BLT_LASTSUB, REFUSED and the write-back (R173, R180). -/
def Cell.bltRefuse (c : Cell) (block code : Nat) : Cell :=
  let st := bltStatus 1 0 0 code
  ((c.setReg Reg.BLT_LASTSUB st).orReg Reg.BLT_STAT 2).bltWriteBack block st

/-- An acceptance: queue, tail, fence, armed watermark and write-back (R176, R179, R180). -/
def Cell.bltAccept (c : Cell) (block : Nat) (ws : List Word) (f : BltFields) (tail : Nat × Nat) : Cell :=
  let vis := tail.1 + 1
  let fdelta := vis / c.vtotal - c.beam.frame
  let st := bltStatus 2 (vis % c.vtotal) fdelta 0
  let e := roundOut 64 (spanExtent f.dstSpans)
  let n := c.blt.count
  let fence : Fence := ⟨.blt n, .asset, e.1 - 0x80000000, e.2 - 0x80000000⟩
  let cmd : BltCmd := ⟨n, block, ws, vis, fdelta, false, false, false⟩
  let c1 := { c with mem := { c.mem with fences := c.mem.fences ++ [fence] } }
  let c2 := { c1 with blt := ⟨c.blt.queue ++ [cmd], tail.1, tail.2, vis, true, n + 1, c.blt.wb⟩ }
  let c3 := ((c2.setReg Reg.BLT_LASTSUB st).setReg Reg.BLT_TAILLINE
    (BitVec.ofNat 32 (vis % c.vtotal * 2 ^ 20))).setReg Reg.BLT_TAILFRAME (BitVec.ofNat 32 (vis / c.vtotal))
  (c3.setReg Reg.BLT_ACCCNT (c3.reg Reg.BLT_ACCCNT + 1)).bltWriteBack block st

/-- A write to BLT_SUBMIT that takes effect at position `pos` (R173 to R176). -/
def Cell.bltSubmit (c : Cell) (v : Word) (pos : Nat) : Cell :=
  let block := bits v.toNat 17 5 * 32
  let ws := (List.range 8).map fun i => c.mem.wram.read32 (block + 4 * i)
  let f := bltFields ws
  let code := c.bltRefusal block f (bits (ws.getD 0 0).toNat 27 26)
  if code ≠ 0 then c.bltRefuse block code
  else
    let acc := c.beam.frame * c.vtotal + (c.posAt pos).1
    let start := if c.blt.tl < acc + 1 then (acc + 1, 0) else (c.blt.tl, c.blt.tu)
    match c.schedule (c.fld Reg.BLT_CAPS 15 0) (acc + 2 * c.vtotal) (2 * c.vtotal + 2) start.1 start.2 f.cost with
    | none => c.bltRefuse block 0x0C
    | some t => c.bltAccept block ws f t

/-! ## The work of a command (R170) -/

/-- Read `n` bytes of the asset window at an address; the bytes of a failing 64-byte line read 0x00 (R167). -/
def readAsset (m : Memory) (bad : List Nat) (a n : Nat) : Bytes :=
  (List.range n).map fun i =>
    if bad.any fun l => l / 64 = (a + i) / 64 then 0 else m.read (a + i - 0x80000000)

/-- Store bytes in the asset window at an address. -/
def writeAsset (m : Memory) (a : Nat) (bs : Bytes) : Memory := m.writeBytes (a - 0x80000000) bs

/-- The destination pixel of source pixel (sx, sy) (R170). -/
def BltFields.target (f : BltFields) (sx sy : Nat) : Nat × Nat :=
  let mx := if f.hmir then f.w - 1 - sx else sx
  let my := if f.vmir then f.h - 1 - sy else sy
  if f.rot = 0 then (mx, my) else if f.rot = 1 then (f.h - 1 - my, mx)
  else if f.rot = 2 then (f.w - 1 - mx, f.h - 1 - my) else (my, f.w - 1 - mx)

/-- Copy one pixel (R170). -/
def BltFields.copyPixel (f : BltFields) (bad : List Nat) (m : Memory) (sx sy : Nat) : Memory :=
  let px := readAsset m bad (f.src + sy * f.sstride + sx * f.b) f.b
  if f.key && leNat px == f.value % 256 ^ f.b then m
  else
    let t := f.target sx sy
    writeAsset m (f.dst + t.2 * f.dstride + t.1 * f.b) px

/-- Indices 0 to n − 1, ascending or descending. -/
def ordered (n : Nat) (down : Bool) : List Nat := if down then (List.range n).reverse else List.range n

/-- What a command leaves in the asset window (R167, R170); failing lines that it writes in part are merged into 0x00. -/
def BltFields.run (f : BltFields) (bad : List Nat) (m : Memory) : Memory :=
  let touched := bad.filter fun l => f.dstSpans.any fun x => x.1 / 64 ≤ l / 64 ∧ l / 64 ≤ (x.1 + x.2 - 1) / 64
  let m := touched.foldl (fun m l => writeAsset m (l / 64 * 64) (List.replicate 64 0)) m
  if f.op = 1 then
    f.dstSpans.foldl (fun m x => writeAsset m x.1 ((List.range f.w).flatMap fun _ => leBytes f.b f.value)) m
  else
    (ordered f.h (f.ydir && !f.transform)).foldl (fun m sy =>
      (ordered f.w (f.xdir && !f.transform)).foldl (fun m sx => f.copyPixel bad m sx sy) m) m

/-- Spans rounded outward to whole 64-byte lines. -/
def wholeLines (xs : List (Nat × Nat)) : List (Nat × Nat) := xs.map fun x => (x.1 / 64 * 64, 64 * lines64 x.1 x.2)

/-- Do two commands share a line of data that one of them writes (R166)?. DEDUCED, safe, log entry 91. -/
def BltFields.shares (f g : BltFields) : Bool :=
  let fd := wholeLines f.dstSpans
  let gd := wholeLines g.dstSpans
  spansMeet fd gd || spansMeet fd (wholeLines g.srcSpans) || spansMeet (wholeLines f.srcSpans) gd

/-- A command accepted before `q`, with data in common, still has writes to land (R166).
DEDUCED, safe, log entry 91. -/
def Cell.bltBehind (c : Cell) (q : BltCmd) : Bool :=
  c.blt.queue.any fun p => decide (p.seq < q.seq) && !p.landed && (bltFields p.words).shares (bltFields q.words)

/-- Every write of command `n` has landed; `bad` are 64-byte lines, as addresses, that failed their tags twice. Commands
with data in common land in order of acceptance, so the result is that of executing all in that order (R166).
DEDUCED, safe, log entry 91. -/
def Cell.bltLand (c : Cell) (n : Nat) (bad : List Nat) : Cell :=
  match c.blt.queue.find? fun q => q.seq = n with
  | none => c
  | some q =>
    if q.landed || c.bltBehind q then c
    else
      let f := bltFields q.words
      let asset := f.run bad c.mem.asset
      let queue := c.blt.queue.map fun p => if p.seq = n then { p with landed := true, tagf := !bad.isEmpty } else p
      { c with mem := { c.mem with asset := asset }, blt := { c.blt with queue := queue } }

/-- Command `q` becomes visible at a line (R167, R177, R180, R110). -/
def Cell.bltShow (c : Cell) (q : BltCmd) (frame line : Nat) : Cell :=
  let queue := c.blt.queue.filter fun p => p.seq ≠ q.seq
  let c1 := { c with blt := { c.blt with queue := queue } }
  let c2 := ((c1.dropFence (.blt q.seq)).orReg Reg.BLT_STAT 1).dirty
  let c3 := c2.setReg Reg.BLT_DONECNT (c2.reg Reg.BLT_DONECNT + 1)
  let c4 := c3.bltWriteBack q.block (bltStatus (if q.late then 5 else 3) (q.vis % c.vtotal) q.fdelta 0)
  let c5 := if q.tagf then (c4.orReg Reg.BLT_STAT 0x10).diverge 0x04 line else c4
  c5.scanGuard (bltFields q.words).dstSpans frame line

/-- BLT_COMMAND_VISIBLE: command `n`, landed, at its visibility line, the line that starts next (R177). -/
def Cell.bltVisible (c : Cell) (n : Nat) : Cell :=
  match c.blt.queue.find? fun q => q.seq = n with
  | none => c
  | some q => if q.landed && c.dueNext q.vis then c.bltShow q c.beam.frame c.beam.started else c

/-- At cycle 0 of the line that starts next: commands due become visible, or are late (R177). -/
def Cell.bltLine (c : Cell) : Cell :=
  c.blt.queue.foldl (fun c q =>
    if !(c.dueNext q.vis) then c
    else if q.landed then c.bltShow q c.beam.frame c.beam.started
    else if q.vis = c.nextAbs then
      let queue := c.blt.queue.map fun p => if p.seq = q.seq then { p with late := true } else p
      let c1 := { c with blt := { c.blt with queue := queue } }
      ((c1.diverge 0x02 c.beam.started).orReg Reg.BLT_STAT 8).bltWriteBack q.block
        (bltStatus 4 (q.vis % c.vtotal) q.fdelta 0)
    else c) c

/-- The watermark, judged at cycle 0 of absolute line `l` after visibility (R179). -/
def Cell.bltWatermark (c : Cell) (l : Nat) : Cell :=
  if c.blt.armed && decide (c.blt.lastVis ≤ l + c.fld Reg.BLT_WM 11 0) && !c.blt.queue.isEmpty then
    { c.orReg Reg.BLT_STAT 4 with blt := { c.blt with armed := false } }
  else c

end Sys2Proof.Machine
end

