-- ==== Sys2Proof/Machine/CellDma.lean ====
section
/-! DEFINITION. The DMA channels of a cell (07_block_copy_and_dma_programs.md, R181 to R196). -/

namespace Sys2Proof.Machine

/-- Offset of a per-channel register. -/
def chReg (base : Nat) (ch : Fin 8) : Nat := base + 0x40 * ch.val

def Cell.chan (c : Cell) (ch : Fin 8) : DmaChan := c.dma[ch]

def Cell.setChan (c : Cell) (ch : Fin 8) (d : DmaChan) : Cell := { c with dma := c.dma.set ch.val d }

/-- The counted cycle at which the channel acts: the fourth of its instruction, or that of the event which ends its wait
(R182, R184, R191). -/
def Cell.dmaPos (c : Cell) (ch : Fin 8) : Nat :=
  let d := c.chan ch
  if !d.low then d.acts
  else match d.held with
    | .waitReq req => c.reqFrom req
    | _ => c.evt.last

/-- A fault of channel `ch` at position `pos`, at instruction address `addr` with word 0 `w0` (R193). -/
def Cell.dmaFault (c : Cell) (ch : Fin 8) (code addr : Nat) (w0 : Word) (pos : Nat) : Cell :=
  let frec := c.reg (chReg Reg.DMA_CHFREC ch)
  let off := bits frec.toNat 17 4 * 16
  let blocked := frec.getLsbD 0 && c.fenced .wram off (off + 16)
  let d := c.chan ch
  let full := if blocked then code + 0x80 else code
  let c1 := (c.setChan ch { d with state := 4, held := .none, code := full }).orReg Reg.DMA_STAT (2 ^ (8 + ch.val))
  if frec.getLsbD 0 && !blocked then
    let rec0 := leBytes 4 (0x10000000 + addr) ++ leBytes 4 w0.toNat ++ leBytes 4 (code * 2 ^ 24) ++
      leBytes 4 (beamWord (c.posAt pos)).toNat
    c1.writeMem .wram off rec0
  else c1

/-- The channel reads the instruction at its program counter, in the cycle after its last action (R182, R184, R194). -/
def Cell.dmaFetch (c : Cell) (ch : Fin 8) : Cell :=
  let d := c.chan ch
  let out := decide (0x40000 < d.pc + 16) || c.fenced .wram d.pc (d.pc + 16)
  c.setChan ch { d with
    words := if out then [] else (List.range 4).map fun i => c.mem.wram.read32 (d.pc + 4 * i)
    sofs := c.reg (chReg Reg.DMA_CHSOFS ch), dofs := c.reg (chReg Reg.DMA_CHDOFS ch)
    stride := c.reg (chReg Reg.DMA_CHSTRIDE ch) }

/-- A write of 1 to DMA_CHnCTL.START that takes effect at position `pos` (R181 to R183). -/
def Cell.dmaStart (c : Cell) (ch : Fin 8) (pos : Nat) : Cell :=
  let d := c.chan ch
  if d.state = 1 ∨ d.state = 2 then c
  else
    let pc := c.fld (chReg Reg.DMA_CHPC ch) 17 4 * 16
    let c1 := c.setChan ch { d with
      state := 1, pc := pc, code := 0, cnt0 := 0, cnt1 := 0, armed0 := false, armed1 := false, held := .none
      ending := false, acts := pos + 4, low := false }
    if c.fld (chReg Reg.DMA_CHQUOTA ch) 23 0 = 0 then c1.dmaFault ch 0x01 pc 0 pos else c1.dmaFetch ch

/-- The channel halts in IDLE; a MOVE that has not issued is abandoned (R183). -/
def Cell.dmaIdle (c : Cell) (ch : Fin 8) : Cell :=
  c.setChan ch { c.chan ch with state := 0, held := .none, ending := false }

/-- A write of 1 to DMA_CHnCTL.STOP: at once where the channel waits, else at the end of its current instruction (R183).
DEDUCED, unsafe, log entry 79. -/
def Cell.dmaStop (c : Cell) (ch : Fin 8) : Cell :=
  let d := c.chan ch
  if d.state = 2 ∨ (d.state = 1 ∧ d.held ≠ .none) then c.dmaIdle ch
  else if d.state = 1 then c.setChan ch { d with ending := true }
  else c

/-- Is the channel about to execute an instruction (R182)? DESIGN CHOICE, safe, log entry 1. -/
def Cell.dmaReady (c : Cell) (ch : Fin 8) : Bool := (c.chan ch).state == 1 && (c.chan ch).held == .none

/-- The fault of the channel's instruction up to its opcode (R194), or its words. -/
def Cell.dmaRead (c : Cell) (ch : Fin 8) : Nat ⊕ List Word :=
  let ws := (c.chan ch).words
  let op := bits (ws.getD 0 0).toNat 31 28
  if ws.isEmpty then .inl 0x02 else if op = 0 ∨ 6 ≤ op then .inl 0x03 else .inr ws

/-- While the processor begins no instruction, counted cycles pass until the channel acts. -/
def Cell.toDma (c : Cell) (ch : Fin 8) : Cell :=
  if c.mayIdleTo (c.chan ch).acts then c.advanceTo (c.chan ch).acts else c

/-- The end of an instruction, at which a STOP takes hold unless the channel has stopped by itself (R183).
DEDUCED, unsafe, log entry 79. -/
def Cell.dmaEnded (c : Cell) (ch : Fin 8) : Cell :=
  let d := c.chan ch
  if d.ending && decide (d.state = 1 ∨ d.state = 2) then c.dmaIdle ch else c

/-- Run the channel's next instruction when it has opcode `op`; a fetch fault or a reserved opcode faults instead. -/
def Cell.dmaExec (c : Cell) (ch : Fin 8) (op : Nat) (act : Cell → List Word → Cell) : Cell :=
  if c.dmaReady ch then
    match c.dmaRead ch with
    | .inl code =>
      let w0 := (c.chan ch).words.getD 0 0
      (c.toDma ch).dmaFault ch code (c.chan ch).pc w0 (c.dmaPos ch)
    | .inr ws => if bits (ws.getD 0 0).toNat 31 28 = op then (act (c.toDma ch) ws).dmaEnded ch else c
  else c

/-- The channel goes on with the next instruction, which acts 4 cycles later. -/
def Cell.dmaNext (c : Cell) (ch : Fin 8) : Cell :=
  let d := c.chan ch
  (c.setChan ch { d with state := 1, pc := d.pc + 16, held := .none, acts := c.dmaPos ch + 4, low := false }).dmaFetch ch

/-! ## Instructions other than MOVE -/

/-- LOOP (R184). -/
def Cell.dmaLoopAct (ch : Fin 8) (c : Cell) (ws : List Word) : Cell :=
  let w0 := (ws.getD 0 0).toNat
  let tgt := (ws.getD 1 0).toNat
  let d := c.chan ch
  if tgt < 0x10000000 ∨ 0x10040000 ≤ tgt ∨ tgt % 16 ≠ 0 then c.dmaFault ch 0x04 d.pc (ws.getD 0 0) (c.dmaPos ch)
  else
    let one := bit w0 27
    let count := w0 % 65536
    let armed := if one then d.armed1 else d.armed0
    let cnt := if armed then (if one then d.cnt1 else d.cnt0) else count
    let r : Nat × Bool × Nat :=
      if count = 0xFFFF then (cnt, true, tgt - 0x10000000)
      else if cnt ≠ 0 then (cnt - 1, true, tgt - 0x10000000)
      else (cnt, false, d.pc + 16)
    (if one then c.setChan ch { d with cnt1 := r.1, armed1 := r.2.1, pc := r.2.2, acts := c.dmaPos ch + 4 }
    else c.setChan ch { d with cnt0 := r.1, armed0 := r.2.1, pc := r.2.2, acts := c.dmaPos ch + 4 }).dmaFetch ch

/-- WAIT (R184, R186, R194). -/
def Cell.dmaWaitAct (ch : Fin 8) (c : Cell) (ws : List Word) : Cell :=
  let w0 := (ws.getD 0 0).toNat
  let kind := bits w0 27 26
  let req := w0 % 64
  let line := (ws.getD 1 0).toNat / 2 ^ 20
  let d := c.chan ch
  if kind = 3 ∨ (kind = 0 ∧ c.vtotal ≤ line) then c.dmaFault ch 0x05 d.pc (ws.getD 0 0) (c.dmaPos ch)
  else if kind = 1 ∧ 40 < req ∧ req ≠ 63 then c.dmaFault ch 0x06 d.pc (ws.getD 0 0) (c.dmaPos ch)
  else
    let p := c.dmaPos ch
    let now := decide (p ≤ line * c.cpl)
    let mask := (ws.getD 1 0).toNat % 65536
    let held : DmaHeld :=
      if kind = 0 then .waitLine (if now then c.beam.frame else c.beam.frame + 1) line
      else if kind = 1 then .waitReq req
      else .waitEvent mask
    let acts := if kind = 0 then (if now then line * c.cpl else c.counted + line * c.cpl)
      else p
    let low := (kind == 1 && !(c.reqAt req p)) || (kind == 2 && decide ((c.reg Reg.DMA_EVT).toNat &&& mask = 0))
    c.setChan ch { d with state := 2, held := held, acts := acts, low := low }

/-- SIGNAL (R184, R185). -/
def Cell.dmaSignalAct (ch : Fin 8) (c : Cell) (ws : List Word) : Cell :=
  let w0 := (ws.getD 0 0).toNat
  let c1 := c.orReg Reg.DMA_EVT (w0 % 65536)
  (if bit w0 27 then c1.orReg Reg.DMA_STAT (2 ^ (16 + ch.val)) else c1).dmaNext ch

/-- END (R184). -/
def Cell.dmaEndAct (ch : Fin 8) (c : Cell) (ws : List Word) : Cell :=
  let d := c.chan ch
  let c1 := c.setChan ch { d with state := 3 }
  if bit (ws.getD 0 0).toNat 27 then c1.orReg Reg.DMA_STAT (2 ^ ch.val) else c1

/-- The condition of a WAIT holds, and it ends (R184, R187). A WAIT for events that held until now ends in the cycle that sets
them, and a bit that one cycle both sets and clears stays set (R185). -/
def Cell.dmaWaitEnd (c : Cell) (ch : Fin 8) : Cell :=
  match (c.chan ch).held with
  | .waitLine frame line =>
    if frame < c.beam.frame ∨ (frame = c.beam.frame ∧ line * c.cpl ≤ c.beam.fpos) ∨
        (frame = c.beam.frame ∧ line < c.beam.started) then c.dmaNext ch else c
  | .waitReq req =>
    let p := c.dmaPos ch
    if c.reqOn req p || (c.reqAcked req p && (!(c.chan ch).low || decide ((c.chan ch).acts < p))) then (c.reqAck req p).dmaNext ch else c
  | .waitEvent mask =>
    let held := (c.chan ch).low
    if (c.reg Reg.DMA_EVT).toNat &&& mask ≠ 0 then (if held then c else c.clrReg Reg.DMA_EVT mask).dmaNext ch else c
  | _ => c

/-! ## Moves (R188 to R192) -/

/-- The end of a move that an address lies in: a region, the register blocks, or nothing. -/
def dmaRegion (a : Nat) : Option (Option Region) :=
  if 0x40000000 ≤ a ∧ a < 0x40010000 then some none else (locate a).map fun p => some p.1

/-- Row addresses, modulo 2^32 (R184). -/
def dmaRows (base stride rows : Nat) : List Nat := (List.range rows).map fun r => (base + r * stride) % 2 ^ 32

/-- Does every byte of the rows lie in the region; for the asset window, in the admitted part (R188)? -/
def Cell.rowsIn (c : Cell) (r : Region) (rows : List Nat) (width : Nat) : Bool :=
  let size := match r with
    | .asset => c.assetSize
    | r => r.size
  rows.all fun a => r.base ≤ a ∧ a + width ≤ r.base + size

/-- Units of a move: lines of its asset side, partly covered destination lines twice (R190). -/
def dmaUnits (src dst : Option Region) (srows drows : List Nat) (width : Nat) : Nat :=
  (if src = some .asset then (srows.map fun a => lines64 a width).sum else 0) +
  (if dst = some .asset then (drows.map fun a => lines64 a width + partial64 a width).sum else 0)

/-- The fault code of a MOVE, 0 when its fields pass (R194). -/
def Cell.moveFault (c : Cell) (ch : Fin 8) (rows width src dst ss ds : Nat) : Nat :=
  if rows = 0 ∨ width = 0 then 0x07
  else if 1 < rows ∧ (ss < width ∨ ds < width) then 0x08
  else
    let sr := dmaRegion src
    let dr := dmaRegion dst
    if sr = some none ∨ dr = some none ∨ sr = some (some .pram) ∨ (sr = some (some .asset) ∧ dr = some (some .asset)) then
      0x09
    else
      let srows := dmaRows src ss rows
      let drows := dmaRows dst ds rows
      match sr, dr with
      | some (some r), some (some t) =>
        if !(c.rowsIn r srows width) then 0x0A
        else if !(c.rowsIn t drows width) then 0x0B
        else if c.fld (chReg Reg.DMA_CHQUOTA ch) 23 0 < dmaUnits (some r) (some t) srows drows width then 0x0C
        else 0
      | some (some _), _ => 0x0B
      | _, _ => 0x0A

/-- Units of frame `t` that the channel has used (R191). -/
def DmaChan.usedIn (d : DmaChan) (t : Nat) : Nat := Sparse.get (fun _ => 0) d.used t

/-- First frame from `t` on with room for `units` (R191). -/
def DmaChan.findFrame (d : DmaChan) (units quota : Nat) : Nat → Nat → Nat
  | 0, t => t
  | fuel + 1, t => if d.usedIn t + units ≤ quota then t else DmaChan.findFrame d units quota fuel (t + 1)

/-- Earliest frame t0 and target frame t of a move issued now (R191). -/
def Cell.moveTarget (c : Cell) (ch : Fin 8) (units : Nat) : Nat × Nat :=
  let d := c.chan ch
  let due := c.fld (chReg Reg.DMA_CHDUE ch) 31 20
  let a := c.beam.frame * c.vtotal + (c.posAt (c.dmaPos ch)).1 + c.fld (chReg Reg.DMA_CHDUE ch) 11 0
  let t0 := (a - due + c.vtotal - 1) / c.vtotal
  (t0, d.findFrame units (c.fld (chReg Reg.DMA_CHQUOTA ch) 23 0) (d.used.length + 1) (Nat.max t0 d.tprev))

/-- Is some byte of the rows under a fence (R166)? -/
def Cell.rowsFenced (c : Cell) (rows : List Nat) (width : Nat) : Bool :=
  rows.any fun a => match locate a with
    | some (r, off) => c.fenced r off (off + width)
    | none => false

/-- The fence of a move's destination range (R48, R164). DEDUCED, unsafe, log entry 37. -/
def moveFence (o : FenceOwner) (rows : List Nat) (width : Nat) : Option Fence :=
  let e := spanExtent (rows.map fun a => (a, width))
  (locate e.1).map fun p =>
    let off := e.1 - p.1.base
    let rr := roundOut (if p.1 = .asset then 64 else 4) (off, off + (e.2 - e.1))
    ⟨o, p.1, rr.1, rr.2⟩

/-- Bytes at an address of any region. -/
def Cell.bytesAt (c : Cell) (a n : Nat) : Bytes := match locate a with
  | some (r, off) => (c.mem.region r).readBytes off n
  | none => []

/-- May a checked MOVE issue: no fence over its source or destination, a fence entry free, and a target frame no more than
one after the earliest (R50, R166, R191)? Its fence and target frame. -/
def Cell.mayIssue (c : Cell) (ch : Fin 8) (rows width src dst ss ds : Nat) : Option (Fence × Nat) :=
  let srows := dmaRows src ss rows
  let drows := dmaRows dst ds rows
  let reg := fun a => (locate a).map Prod.fst
  let t := c.moveTarget ch (dmaUnits (reg src) (reg dst) srows drows width)
  let ext := spanExtent (drows.map fun a => (a, width))
  match moveFence (.dma ch (c.reg (chReg Reg.DMA_CHISS ch)).toNat) drows width with
  | none => none
  | some f =>
    if c.rowsFenced srows width || c.fenced f.region (ext.1 - f.region.base) (ext.2 - f.region.base) ||
        decide (16 ≤ c.mem.fences.length) || decide (t.1 + 1 < t.2) then none
    else some (f, t.2)

/-- A MOVE that waits issues when every condition of R191 holds. DEDUCED, unsafe, log entry 33. -/
def Cell.dmaIssue (c : Cell) (ch : Fin 8) : Cell :=
  let d := c.chan ch
  match d.held with
  | .move rows width src dst ss ds sadv dadv vevt =>
    match c.mayIssue ch rows width src dst ss ds with
    | none => c
    | some (f, t) =>
      let srows := dmaRows src ss rows
      let reg := fun a => (locate a).map Prod.fst
      let units := dmaUnits (reg src) (reg dst) srows (dmaRows dst ds rows) width
      let seq := (c.reg (chReg Reg.DMA_CHISS ch)).toNat
      let due := t * c.vtotal + c.fld (chReg Reg.DMA_CHDUE ch) 31 20
      let m : DmaMoveRec := ⟨seq, src, dst, ss, ds, width, rows, srows.map fun a => c.bytesAt a width, due, false, false,
        false, vevt⟩
      let used := Sparse.put (fun _ => 0) d.used t (d.usedIn t + units)
      let c1 := { c with mem := { c.mem with fences := c.mem.fences ++ [f] } }
      let c2 := c1.setChan ch { d with
        state := 1, pc := d.pc + 16, held := .none, tprev := t, used := used, moves := d.moves ++ [m]
        acts := c.dmaPos ch + 4, low := false }
      let adv := fun stride => if rows = 1 then width else rows * stride
      let c3 := if sadv then
          c2.setReg (chReg Reg.DMA_CHSOFS ch) (c2.reg (chReg Reg.DMA_CHSOFS ch) + BitVec.ofNat 32 (adv ss)) else c2
      let c4 := if dadv then
          c3.setReg (chReg Reg.DMA_CHDOFS ch) (c3.reg (chReg Reg.DMA_CHDOFS ch) + BitVec.ofNat 32 (adv ds)) else c3
      (c4.setReg (chReg Reg.DMA_CHISS ch) (BitVec.ofNat 32 (seq + 1))).dmaFetch ch
  | _ => c

/-- MOVE is checked, and waits to issue (R184, R191); one that is the last before a STOP issues now or never (R183). -/
def Cell.dmaMoveAct (ch : Fin 8) (c : Cell) (ws : List Word) : Cell :=
  let w0 := (ws.getD 0 0).toNat
  let rows := w0 % 4096
  let width := (ws.getD 3 0).toNat % 2 ^ 24
  let d := c.chan ch
  let src := ((ws.getD 1 0) + d.sofs).toNat
  let dst := ((ws.getD 2 0) + d.dofs).toNat
  let ss := bits d.stride.toNat 31 16
  let ds := bits d.stride.toNat 15 0
  let code := c.moveFault ch rows width src dst ss ds
  if code ≠ 0 then c.dmaFault ch code d.pc (ws.getD 0 0) (c.dmaPos ch)
  else
    let vevt := if bit w0 25 then some (bits w0 23 20) else none
    let low := (c.mayIssue ch rows width src dst ss ds).isNone
    let c1 := c.setChan ch { d with held := .move rows width src dst ss ds (bit w0 27) (bit w0 26) vevt, low := low }
    if d.ending then c1.dmaIssue ch else c1

/-- The bytes of a row with those of failing 64-byte asset lines replaced by 0x00 (R167). -/
def maskBad (bad : List Nat) (a : Nat) (bs : Bytes) : Bytes :=
  bs.zipIdx.map fun p => if bad.any fun l => l / 64 = (a + p.2) / 64 then 0 else p.1

/-- Store a row at an address of any region (R31, R189). -/
def Cell.storeRow (c : Cell) (a : Nat) (bs : Bytes) : Cell := match locate a with
  | some (.asset, off) => { c with mem := { c.mem with asset := c.mem.asset.writeBytes off bs } }
  | some (r, off) => c.writeMem r off bs
  | none => c

/-- Every byte of move `n` has landed; `bad` are the asset lines it read that failed their tags twice (R167, R189).
DEDUCED, unsafe, log entry 33. -/
def Cell.dmaLand (c : Cell) (ch : Fin 8) (n : Nat) (bad : List Nat) : Cell :=
  let d := c.chan ch
  match d.moves.find? fun m => m.seq = n with
  | none => c
  | some m =>
    if m.landed then c
    else
      let srows := dmaRows m.src m.sstride m.rows
      let drows := dmaRows m.dst m.dstride m.rows
      let hitsSrc := 0x80000000 ≤ m.src
      let touched := bad.filter fun l => drows.any fun a => a / 64 ≤ l / 64 ∧ l / 64 ≤ (a + m.width - 1) / 64
      let c0 := if 0x80000000 ≤ m.dst then
          touched.foldl (fun c l => c.storeRow (l / 64 * 64) (List.replicate 64 0)) c else c
      let rows := (m.data.zip srows).map fun p => if hitsSrc then maskBad bad p.2 p.1 else p.1
      let c1 := (drows.zip rows).foldl (fun c p => c.storeRow p.1 p.2) c0
      let tagf := !bad.isEmpty && (decide hitsSrc || decide (0x80000000 ≤ m.dst))
      let moves := d.moves.map fun x => if x.seq = n then { x with landed := true, tagf := tagf } else x
      c1.setChan ch { c1.chan ch with moves := moves }

/-- The oldest move of the channel becomes visible at the line that starts next (R48, R167, R192, R110). -/
def Cell.dmaShow (c : Cell) (ch : Fin 8) (m : DmaMoveRec) : Cell :=
  let d := c.chan ch
  let c1 := c.setChan ch { d with moves := d.moves.filter fun x => x.seq ≠ m.seq }
  let c2 := c1.dropFence (.dma ch m.seq)
  let c3 := c2.setReg (chReg Reg.DMA_CHVIS ch) (c2.reg (chReg Reg.DMA_CHVIS ch) + 1)
  let c4 := match m.vevt with
    | some e => c3.orReg Reg.DMA_EVT (2 ^ e)
    | none => c3
  let c5 := if m.tagf then (c4.orReg Reg.DMA_TAGF (2 ^ ch.val)).diverge 0x04 c.beam.started else c4
  if 0x80000000 ≤ m.dst then
    c5.dirty.scanGuard ((dmaRows m.dst m.dstride m.rows).map fun a => (a, m.width)) c.beam.frame c.beam.started
  else c5

/-- DMA_MOVE_VISIBLE: the channel's oldest move, complete, at its due line (R192). -/
def Cell.dmaVisible (c : Cell) (ch : Fin 8) : Cell :=
  match (c.chan ch).moves with
  | m :: _ => if m.landed && c.dueNext m.due then c.dmaShow ch m else c
  | [] => c

/-- At cycle 0 of the line that starts next: moves due become visible in order of issue, and one that is due and not
complete is late (R192). -/
def Cell.dmaLine (c : Cell) (ch : Fin 8) : Cell :=
  let c1 := (c.chan ch).moves.foldl (fun c _ => c.dmaVisible ch) c
  let d := c1.chan ch
  let now := fun m : DmaMoveRec => decide (m.due = c1.nextAbs ∧ c1.beam.started < c1.vtotal ∧ m.landed = false)
  if d.moves.any now then
    let c2 := c1.setChan ch { d with moves := d.moves.map fun m => if now m then { m with late := true } else m }
    (d.moves.filter now).foldl (fun c _ => (c.diverge 0x01 c.beam.started).orReg Reg.DMA_STAT (2 ^ (24 + ch.val))) c2
  else c1

/-! ## Transfers of a parked session (R325) -/

/-- Does an issued transfer still have to land? -/
def Cell.unlanded (c : Cell) : Bool :=
  (c.blt.queue.any fun q => !q.landed) || (List.finRange 8).any fun n => (c.dma[n]).moves.any fun m => !m.landed

/-- A parked session keeps its storage; everything else that it reserves is released once every transfer has landed. -/
def Cell.releaseParked (c : Cell) : Cell :=
  if c.sess.state = .parked ∧ c.unlanded = false then
    { c with sess := { c.sess with reserve := ⟨0, c.sess.reserve.storage, 0, 0, []⟩ } }
  else c

end Sys2Proof.Machine
end

