-- ==== Sys2Proof/Machine/CellPicture.lean ====
section
/-! DEFINITION. What a native line shows: tile planes, affine P3, bitmap layers, sprites, the overlay and their
composition (04_tile_planes_and_bitmap_layers.md, 05_sprites_and_line_lists.md, 06_composition_signatures_scaler.md). -/

namespace Sys2Proof.Machine

/-- A layer's pixel before blending. -/
inductive Px where
  /-- Transparent. -/
  | none
  /-- The layer's underflow colour, with a PRIO (R82). -/
  | underflow (prio : Nat)
  /-- A palette entry, with a PRIO. -/
  | index (prio idx : Nat)
  /-- An ARGB8888 colour (R101). -/
  | colour (argb : Nat)
  deriving DecidableEq, Repr

/-- A word of VRAM as a layer reads it: fenced, beyond the end, or its value (R95, R96). -/
inductive VRead where
  | fenced | beyond | value (v : Nat)
  deriving DecidableEq, Repr

/-- Read `n` bytes of VRAM for a layer. -/
def Cell.vread (c : Cell) (off n : Nat) : VRead :=
  if 0xC0000 < off + n then .beyond
  else if c.fenced .vram off (off + n) then .fenced
  else .value (leNat (c.mem.vram.readBytes off n))

/-! ## Tile planes (R92 to R96) -/

/-- Map side in tiles from its code (R112). -/
def mapSide (code : Nat) : Nat := 32 * 2 ^ code

/-- The pixel of plane `p` at plane coordinates (px, py) (R92 to R95). -/
def Cell.tilePixel (c : Cell) (p px py : Nat) : Px :=
  let ctl := (c.reg (Reg.PLN_PCTL + 0x20 * p)).toNat
  let t := if bit ctl 1 then 16 else 8
  let bpp := if bit ctl 2 then 8 else 4
  let mw := mapSide (bits ctl 5 4)
  let map := (c.reg (Reg.PLN_PMAP + 0x20 * p)).toNat
  match c.vread (map + 4 * (py / t * mw + px / t)) 4 with
  | .beyond => .none
  | .fenced => .underflow 0
  | .value e =>
    let prio := bits e 31 31
    if bit e 28 then .none
    else
      let fx := if bit e 29 then t - 1 - px % t else px % t
      let fy := if bit e 30 then t - 1 - py % t else py % t
      let row := (c.reg (Reg.PLN_PPAT + 0x20 * p)).toNat + e % 65536 * (t * t * bpp / 8) + fy * (t * bpp / 8)
      match c.vread (row + (if bpp = 8 then fx else fx / 2)) 1 with
      | .beyond => .none
      | .fenced => .underflow prio
      | .value b =>
        let v := if bpp = 8 then b else if fx % 2 = 0 then b % 16 else b / 16
        if v = 0 ∧ bit ctl 9 = false then .none
        else .index prio (if bpp = 8 then bits e 23 20 * 256 + v else bits e 27 20 * 16 + v)

/-- Per-line scroll of plane `p` on line `n`: a pixel for the whole line, or (dx, dy) (R96). -/
def Cell.lineScroll (c : Cell) (p n : Nat) : Px ⊕ Int × Int :=
  if c.rbit (Reg.PLN_PCTL + 0x20 * p) 8 then
    match c.vread ((c.reg (Reg.PLN_PLST + 0x20 * p)).toNat + 4 * n) 4 with
    | .fenced => .inl (.underflow 0)
    | .beyond => .inl .none
    | .value w => .inr (signed 16 w, signed 16 (w / 65536))
  else .inr (0, 0)

/-- Plane width and height in pixels. -/
def Cell.planeSize (c : Cell) (p : Nat) : Nat × Nat :=
  let ctl := (c.reg (Reg.PLN_PCTL + 0x20 * p)).toNat
  let t := if bit ctl 1 then 16 else 8
  (mapSide (bits ctl 5 4) * t, mapSide (bits ctl 7 6) * t)

/-- Plane `p` in normal mode on line `n` (R92, R96). -/
def Cell.planeLine (c : Cell) (p n : Nat) : List Px :=
  match c.lineScroll p n with
  | .inl px => List.replicate c.hactive px
  | .inr (dx, dy) =>
    let scr := (c.reg (Reg.PLN_PSCR + 0x20 * p)).toNat
    let sz := c.planeSize p
    let py := (((n : Int) + (scr / 65536 : Nat) + dy) % (sz.2 : Int)).toNat
    (List.range c.hactive).map fun x : Nat =>
      c.tilePixel p (((x : Int) + (scr % 65536 : Nat) + dx) % (sz.1 : Int)).toNat py

/-! ## Affine P3 (R97, R98) -/

/-- Is P3 in affine mode? -/
def Cell.affineOn (c : Cell) : Bool := c.rbit Reg.PLN_P3CTL 11

/-- The working values for active line `n`, and the pixel of the whole line when its table entry cannot be read. -/
def Cell.affineStep (c : Cell) (n : Nat) : Affine × Option Px :=
  let w := c.pic.affine
  if c.rbit Reg.PLN_AFFT 31 then
    let off := c.fld Reg.PLN_AFFT 19 4 * 16 + 16 * n
    match c.vread off 16 with
    | .fenced => (w, some (.underflow 0))
    | .beyond => (w, some .none)
    | .value _ =>
      let g := fun i => c.mem.vram.read32 (off + 4 * i)
      ({ w with a := g 0, c := g 1, xr := g 2, yr := g 3 }, none)
  else
    let xr := if n = 0 ∨ w.xWritten then c.reg Reg.PLN_AFFX else w.xr + w.bUsed
    let yr := if n = 0 ∨ w.yWritten then c.reg Reg.PLN_AFFY else w.yr + w.dUsed
    ({ w with a := c.reg Reg.PLN_AFFA, c := c.reg Reg.PLN_AFFC, xr := xr, yr := yr, bUsed := c.reg Reg.PLN_AFFB,
              dUsed := c.reg Reg.PLN_AFFD }, none)

/-- Affine plane coordinates of pixel `x` before masking: tu, tv. -/
def Affine.coord (w : Affine) (x : Nat) : Int × Int :=
  ((w.xr.toInt + w.a.toInt * x) / 65536, (w.yr.toInt + w.c.toInt * x) / 65536)

/-- P3 in affine mode on a line, with the line's working values (R97). -/
def Cell.affineLine (c : Cell) (w : Affine) : List Px :=
  let sz := c.planeSize 3
  let wrap := c.rbit Reg.PLN_P3CTL 10
  (List.range c.hactive).map fun x =>
    let t := w.coord x
    if !wrap && decide (t.1 < 0 ∨ (sz.1 : Int) ≤ t.1 ∨ t.2 < 0 ∨ (sz.2 : Int) ≤ t.2) then .none
    else c.tilePixel 3 (t.1 % (sz.1 : Int)).toNat (t.2 % (sz.2 : Int)).toNat

/-! ## Sprites (R113 to R123) -/

/-- A sprite-table entry (R114). -/
structure SprEntry where
  x : Int
  y : Int
  w : Nat
  h : Nat
  vflip : Bool
  hflip : Bool
  prio  : Nat
  bpp8  : Bool
  hide  : Bool
  pal   : Nat
  pat   : Nat
  deriving DecidableEq, Repr

/-- The entry that two words spell; an entry at or beyond the end of VRAM is hidden (R114, R123). -/
def Cell.sprEntry (c : Cell) (i : Nat) : SprEntry :=
  let off := (c.reg Reg.SPR_TAB).toNat + 8 * i
  let w0 := (c.mem.vram.read32 off).toNat
  let w1 := (c.mem.vram.read32 (off + 4)).toNat
  { x := signed 12 w0, y := signed 12 (w0 / 2 ^ 20), w := (bits w0 19 16 + 1) * 8, h := (bits w0 15 12 + 1) * 8
    vflip := bit w1 31, hflip := bit w1 30, prio := bits w1 29 28, bpp8 := bit w1 27
    hide := bit w1 26 || decide (0xC0000 ≤ off), pal := bits w1 23 16, pat := bits w1 14 0 * 32 }

/-- Is the entry on line `n` (R115)? -/
def SprEntry.on (e : SprEntry) (n : Nat) : Bool := !e.hide && decide (e.y ≤ n ∧ (n : Int) < e.y + e.h)

/-- Drawn span: first screen pixel and number of pixels (R115). -/
def SprEntry.span (e : SprEntry) (hactive : Nat) : Nat × Nat :=
  let lo := if e.x < 0 then 0 else e.x
  let hi := if e.x + e.w < hactive then e.x + e.w else hactive
  (lo.toNat, (hi - lo).toNat)

/-- The sprite's pixel at screen pixel `x` of line `n` (R115, R123): none where transparent. -/
def Cell.spritePixel (c : Cell) (i : Nat) (e : SprEntry) (n x : Nat) : Option SprPx :=
  let r0 := ((n : Int) - e.y).toNat
  let c0 := ((x : Int) - e.x).toNat
  let r := if e.vflip then e.h - 1 - r0 else r0
  let col := if e.hflip then e.w - 1 - c0 else c0
  let row := e.pat + r * (e.w * (if e.bpp8 then 8 else 4) / 8)
  match c.vread (row + (if e.bpp8 then col else col / 2)) 1 with
  | .beyond => none
  | .fenced => some ⟨e.prio, none, i⟩
  | .value b =>
    let v := if e.bpp8 then b else if col % 2 = 0 then b % 16 else b / 16
    if v = 0 then none
    else some ⟨e.prio, some (if e.bpp8 then e.pal % 16 * 256 + v else e.pal * 16 + v), i⟩

/-- The evaluation in progress: counts, overflow, selected entries with their drawn spans. -/
structure SprScan where
  sprites : Nat
  pixels  : Nat
  ovf     : Option (Nat × Nat)
  sel     : List (Nat × SprEntry × Nat × Nat)
  deriving DecidableEq, Repr

/-- Take entry `i` under the limits (R121). -/
def Cell.sprTake (c : Cell) (n : Nat) (s : SprScan) (i : Nat) : SprScan :=
  if s.ovf.isSome then s
  else
    let e := c.sprEntry i
    if !(e.on n) then s
    else
      let sp := e.span c.hactive
      let smax := c.fld Reg.SPR_CAPS 23 16
      let pmax := c.fld Reg.SPR_CAPS 12 0
      if smax < s.sprites + 1 then { s with ovf := some (0, i) }
      else if pmax < s.pixels + sp.2 then
        ⟨s.sprites + 1, pmax, some (1, i), s.sel ++ [(i, e, sp.1, pmax - s.pixels)]⟩
      else ⟨s.sprites + 1, s.pixels + sp.2, none, s.sel ++ [(i, e, sp.1, sp.2)]⟩

/-- Evaluate the sprite layer of line `n` with everything as it stands now (R117, R121, R123). -/
def Cell.sprEval (c : Cell) (n : Nat) : SprLine :=
  let count := if c.rbit Reg.SPR_CTL 0 then c.fld Reg.SPR_CTL 25 16 else 0
  let tab := (c.reg Reg.SPR_TAB).toNat
  let fencedEntry := (List.range count).any fun i => c.vread (tab + 8 * i) 8 == .fenced
  if fencedEntry then ⟨n, List.replicate c.hactive (some ⟨0, none, 0⟩), ⟨0, 0, none, true, false⟩, []⟩
  else
    let s := (List.range count).foldl (c.sprTake n) ⟨0, 0, none, []⟩
    let draws := s.sel.map fun q => (q.1, q.2.1, q.2.2.1, q.2.2.2)
    let px := (List.range c.hactive).map fun x =>
      draws.findSome? fun q => if q.2.2.1 ≤ x ∧ x < q.2.2.1 + q.2.2.2 then c.spritePixel q.1 q.2.1 n x else none
    let patuf := draws.any fun q => (List.range q.2.2.2).any fun k => match c.spritePixel q.1 q.2.1 n (q.2.2.1 + k) with
      | some p => p.idx.isNone
      | none => false
    ⟨n, px, ⟨s.sprites, s.pixels, s.ovf, false, patuf⟩, s.sel.map fun q => (q.1, q.2.1.x, q.2.1.y)⟩

/-- SPR_STAT, SPR_OVF and SPR_LAST at cycle 0 of the line shown (R119, R122, R123). -/
def Cell.sprShow (c : Cell) (n : Nat) (r : SprResult) : Cell :=
  let st := c.reg Reg.SPR_STAT
  let c1 := match r.ovf with
    | some (kind, e) =>
      let c0 := if bits st.toNat 1 0 = 0 then
          (c.setReg Reg.SPR_OVF (BitVec.ofNat 32 (n * 2 ^ 20 + kind * 1024 + e))).setReg Reg.SPR_OVFFRAME
            (BitVec.ofNat 32 c.beam.frame)
        else c
      c0.orReg Reg.SPR_STAT (if kind = 0 then 1 else 2)
    | none => c
  (c1.orReg Reg.SPR_STAT (b2n r.tabuf * 4 + b2n r.patuf * 8)).setReg Reg.SPR_LAST
    (BitVec.ofNat 32 (r.sprites * 65536 + r.pixels))

/-! ## Bitmap layers and overlay from their fetched lines (R100, R101, R108, R141) -/

/-- Convert a stored pixel to ARGB8888 (R101); `none` for an index. -/
def toArgb (fmt v : Nat) : Nat :=
  if fmt = 1 then
    let r := bits v 15 11
    let g := bits v 10 5
    let b := bits v 4 0
    0xFF000000 + (r * 8 + r / 4) * 65536 + (g * 4 + g / 16) * 256 + (b * 8 + b / 4)
  else if fmt = 2 then
    bits v 15 12 * 17 * 2 ^ 24 + bits v 11 8 * 17 * 65536 + bits v 7 4 * 17 * 256 + bits v 3 0 * 17
  else v

/-- The span of bytes that a layer needs for line `n`: first byte and length, or none (R104). -/
def BitmapSet.span (b : BitmapSet) (hactive n : Nat) : Option (Nat × Nat) :=
  let row := (n : Int) - b.ypos
  let lo := if b.xpos < 0 then -b.xpos else 0
  let hi := if (b.bw : Int) < hactive - b.xpos then (b.bw : Int) else hactive - b.xpos
  if b.en ∧ 0 ≤ row ∧ row < b.bh ∧ lo < hi then
    some (b.addr + row.toNat * b.stride + lo.toNat * bytesPerPixel b.fmt, (hi - lo).toNat * bytesPerPixel b.fmt)
  else none

/-- How a pixel's 64-byte line came: here, late, failed its tag, unread. -/
inductive LineFate where
  | here | late | failed | unread
  deriving DecidableEq, Repr

def FetchLine.fate (f : FetchLine) (a : Nat) : LineFate :=
  let l := a / 64 * 64
  if f.unread.contains l then .unread
  else if !f.arrived || f.retry.contains l then .late
  else if f.failed.contains l then .failed else .here

/-- The address of the pixel at column `x` of line `n`, when it lies inside the buffer (R100). -/
def BitmapSet.pixelAddr (b : BitmapSet) (n x : Nat) : Option Nat :=
  let bx := (x : Int) - b.xpos
  let row := (n : Int) - b.ypos
  if 0 ≤ bx ∧ bx < b.bw ∧ 0 ≤ row ∧ row < b.bh then
    some (b.addr + row.toNat * b.stride + bx.toNat * bytesPerPixel b.fmt)
  else none

/-- The record of a layer's fetch for a line. -/
def Cell.fetched (c : Cell) (l : FetchLayer) (frame line : Nat) : Option FetchLine :=
  c.pic.fetch.find? fun f => f.layer = l ∧ f.frame = frame ∧ f.line = line

/-- One pixel of a fetched layer (R81, R101, R108, R141, R165). -/
def BitmapSet.pixel (b : BitmapSet) (f : Option FetchLine) (ov : Bool) (n x : Nat) : Px × LineFate :=
  match b.pixelAddr n x with
  | none => (.none, .here)
  | some a =>
    match f with
    | none => (.underflow 0, .late)
    | some f =>
      match f.fate a with
      | .here =>
        let v := leNat (slice f.data (a - f.base) (bytesPerPixel b.fmt))
        if ov then
          let argb := toArgb b.fmt v
          ((if argb / 2 ^ 24 = 0 then Px.none else .colour argb), .here)
        else if b.fmt = 0 then
          ((if v = 0 ∧ b.opq0 = false then Px.none else .index 0 (b.pal * 256 + v)), .here)
        else (.colour (toArgb b.fmt v), .here)
      | k => (.underflow 0, k)

/-- A fetched layer on line `n`. -/
def Cell.fetchedLine (c : Cell) (l : FetchLayer) (b : BitmapSet) (n : Nat) : List (Px × LineFate) :=
  let f := c.fetched l c.beam.frame n
  (List.range c.hactive).map fun x => if b.en then b.pixel f (l == .ov) n x else (.none, .here)

/-- The active settings of bitmap layer k, disabled when they failed R105. -/
def Cell.activeBitmap (c : Cell) (k : Nat) : BitmapSet :=
  let b := bitmapSet c.pic.activeRegs k
  { b with en := b.en && !(pairAt c.pic.activeFail k) }

/-- The settings that the next frame's fetches use (R102). -/
def Cell.nextBitmap (c : Cell) (k : Nat) : BitmapSet :=
  if c.pic.staged then
    let b := bitmapSet c.pic.stagedRegs k
    { b with en := b.en && !(pairAt c.pic.stagedFail k) }
  else c.activeBitmap k

/-- An overlay set as a fetch uses it: addresses are offsets in the overlay store's buffer (R141, R142). -/
def OvSet.bitmap (o : OvSet) : BitmapSet :=
  let fmt := if o.fmt = 0 then 2 else 3
  { en := o.en, fmt := fmt, opq0 := false, pal := 0, addr := 0, stride := o.w * bytesPerPixel fmt, bw := o.w, bh := o.h
    xpos := o.x, ypos := o.y, alpha := o.alpha }

/-! ## Composition (R135 to R139) -/

def div255 (x : Nat) : Nat := (x + 128 + (x + 128) / 256) / 256

/-- Blend one component (R138). -/
def blendComponent (mode a cs cd : Nat) : Nat :=
  if mode = 0 then cs
  else if mode = 1 then div255 (cs * a + cd * (255 - a))
  else if mode = 2 then Nat.min 255 (cd + div255 (cs * a))
  else if mode = 3 then cd - div255 (cs * a)
  else div255 (div255 (cd * cs) * a + cd * (255 - a))

/-- Apply an ARGB layer pixel over an opaque RGB colour (R138). -/
def blend (mode la argb rgb : Nat) : Nat :=
  let a := div255 (argb / 2 ^ 24 * la)
  let f := fun sh => blendComponent mode a (argb / sh % 256) (rgb / sh % 256) * sh
  f 65536 + f 256 + f 1

/-- The level of a layer in the stack in force (R136, R137): 0 to 3 planes, 4 and 5 bitmaps, 6 sprites. -/
def Cell.layerLevel (c : Cell) (l : Nat) : Nat :=
  if (c.act Reg.CMP_CTL).getLsbD 0 then bits (c.act Reg.CMP_STACK).toNat (4 * l + 2) (4 * l)
  else if l < 4 then l else 0

/-- A tenant-layer pixel ready to blend: its place in the order, its layer, colour, owner code, underflow. -/
structure LayerPx where
  order : Nat
  layer : Nat
  argb  : Nat
  owner : Nat
  uf    : Bool
  deriving DecidableEq, Repr

/-- The place of a tenant-layer pixel in the order of application (R136): the sort key, then the rule for equal keys. -/
def Cell.pixelOrder (c : Cell) (l prio : Nat) : Nat :=
  let lv := c.layerLevel l
  if l < 4 then (4 * lv + (if prio = 0 then 1 else 3)) * 8 + (3 - l)
  else if l < 6 then 4 * lv * 8 + (5 - l)
  else (4 * (lv + prio) + 2) * 8

def Cell.paletteArgb (c : Cell) (i : Nat) : Nat := (Sparse.get (fun _ => (0 : Word)) c.pic.palette i).toNat

/-- The underflow colour of layer l (R82). -/
def Cell.ufColour (c : Cell) (l : Nat) : Nat := (c.act (Reg.RST_UFCOL + 4 * l)).toNat

/-- Turn a pixel of layer `l` into its place in the composition. -/
def Cell.layerPx (c : Cell) (l owner : Nat) : Px → Option LayerPx
  | .none => none
  | .underflow prio => some ⟨c.pixelOrder l prio, l, c.ufColour l, 0, true⟩
  | .index prio i => some ⟨c.pixelOrder l prio, l, c.paletteArgb i, owner, false⟩
  | .colour argb => some ⟨c.pixelOrder l 0, l, argb, owner, false⟩

/-- Insert by ascending order. -/
def insertPx (p : LayerPx) : List LayerPx → List LayerPx
  | [] => [p]
  | q :: r => if p.order ≤ q.order then p :: q :: r else q :: insertPx p r

/-- Compose one pixel from its tenant-layer pixels and its overlay pixel (R135): its colour and its owner (R247). -/
def Cell.composePixel (c : Cell) (layers : List LayerPx) (ov : Px) : Nat × Nat :=
  let sorted := layers.foldr insertPx []
  let base := (c.reg Reg.CMP_BACKDROP).toNat % 2 ^ 24
  let rgb := sorted.foldl (fun d p =>
    let bl := (c.reg (Reg.CMP_BLEND + 4 * p.layer)).toNat
    blend (bits bl 2 0) (bits bl 15 8) p.argb d) base
  let owner := match sorted.getLast? with
    | some p => p.owner
    | none => 0
  match ov with
  | .none => (rgb, owner)
  | .colour argb => (blend 1 c.pic.overlay.active.alpha argb rgb, 0)
  | _ => (blend 1 c.pic.overlay.active.alpha (c.ufColour 7) rgb, 0)

/-- Everything one composed line yields. -/
structure ComposedLine where
  pixels : List Nat
  hint   : HintLine
  affine : Affine
  uf     : Bool
  /-- For B0, B1 and OV: was some pixel late; the 64-byte lines that failed and are shown. -/
  late   : List Bool
  failed : List Nat
  deriving DecidableEq, Repr

/-- What plane `p` contributes to the hints of its line (R247). -/
def Cell.planeSnap (c : Cell) (p n : Nat) (w : Affine) : PlaneSnap :=
  let ctl := (c.reg (Reg.PLN_PCTL + 0x20 * p)).toNat
  let d := match c.lineScroll p n with
    | .inr d => d
    | .inl _ => (0, 0)
  let scr := (c.reg (Reg.PLN_PSCR + 0x20 * p)).toNat
  let aff := p == 3 && c.affineOn
  ⟨bit ctl 0, aff, bits ctl 7 1, (scr % 65536 : Nat) + d.1, (scr / 65536 : Nat) + d.2, w.a, w.c, w.xr, w.yr⟩

/-- Number of distinct 64-byte lines of a layer that failed and hold a shown pixel (R108). -/
def Cell.failedShown (c : Cell) (l : FetchLayer) (b : BitmapSet) (n : Nat) : Nat :=
  match c.fetched l c.beam.frame n with
  | none => 0
  | some f => (f.failed.filter fun a => (List.range c.hactive).any fun x => match b.pixelAddr n x with
      | some q => b.en && q / 64 * 64 == a && f.arrived
      | none => false).length

/-- Compose active line `n` (R90, R135). -/
def Cell.composeLine (c : Cell) (n : Nat) : ComposedLine :=
  let aff := if c.affineOn then c.affineStep n else (c.pic.affine, none)
  let plane := fun p : Nat =>
    if !(c.rbit (Reg.PLN_PCTL + 0x20 * p) 0) then List.replicate c.hactive Px.none
    else if p = 3 ∧ c.affineOn then
      match aff.2 with
      | some px => List.replicate c.hactive px
      | none => c.affineLine aff.1
    else c.planeLine p n
  let planes := (List.range 4).map plane
  let b0 := c.activeBitmap 0
  let b1 := c.activeBitmap 1
  let ovs := c.pic.overlay.active.bitmap
  let l0 := c.fetchedLine .b0 b0 n
  let l1 := c.fetchedLine .b1 b1 n
  let lo := c.fetchedLine .ov ovs n
  let spr := match c.pic.spr with
    | some s => if s.line = n then s.px else []
    | none => []
  let px := (List.range c.hactive).map fun x =>
    let ls := (List.range 4).filterMap fun p => c.layerPx p (p + 1) ((planes.getD p []).getD x .none)
    let q0 := (l0.getD x (.none, .here)).1
    let q1 := (l1.getD x (.none, .here)).1
    let qs := match spr.getD x none with
      | none => none
      | some s => match s.idx with
        | none => c.layerPx 6 0 (.underflow s.prio)
        | some i => c.layerPx 6 (7 + s.entry) (.index s.prio i)
    let all := ls ++ (c.layerPx 4 5 q0).toList ++ (c.layerPx 5 6 q1).toList ++ qs.toList
    let ov := (lo.getD x (.none, .here)).1
    (c.composePixel all ov, all.any LayerPx.uf || (match ov with
      | .underflow _ => true
      | _ => false))
  let isLate := fun l : List (Px × LineFate) => l.any fun q => q.2 == .late
  let hint : HintLine :=
    ⟨px.map fun q => q.1.2, (List.range 4).map fun p => c.planeSnap p n aff.1,
      [(b0.en, b0.fmt, b0.xpos, b0.ypos), (b1.en, b1.fmt, b1.xpos, b1.ypos)],
      match c.pic.spr with
      | some s => if s.line = n then s.sel else []
      | none => []⟩
  ⟨px.map fun q => q.1.1, hint, aff.1, px.any fun q => q.2, [isLate l0, isLate l1, isLate lo],
    [c.failedShown .b0 b0 n, c.failedShown .b1 b1 n, c.failedShown .ov ovs n]⟩

/-! ## Signatures (R145 to R150) -/

/-- Red, green and blue bytes of a pixel. -/
def rgbBytes (p : Nat) : Bytes := [BitVec.ofNat 8 (p / 65536), BitVec.ofNat 8 (p / 256), BitVec.ofNat 8 p]

/-- CRC-32C of a region of a picture given as lines (R145, R146); 0 when it covers no pixel. -/
def regionCrc (lines : List (List Nat)) (x0 y0 w h : Nat) : Word :=
  let bs := (slice lines y0 h).flatMap fun l => (slice l x0 w).flatMap rgbBytes
  if bs.isEmpty then 0 else crc32c bs

/-! ## Scaler and colour conversion (R151 to R158) -/

/-- Default coefficient pairs: 256 at tap 3 of every horizontal and tap 2 of every vertical phase (R155); key
TABLE × 256 + PHASE × 4 + PAIR. -/
def coefDefault (k : Nat) : Word := if k < 256 then (if k % 4 = 1 then 0x01000000 else 0) else if k % 4 = 1 then 256 else 0

/-- A coefficient of the active table. -/
def Cell.coef (c : Cell) (table phase tap : Nat) : Int :=
  let w := (Sparse.get coefDefault c.pic.coefActive (table * 256 + phase * 4 + tap / 2)).toNat
  signed 10 (if tap % 2 = 0 then bits w 9 0 else bits w 25 16)

/-- Source position of output index `i` (R153): ip and phase. -/
def scalePos (step i : Nat) : Int × Nat :=
  let pos : Int := (i * step + step / 2 : Nat) - 32768
  let ip := pos / 65536
  let ph := ((pos % 65536).toNat + 512) / 1024
  if ph = 64 then (ip + 1, 0) else (ip, ph)

/-- Clamp an index into 0..n − 1. -/
def clampIdx (n : Nat) (i : Int) : Nat := if i < 0 then 0 else Nat.min i.toNat (n - 1)

/-- One filter pass over samples 0 to 255 (R154). -/
def filterTap (cs : List Int) (ss : List Nat) : Nat :=
  (clampInt 0 255 (((cs.zip ss).foldl (fun a p => a + p.1 * (p.2 : Int)) (0 : Int) + 128) / 256)).toNat

/-- A filter pass over RGB pixels, component by component. -/
def filterRgb (cs : List Int) (ps : List Nat) : Nat :=
  let f := fun sh => filterTap cs (ps.map fun p => p / sh % 256) * sh
  f 65536 + f 256 + f 1

def Cell.ow (c : Cell) : Nat := c.fld Reg.SCL_OUT 11 0
def Cell.oh (c : Cell) : Nat := c.fld Reg.SCL_OUT 27 16
def Cell.polyphase (c : Cell) : Bool := c.rbit Reg.SCL_CFG 0

/-- A native line filtered into OW intermediate samples (R154). -/
def Cell.hscale (c : Cell) (line : List Nat) : List Nat :=
  (List.range c.ow).map fun i =>
    let p := scalePos (c.reg Reg.SCL_HSTEP).toNat i
    filterRgb ((List.range 8).map fun k => c.coef 0 p.2 k)
      ((List.range 8).map fun k : Nat => line.getD (clampIdx c.hactive (p.1 - 3 + k)) 0)

/-- Output line `o` of a picture (R152, R154). -/
def Cell.outLine (c : Cell) (lines : List (List Nat)) (o : Nat) : List Nat :=
  if c.polyphase then
    let p := scalePos (c.reg Reg.SCL_VSTEP).toNat o
    let rows := (List.range 6).map fun k : Nat => c.hscale (lines.getD (clampIdx c.vactive (p.1 - 2 + k)) [])
    (List.range c.ow).map fun i => filterRgb ((List.range 6).map fun k => c.coef 1 p.2 k) (rows.map fun r => r.getD i 0)
  else
    let src := lines.getD (o / c.fld Reg.SCL_CFG 11 8) []
    (List.range c.ow).map fun i => src.getD (i / c.fld Reg.SCL_CFG 7 4) 0

/-- The last native line that output line `o` needs (R156). -/
def Cell.lastNative (c : Cell) (o : Nat) : Nat :=
  if c.polyphase then clampIdx c.vactive ((scalePos (c.reg Reg.SCL_VSTEP).toNat o).1 + 3) else o / c.fld Reg.SCL_CFG 11 8

/-- CRC-32C of the scaler output of a picture (R150). -/
def Cell.outCrc (c : Cell) (lines : List (List Nat)) : Word :=
  crc32c ((List.range c.oh).flatMap fun o => (c.outLine lines o).flatMap rgbBytes)

/-- Luma and the chroma terms of an output pixel (R157). -/
def lumaChroma (full : Bool) (p : Nat) : Int × Int × Int :=
  let r : Int := (p / 65536 % 256 : Nat)
  let g : Int := (p / 256 % 256 : Nat)
  let b : Int := (p % 256 : Nat)
  if full then ((54 * r + 183 * g + 19 * b + 128) / 256, -29 * r - 99 * g + 128 * b, 128 * r - 116 * g - 12 * b)
  else ((47 * r + 157 * g + 16 * b + 128) / 256 + 16, -26 * r - 86 * g + 112 * b, 112 * r - 102 * g - 10 * b)

/-- Chroma of a 2 × 2 block from its four terms (R158). -/
def chroma (s : Int) : Nat := (clampInt 0 255 ((s + 512) / 1024 + 128)).toNat

/-- The Y, then Cb, then Cr samples of coded lines lo..lo + 15, padding repeated (R157, R158, R238). -/
def Cell.stripeSamples (c : Cell) (lines : List (List Nat)) (lo : Nat) : Bytes :=
  let full := c.rbit Reg.SCL_CCTL 0
  let cw := (c.ow + 15) / 16 * 16
  let row := fun o => c.outLine lines (Nat.min o (c.oh - 1))
  let rows := (List.range 16).map fun k => row (lo + k)
  let at' := fun (r : List Nat) (x : Nat) => lumaChroma full (r.getD (Nat.min x (c.ow - 1)) 0)
  let ys := rows.flatMap fun r => (List.range cw).map fun x => BitVec.ofNat 8 (clampInt 0 255 (at' r x).1).toNat
  let plane := fun sel : Int × Int × Int → Int => (List.range 8).flatMap fun j => (List.range (cw / 2)).map fun i =>
    let o := Nat.min (lo + 2 * j) (c.oh - 2)
    let r0 := c.outLine lines o
    let r1 := c.outLine lines (o + 1)
    let x := Nat.min (2 * i) (c.ow - 2)
    BitVec.ofNat 8 (chroma (sel (at' r0 x) + sel (at' r0 (x + 1)) + sel (at' r1 x) + sel (at' r1 (x + 1))))
  ys ++ plane (fun t => t.2.1) ++ plane (fun t => t.2.2)

end Sys2Proof.Machine
end

