-- ==== Sys2Proof/Machine/CellEnc.lean ====
section
/-! DEFINITION. The stripe encoder of a cell (10_stripe_encoder.md): pictures, rate control, motion hints, IDR stamps and the
native line code. -/

namespace Sys2Proof.Machine

def Cell.nlc (c : Cell) : Bool := c.enc.cfg.codec == 2

/-- Lines of the coded picture; the native lines for NLC (R238, R264). -/
def Cell.codedLines (c : Cell) : Nat := if c.nlc then c.vactive else c.enc.cfg.ch

/-- Stripes of a picture (R238, R264). -/
def Cell.stripes (c : Cell) : Nat := (c.codedLines + 15) / 16

/-- The line at whose cycle 0 stripe `k` is complete (R239, R156, R264). -/
def Cell.stripeLine (c : Cell) (k : Nat) : Nat :=
  if c.nlc then Nat.min (16 * k + 16) c.vactive else c.lastNative (Nat.min (16 * k + 15) (c.oh - 1)) + 1

/-- Blocks of stripe `k` and of a picture (R256). -/
def Cell.stripeBlocks (c : Cell) : Nat := c.enc.cfg.cw / 16
def Cell.pictureBlocks (c : Cell) : Nat := c.stripeBlocks * c.stripes

/-! ## IDR stamps and refresh cycles (R253 to R255) -/

/-- Place a request for frame `x` (R254). -/
def Cell.stampIdr (c : Cell) (x : Nat) : Cell :=
  let l := c.enc.lastIdr
  if x ≤ l then c
  else
    let y := if x < l + c.enc.cfg.idrmin then l + c.enc.cfg.idrmin else x
    { c with enc := { c.enc with lastIdr := y, stamps := c.enc.stamps ++ [y] } }

/-- An IDR request stamped at least 2 frames ahead (R253). -/
def Cell.requestIdr (c : Cell) : Cell := c.stampIdr (c.beam.frame + 2)

/-- Frames of a refresh cycle, NC (R255). -/
def EncCfg.cycle (e : EncCfg) : Nat := if e.cols = 0 then 0 else (e.cw / 16 + e.cols - 1) / e.cols

/-- The frame of its refresh cycle in which `j` frames since the last IDR falls (R255). -/
def EncCfg.refresh (e : EncCfg) (j : Nat) : Option Nat :=
  if e.cols ≠ 0 ∧ 0 < j ∧ e.rper ≤ j ∧ e.rper ≠ 0 ∧ j % e.rper < e.cycle then some (j % e.rper) else none

/-- Does the encoder ask for the source pixels of the frame that begins (R84, R254, R255)? -/
def Cell.encoderAsks (c : Cell) (frame : Nat) : Bool :=
  c.enc.stamps.contains frame || (c.enc.cfg.codec != 2 && (c.enc.cfg.refresh (c.enc.sinceIdr + 1)).isSome)

/-! ## Rate control (R250, R256, R257) -/

def e6 (k : Nat) : Nat := [256, 287, 323, 362, 406, 456].getD k 256

/-- est(k, q) of R256. -/
def rateEst (pqp pbits q : Nat) : Nat :=
  if q ≤ pqp then pbits * e6 ((pqp - q) % 6) * 2 ^ ((pqp - q) / 6) / 256
  else pbits * 256 / e6 ((q - pqp) % 6) / 2 ^ ((q - pqp) / 6)

/-- Numerator and denominator of the frame period in seconds (R256). -/
def framePeriod (family : Nat) : Nat × Nat := if family = 0 then (1, 60) else if family = 1 then (1001, 60000) else (1, 50)

/-- The grant of a frame boundary (R256). -/
def Cell.rateGrant (c : Cell) : Cell :=
  let p := framePeriod c.family
  let t := c.enc.cfg.rate * p.1 + c.enc.racc
  let grant := t / p.2
  let credit := c.enc.credit + grant
  let top : Int := (c.enc.cfg.rate / 8 : Nat)
  { c with enc := { c.enc with grant := grant, racc := t % p.2, credit := if credit < top then credit else top } }

/-- Bit target of stripe `k` (R256). -/
def Cell.target (c : Cell) (k : Nat) : Nat :=
  let each := c.enc.grant * c.stripeBlocks / c.pictureBlocks
  if k + 1 < c.stripes then each else c.enc.grant - each * (c.stripes - 1)

/-- Division truncating toward zero. -/
def tdiv (a : Int) (b : Nat) : Int := if 0 ≤ a then a / (b : Int) else -((-a) / (b : Int))

/-- QP of stripe `k` of an active picture (R256). -/
def Cell.stripeQp (c : Cell) (k : Nat) : Nat :=
  let tgt := c.target k
  let rest := ((List.range c.stripes).drop k).foldl (fun a i => a + c.target i) 0
  let s := c.enc.credit - (rest : Int)
  let a : Int := (tgt : Int) + tdiv (s * (c.stripeBlocks : Int)) (2 * c.pictureBlocks)
  let allowed : Int := if a < (tgt / 4 : Nat) then (tgt / 4 : Nat) else a
  let pqp := c.enc.pqp.getD k 0
  let lo := Nat.max c.enc.cfg.qpmin (pqp - 4)
  let hi := Nat.min c.enc.cfg.qpmax (pqp + 4)
  match ((List.range (hi + 1)).drop lo).find? fun q => decide ((rateEst pqp (c.enc.pbits.getD k 0) q : Int) ≤ allowed) with
  | some q => q
  | none => hi

/-- The QP of an IDR picture (R257). -/
def Cell.idrQp (c : Cell) : Nat :=
  if c.enc.pqp.isEmpty then
    let bpb := c.enc.grant / c.pictureBlocks
    if 256 ≤ bpb then 22 else if 128 ≤ bpb then 26 else if 64 ≤ bpb then 30 else if 32 ≤ bpb then 34
    else if 16 ≤ bpb then 38 else 42
  else Nat.min c.enc.cfg.qpmax ((c.enc.pqp.sum + c.stripes / 2) / c.stripes + 4)

/-! ## Motion hints and changed tiles (R247, R248) -/

/-- The native pixel of an output sample (R247, step 1). -/
def Cell.nativeOf (c : Cell) (i o : Nat) : Nat × Nat :=
  if c.polyphase then
    let h := scalePos (c.reg Reg.SCL_HSTEP).toNat i
    let v := scalePos (c.reg Reg.SCL_VSTEP).toNat o
    (clampIdx c.hactive (h.1 + (h.2 / 32 : Nat)), clampIdx c.vactive (v.1 + (v.2 / 32 : Nat)))
  else (i / c.fld Reg.SCL_CFG 7 4, o / c.fld Reg.SCL_CFG 11 8)

/-- Reduce into −m/2..m/2 − 1. -/
def centred (m v : Int) : Int := (v + m / 2) % m - m / 2

/-- The native hint of pixel (x, n) from its line now and in the last composed frame (R247, steps 2 to 4). -/
def Cell.nativeHint (c : Cell) (x : Nat) (cur prev : HintLine) : Int × Int :=
  let o := cur.owner.getD x 0
  if o = 0 then (0, 0)
  else if o < 5 then
    let z : PlaneSnap := ⟨false, false, 0, 0, 0, 0, 0, 0, 0⟩
    let a := cur.planes.getD (o - 1) z
    let b := prev.planes.getD (o - 1) z
    if a.en ≠ b.en ∨ a.aff ≠ b.aff ∨ a.fmt ≠ b.fmt then (0, 0)
    else if a.aff then
      let p := (⟨a.a, a.c, a.xr, a.yr, 0, 0, false, false⟩ : Affine).coord x
      let q := (⟨b.a, b.c, b.xr, b.yr, 0, 0, false, false⟩ : Affine).coord x
      (p.1 - q.1, p.2 - q.2)
    else
      let sz := c.planeSize (o - 1)
      (centred sz.1 (a.offx - b.offx), centred sz.2 (a.offy - b.offy))
  else if o < 7 then
    let a := cur.bitmap.getD (o - 5) (false, 0, 0, 0)
    let b := prev.bitmap.getD (o - 5) (false, 0, 0, 0)
    if a.1 ≠ b.1 ∨ a.2.1 ≠ b.2.1 then (0, 0) else (b.2.2.1 - a.2.2.1, b.2.2.2 - a.2.2.2)
  else
    match cur.spr.find? (fun e => e.1 = o - 7), prev.spr.find? (fun e => e.1 = o - 7) with
    | some a, some b => (b.2.1 - a.2.1, b.2.2 - a.2.2)
    | _, _ => (0, 0)

/-- v × 65536 / step to the nearest integer, halves away from zero. -/
def scaleHint (v : Int) (step : Nat) : Int :=
  let a := v.natAbs * 65536 * 2 + step
  let q : Int := (a / (2 * step) : Nat)
  if v < 0 then -q else q

/-- The hint of block (bx, by) in output pixels (R247). -/
def Cell.blockHint (c : Cell) (bx byy : Nat) : Int × Int :=
  let p := c.nativeOf (Nat.min (16 * bx + 8) (c.ow - 1)) (Nat.min (16 * byy + 8) (c.oh - 1))
  match c.enc.hints[p.2]?, c.enc.hintsPrev[p.2]? with
  | some cur, some prev =>
    let h := c.nativeHint p.1 cur prev
    let s := if c.polyphase then (scaleHint h.1 (c.reg Reg.SCL_HSTEP).toNat, scaleHint h.2 (c.reg Reg.SCL_VSTEP).toNat)
      else (h.1 * (c.fld Reg.SCL_CFG 7 4 : Nat), h.2 * (c.fld Reg.SCL_CFG 11 8 : Nat))
    (clampInt (-2048) 2047 s.1, clampInt (-512) 511 s.2)
  | _, _ => (0, 0)

/-- CRC-32C of the 8 × 8 tile (tx, ty) of a picture (R248). -/
def tileCrc (lines : List (List Nat)) (tx ty : Nat) : Word := regionCrc lines (8 * tx) (8 * ty) 8 8

def Cell.tilesWide (c : Cell) : Nat := (c.hactive + 7) / 8
def Cell.tilesHigh (c : Cell) : Nat := (c.vactive + 7) / 8

/-- The tile CRCs of a picture, row by row (R248). -/
def Cell.tileCrcs (c : Cell) (lines : List (List Nat)) : List Word :=
  (List.range c.tilesHigh).flatMap fun ty => (List.range c.tilesWide).map fun tx => tileCrc lines tx ty

/-- The native footprint of output samples lo..hi along one axis: first and last native index (R248). -/
def Cell.footprint (c : Cell) (vert : Bool) (lo hi : Nat) : Nat × Nat :=
  if c.polyphase then
    let step := (c.reg (if vert then Reg.SCL_VSTEP else Reg.SCL_HSTEP)).toNat
    let n := if vert then c.vactive else c.hactive
    let back : Int := if vert then 2 else 3
    let fwd : Int := if vert then 3 else 4
    (clampIdx n ((scalePos step lo).1 - back), clampIdx n ((scalePos step hi).1 + fwd))
  else
    let f := if vert then c.fld Reg.SCL_CFG 11 8 else c.fld Reg.SCL_CFG 7 4
    (lo / f, hi / f)

/-- Is block (bx, by) unchanged (R248)? -/
def Cell.unchanged (c : Cell) (bx byy : Nat) : Bool :=
  if c.enc.tileCrc.isEmpty then false
  else
    let fx := c.footprint false (Nat.min (16 * bx) (c.ow - 1)) (Nat.min (16 * bx + 15) (c.ow - 1))
    let fy := c.footprint true (Nat.min (16 * byy) (c.oh - 1)) (Nat.min (16 * byy + 15) (c.oh - 1))
    (ordered (fy.2 / 8 + 1) false).all fun ty => (ordered (fx.2 / 8 + 1) false).all fun tx =>
      decide (ty < fy.1 / 8) || decide (tx < fx.1 / 8) ||
        tileCrc c.pic.lines tx ty == c.enc.tileCrc.getD (ty * c.tilesWide + tx) 0

/-! ## The native line code (R264 to R268) -/

def tableGet (t : List (Nat × Nat)) (i : Nat) : Nat := Sparse.get (fun _ => 0) t i

/-- The lowest entry that holds a colour (R266). -/
def tableIndex (t : List (Nat × Nat)) (rgb : Nat) : Option Nat :=
  if rgb = 0 then (List.range 4096).find? fun i => tableGet t i == 0
  else (t.find? fun p => p.2 == rgb).map Prod.fst

/-- The colours of a stripe that no entry holds, in order of first appearance, up to 1,024 (R266). -/
def newColours (t : List (Nat × Nat)) (px : List Nat) : List Nat :=
  px.foldl (fun acc p => if acc.contains p || decide (1024 ≤ acc.length) || (tableIndex t p).isSome then acc else acc ++ [p]) []

/-- Write the listed colours from NEXT on; the table and the new NEXT (R266). -/
def tableUpdate (t : List (Nat × Nat)) (next : Nat) (cs : List Nat) : List (Nat × Nat) × Nat :=
  cs.foldl (fun s rgb => (Sparse.put (fun _ => 0) s.1 s.2 rgb, (s.2 + 1) % 4096)) (t, next)

/-- Bits of a number, most significant first. -/
def bitsOf (n v : Nat) : List Bool := (List.range n).map fun i => bit v (n - 1 - i)

/-- The unsigned Exp-Golomb code (R267). -/
def ue (v : Nat) : List Bool :=
  let k := (v + 1).log2
  List.replicate k false ++ [true] ++ bitsOf k (v + 1)

/-- Length of the longest common prefix of two pixel rows. -/
def runLen : List Nat → List Nat → Nat
  | x :: xs, y :: ys => if x = y then runLen xs ys + 1 else 0
  | _, _ => 0

/-- Pixels of a row equal to `p` from its start. -/
def runOf (p : Nat) : List Nat → Nat
  | x :: xs => if x = p then runOf p xs + 1 else 0
  | [] => 0

/-- Code a line from its position on: `prev`, `up` and `cur` are what is left of the rows, `left` the pixel before
(R267, R268). -/
def nlcLine (t : List (Nat × Nat)) : Nat → List Nat → List Nat → List Nat → Option Nat → List Bool
  | 0, _, _, _, _ => []
  | fuel + 1, prev, up, cur, left =>
    match cur with
    | [] => []
    | p :: rest =>
      let a := runLen cur prev
      let b := runLen cur up
      let l := match left with
        | some q => runOf q cur
        | none => 0
      let go := fun (op : List Bool) (n : Nat) =>
        op ++ ue (n - 1) ++ nlcLine t fuel (prev.drop n) (up.drop n) (cur.drop n) (some (cur.getD (n - 1) 0))
      if 1 ≤ a ∧ b ≤ a ∧ l ≤ a then go [false, false] a
      else if 1 ≤ b ∧ l ≤ b then go [false, true] b
      else if 1 ≤ l then go [true, false] l
      else
        (match tableIndex t p with
        | some i => [true, true, false] ++ bitsOf 12 i
        | none => [true, true, true] ++ bitsOf 24 p) ++
        nlcLine t fuel (prev.drop 1) (up.drop 1) rest (some p)

/-- Pack bits into bytes, most significant first, the last byte filled with 0 (R267). -/
def packBits : Nat → List Bool → Bytes
  | 0, _ => []
  | fuel + 1, bs =>
    if bs.isEmpty then []
    else
      let b := (List.range 8).foldl (fun a i => 2 * a + b2n (bs.getD i false)) 0
      BitVec.ofNat 8 b :: packBits fuel (bs.drop 8)

/-- The stripe unit of stripe `k`, with the table and NEXT after it (R264 to R268). -/
def Cell.nlcUnit (c : Cell) (k : Nat) (key : Bool) (prevLines : List (List Nat)) : Bytes × List (Nat × Nat) × Nat :=
  let t0 := if key then [] else c.enc.table
  let n0 := if key then 0 else c.enc.next
  let lo := 16 * k
  let lines := slice c.pic.lines lo 16
  let cs := newColours t0 lines.flatten
  let upd := tableUpdate t0 n0 cs
  let bits := (lines.zipIdx lo).flatMap fun q =>
    let prev := if key then [] else prevLines.getD q.2 []
    let up := if q.2 = 0 then [] else c.pic.lines.getD (q.2 - 1) []
    nlcLine upd.1 q.1.length prev up q.1 none
  let body := packBits bits.length bits
  let last := k + 1 = c.stripes
  let head := [0x01, BitVec.ofNat 8 (b2n key * 128 + b2n (decide last) * 64)] ++ beBytes 4 c.beam.frame ++ beBytes 2 k ++
    beBytes 2 lo ++ [BitVec.ofNat 8 lines.length, 0] ++ beBytes 2 c.hactive ++ beBytes 2 c.vactive ++
    beBytes 2 cs.length ++ beBytes 2 n0 ++ beBytes 4 body.length
  let ups := (cs.zipIdx).flatMap fun q => beBytes 2 ((n0 + q.2) % 4096) ++ rgbBytes q.1
  (head ++ ups ++ body, upd.1, upd.2)

/-- The previous NLC frame with the bytes of failing reference lines read as 0x00 (R263, R269).
DESIGN CHOICE, unsafe, log entry 34. -/
def maskPrev (hactive : Nat) (bad : List Nat) (lines : List (List Nat)) : List (List Nat) :=
  if bad.isEmpty then lines
  else lines.zipIdx.map fun q => q.1.zipIdx.map fun p =>
    let at' := fun i => bad.contains (((q.2 * hactive + p.2) * 3 + i) / 64 * 64)
    (if at' 0 then 0 else p.1 / 65536 * 65536) + (if at' 1 then 0 else p.1 / 256 % 256 * 256) + (if at' 2 then 0 else p.1 % 256)

/-! ## Closing stripes (R239, R244, R245, R256, R259, R263, R270, R300) -/

/-- The check value of a stripe (R300). -/
def stripeCheck (nlc : Bool) (nals : List Bytes) : Word :=
  if nlc then crc32c nals.flatten else crc32c (nals.flatMap fun n => beBytes 4 n.length ++ n)

/-- Has the stripe that is next completed in the encoder's input (R239)? -/
def Cell.stripeReady (c : Cell) : Bool :=
  c.enc.pic != .none && decide (c.enc.stripe < c.stripes) && decide (c.stripeLine c.enc.stripe < c.beam.started)

def PicKind.code : PicKind → Nat
  | .none => 0
  | .idr => 1
  | .active => 2
  | .skip => 3

/-- The present picture renews the long-term reference (R245). -/
def Cell.renewsLong (c : Cell) : Bool :=
  c.enc.pic == .active && c.enc.cfg.ltper != 0 && (c.enc.actives + 1) % c.enc.cfg.ltper == 0

/-- NAL units and reconstruction of stripe `k` at a QP. -/
def Cell.sliceOf (c : Cell) (k qp : Nat) : List Bytes × Bytes :=
  let e := c.enc
  let f := e.cfg
  let cfg := [f.codec, f.profile, f.entropy, b2n f.deblock, f.level, f.cw, f.ch, c.ow, c.oh, c.family,
    b2n (c.rbit Reg.SCL_CCTL 0), f.cols, f.rper, f.ltper]
  let refresh := match f.refresh e.sinceIdr with
    | some r => r + 1
    | none => 0
  let num := if e.pic = .idr then 0 else (e.frameNum + 1) % 65536
  let pic := [e.pic.code, k, qp, num, e.poc, refresh, b2n c.renewsLong]
  let hints := if e.pic = .active then
      (List.range c.stripeBlocks).map fun bx => ((c.blockHint bx k).1, (c.blockHint bx k).2, c.unchanged bx k)
    else []
  let src := if e.pic = .skip then [] else c.stripeSamples c.pic.lines (16 * k)
  let i : Config.SliceIn := ⟨cfg, pic, src, hints, e.refShort, e.refLong.getD [], e.cur, e.refBad⟩
  (Config.sliceUnits i, Config.sliceRecon i)

/-- What follows the last stripe of a picture (R244, R245, R270). DEDUCED, unsafe, log entry 77. -/
def Cell.pictureDone (c : Cell) : Cell :=
  let e := c.enc
  let c1 := c.raise (.bump 0x1E 0x0C)
  match e.pic with
  | .idr =>
    let e1 := { e with frameNum := 0, poc := 1, actives := 0, refShort := e.cur, refLong := none, pic := .none, cur := []
                       prevNlc := c.pic.lines }
    { c1 with enc := e1 }.raise (.put 0x1E 0x0F (c.beam.frame % 2 ^ 32))
  | .active =>
    let long := if c.renewsLong then some e.refShort else e.refLong
    let e1 := { e with frameNum := (e.frameNum + 1) % 65536, poc := e.poc + 1, actives := e.actives + 1
                       refShort := e.cur, refLong := long, pic := .none, cur := [], prevNlc := c.pic.lines }
    { c1 with enc := e1 }
  | .skip => { c1 with enc := { e with poc := e.poc + 1, pic := .none, cur := [] } }.raise (.add 0x1E 0x0D (2 ^ 32))
  | .none => c

/-- Close the stripe that is next and hand it to the packet engine. DESIGN CHOICE, safe, log entry 9. -/
def Cell.closeStripe (c : Cell) (intact : Bool) : Cell :=
  if !c.stripeReady then c
  else
    let e := c.enc
    let k := e.stripe
    let key := e.pic == .idr
    let last := decide (k + 1 = c.stripes)
    let r : List Bytes × Enc :=
      if c.nlc then
        let u := c.nlcUnit k key (maskPrev c.hactive e.refBad e.prevNlc)
        ([u.1], { e with table := u.2.1, next := u.2.2 })
      else
        let qp := if key then c.idrQp else if e.pic = .skip then e.pqp.getD k 0 else c.stripeQp k
        let s := c.sliceOf k qp
        let cost := 8 * (s.1.map List.length).sum
        let pqp := if e.pic = .skip then e.pqp else if key then e.pqp else e.pqp.set k qp
        let pb := if e.pic = .active then e.pbits.set k (Nat.max 8 cost)
          else if key then (if e.pbits.length ≤ k then e.pbits ++ [Nat.max 8 (cost / 4)] else e.pbits.set k (Nat.max 8 (cost / 4)))
          else e.pbits
        let pqp1 := if key && last then List.replicate c.stripes qp else pqp
        (s.1, { e with credit := e.credit - cost, pqp := pqp1, pbits := pb, cur := e.cur ++ [s.2] })
    let check := stripeCheck c.nlc r.1
    let u : EUnit := ⟨.video, c.beam.frame, c.beam.frame + c.str.parkedFrames, k, key, last, r.1, check, intact, c.stripeLine k⟩
    let qpNow := if key then c.idrQp else if e.pic = .skip then e.pqp.getD k 0 else c.stripeQp k
    let c1 := { c with enc := { r.2 with stripe := k + 1, refBad := [] } }
    let c2 := c1.queueUnit u
    let c3 := if c.nlc then c2 else c2.raise (.put 0x1E 0x10 qpNow)
    if last then c3.pictureDone else c3

/-- Late reference data of the stripe in progress returns; `bad` are the 64-byte lines that failed their tags twice
(R263). DESIGN CHOICE, unsafe, log entry 34. -/
def Cell.referenceReturn (c : Cell) (bad : List Nat) : Cell :=
  if c.stripeReady && (c.enc.pic == .active || c.nlc) then
    let c1 := c.raise (.bump 0x1E 0x11)
    if bad.isEmpty then c1
    else
      let c2 := { c1 with enc := { c1.enc with refBad := c1.enc.refBad ++ bad } }
      (c2.diverge 0x04 (c.stripeLine c.enc.stripe)).raise .idr
  else c

/-- The keep-alive of a quiet frame (R260, R282). -/
def Cell.keepalive (c : Cell) : Cell :=
  if c.enc.keepDue && decide (c.stripeLine 0 < c.beam.started) then
    let u : EUnit := ⟨.keepalive, c.beam.frame, c.beam.frame + c.str.parkedFrames, 0, false, false, [], 0, true, c.stripeLine 0⟩
    ({ c with enc := { c.enc with keepDue := false } }.queueUnit u).raise (.add 0x1E 0x0D 1)
  else c

/-- What the encoder does at the boundary of frame `frame` (R244, R254 to R256, R259, R260). -/
def Cell.encBoundary (c0 : Cell) (frame : Nat) (quiet composedBefore : Bool) : Cell :=
  let e0 := c0.enc
  let idrBefore := decide (e0.sinceIdr = 0)
  let keep := composedBefore && !idrBefore
  let prevH := if composedBefore then (if keep then e0.hints else []) else e0.hintsPrev
  let prevT := if composedBefore then (if keep then c0.tileCrcs c0.pic.lines else []) else e0.tileCrc
  let c := c0.rateGrant
  let idr := decide (frame = 0) || e0.stamps.contains frame
  let q := if quiet then e0.q + 1 else 0
  let qs := e0.cfg.qskip
  let pic : PicKind := if idr then .idr else if !quiet then .active else if e0.cfg.codec ≠ 2 ∧ q ≤ qs then .skip else .none
  let skipTop := if e0.cfg.codec = 2 then 0 else qs
  let keepDue := quiet && decide (skipTop < q) && decide ((q - skipTop - 1) % e0.cfg.kaint = 0)
  let e := { c.enc with
    q := q, pic := pic, stripe := 0, cur := [], keepDue := keepDue, stamps := e0.stamps.filter fun x => frame < x
    sinceIdr := if idr then 0 else e0.sinceIdr + 1, hintsPrev := prevH, tileCrc := prevT
    hints := if quiet then e0.hints else []
    poc := if idr then 0 else c.enc.poc }
  { c with enc := e }

end Sys2Proof.Machine
end

