-- ==== Sys2Proof/Machine/CellInp.lean ====
section
/-! DEFINITION. The INP port of a cell: staging store, readable FIFO, reports (11_streams_input_packet_engine.md, R52,
R53). -/

namespace Sys2Proof.Machine

/-- The stamped message that a byte string holds, when its CHECK verifies (R290, R300). -/
def parseStamped (m : Bytes) : Option (Nat × InMsg) :=
  let len := (m.getD 15 0).toNat
  if m.length = 24 + len ∧ beNat (m.drop (20 + len)) = (crc32c (m.take (20 + len))).toNat then
    some (beNat (m.take 8),
      { frame := beNat (slice m 8 4), line := beNat (slice m 12 2) % 4096, player := (m.getD 14 0).toNat
        seq := beNat (slice m 16 4), payload := slice m 20 len, late := false })
  else none

/-- The session that a stamped message names, whatever its CHECK. -/
def stampedSession (m : Bytes) : Nat := beNat (m.take 8)

/-- Frames are named as CELL_FRAME numbers them, modulo 2^32. -/
def Cell.frameNo (c : Cell) : Nat := c.beam.frame % 2 ^ 32

/-- Is frame-and-line (f, l) behind line `n` of the present frame? Frames compare modulo 2^32.
DEDUCED, unsafe, log entry 45. -/
def Cell.passed (c : Cell) (f l n : Nat) : Bool :=
  decide (f ≠ c.frameNo ∧ (c.frameNo + 2 ^ 32 - f) % 2 ^ 32 < 2 ^ 31) || decide (f = c.frameNo ∧ l < n)

/-- A stamped message enters the staging store (R294); one whose CHECK fails is discarded and counted (R301).
DEDUCED, unsafe, log entry 45. DEDUCED, unsafe, log entry 81. -/
def Cell.stampedReceive (c : Cell) (m : Bytes) : Cell :=
  match parseStamped m with
  | some (_, x) => { c with str := { c.str with staging := c.str.staging ++ [{ x with late := c.passed x.frame x.line c.beam.started }] } }
  | none => c.raise (.bump 0x1F 0x0A)

/-- One message becomes readable at line `n`, or is discarded for a full FIFO; a gap before it is recorded (R53, R294).
DEDUCED, unsafe, log entry 46. -/
def Cell.makeReadable (c : Cell) (n : Nat) (x : InMsg) : Cell :=
  let c0 := if x.seq ≠ (c.str.lastSeq + 1) % 2 ^ 32 then c.diverge 0x07 n else c
  let c1 := { c0 with str := { c0.str with
    staging := c0.str.staging.filter (fun y => y.seq ≠ x.seq), lastSeq := x.seq, inow := c0.str.inow + 1 } }
  if 64 ≤ c1.str.fifo.length then
    (c1.orReg Reg.INP_STAT 2).setReg Reg.INP_DROPS
      (BitVec.ofNat 32 (satInc 0xFFFFFFFF (c1.reg Reg.INP_DROPS).toNat))
  else { c1.orReg Reg.INP_STAT 1 with str := { c1.str with fifo := c1.str.fifo ++ [x] } }

/-- Insert by stamp sequence number, modulo 2^32 after the last applied. -/
def insertMsg (last : Nat) (x : InMsg) : List InMsg → List InMsg
  | [] => [x]
  | y :: r =>
    if (x.seq + 2 ^ 32 - last) % 2 ^ 32 < (y.seq + 2 ^ 32 - last) % 2 ^ 32 then x :: y :: r else y :: insertMsg last x r

/-- The staged messages that satisfy `p`, in order of stamp sequence number (R52). -/
def Cell.staged (c : Cell) (p : InMsg → Bool) : List InMsg :=
  (c.str.staging.filter p).foldl (fun l x => insertMsg c.str.lastSeq x l) []

/-- A message whose number does not rise is never applied (R53). -/
def Cell.stale (c : Cell) (x : InMsg) : Bool := decide (2 ^ 31 ≤ (x.seq + 2 ^ 32 - (c.str.lastSeq + 1)) % 2 ^ 32)

/-- Messages become readable one after another; stale ones are dropped. DEDUCED, unsafe, log entry 46. -/
def Cell.applyMsgs (c : Cell) (n : Nat) (xs : List InMsg) : Cell :=
  xs.foldl (fun c x =>
    if c.stale x then { c with str := { c.str with staging := c.str.staging.filter (fun y => y.seq ≠ x.seq) } }
    else c.makeReadable n x) c

/-- INPUT_APPLY: the messages whose stamped line has been reached become readable (R52). -/
def Cell.inputApply (c : Cell) : Cell :=
  c.applyMsgs (c.beam.started - 1) (c.staged fun x => !x.late && c.passed x.frame x.line c.beam.started)

/-- At cycle 0 of line `n`, messages that arrived after their stamped position become readable and are late (R53).
DEDUCED, unsafe, log entry 45. -/
def Cell.inputLate (c : Cell) (n : Nat) : Cell :=
  (c.staged fun x => x.late).foldl (fun c x =>
    if c.stale x then { c with str := { c.str with staging := c.str.staging.filter (fun y => y.seq ≠ x.seq) } }
    else (c.diverge 0x06 n).makeReadable n x) c

/-- INP_POP: the head message is removed; on an empty FIFO there is no effect (R295). -/
def Cell.inpPop (c : Cell) : Cell := { c with str := { c.str with fifo := c.str.fifo.tail } }

/-- The words of INP_RPT0 to INP_RPT7 as bytes. -/
def Cell.reportBytes (c : Cell) : Bytes := (List.range 8).flatMap fun k => leBytes 4 (c.reg (Reg.INP_RPT + 4 * k)).toNat

/-- INP_RPTSEND (R292). -/
def Cell.rptSend (c : Cell) (v : Word) : Cell :=
  let len := bits v.toNat 5 0
  let full := decide (16 ≤ c.str.reports.length)
  let c1 := if 32 < len then c.orReg Reg.INP_STAT 8 else c
  let c2 := if full then c1.orReg Reg.INP_STAT 4 else c1
  if 32 < len ∨ full = true then c2
  else
    let seq := (c.reg Reg.INP_RPTSEQ).toNat + 1
    let r : Report := ⟨bits v.toNat 31 28, seq % 2 ^ 32, c.reportBytes.take len⟩
    { c2.setReg Reg.INP_RPTSEQ (BitVec.ofNat 32 seq) with str := { c2.str with reports := c2.str.reports ++ [r] } }

/-- At cycle 0 of a line the packet engine takes the oldest report (R292). -/
def Cell.reportTake (c : Cell) : Cell := match c.str.reports with
  | [] => c
  | r :: rest => { c with str := { c.str with reports := rest } }.raise (.report r)

/-- INP_HDR, INP_SEQ, INP_FRAME and INP_PAYk of the head message; 0 on an empty FIFO (R302). -/
def Cell.inpWord (c : Cell) (off : Nat) : Word := match c.str.fifo with
  | [] => 0
  | m :: _ =>
    if off = Reg.INP_HDR then BitVec.ofNat 32 (m.player % 16 * 2 ^ 28 + m.payload.length % 64 * 2 ^ 22 + m.line % 4096)
    else if off = Reg.INP_SEQ then BitVec.ofNat 32 m.seq
    else if off = Reg.INP_FRAME then BitVec.ofNat 32 m.frame
    else BitVec.ofNat 32 (leNat (slice m.payload (off - Reg.INP_PAY) 4))

end Sys2Proof.Machine
end

