-- ==== Sys2Proof/Machine/Flags.lean ====
section
/-! DEFINITION. Status flags and interrupts of a cell: the levels of the interrupt sources, INTC_PEND, INTC_CLAIM and MEIP
(R210, R211). -/

namespace Sys2Proof.Machine

/-- STAT AND IEN of a block is not 0. -/
def Cell.level (c : Cell) (stat ien : Nat) : Bool := (c.reg stat &&& c.reg ien) != 0

/-- The level of interrupt source `i` (R210, R233, R296). -/
def Cell.irqLevel (c : Cell) (i : Nat) : Bool :=
  if i = 1 then c.rbit Reg.WDG_STAT 0 || c.rbit Reg.WDG_STAT 1
  else if i = 2 then c.reg Reg.CELL_DIVSTAT != 0
  else if 3 ≤ i ∧ i ≤ 10 then
    let m := c.reg Reg.TMR_STAT &&& c.reg Reg.TMR_IEN
    m.getLsbD (i - 3) || m.getLsbD (i + 5) || m.getLsbD (i + 13)
  else if i = 11 then c.level Reg.RST_STAT Reg.RST_IEN
  else if i = 12 then c.level Reg.PLN_BSTAT Reg.PLN_BIEN
  else if i = 13 then c.level Reg.SPR_STAT Reg.SPR_IEN
  else if i = 14 then c.level Reg.LNL_STAT Reg.LNL_IEN
  else if i = 15 then c.level Reg.SIG_STAT Reg.SIG_IEN
  else if i = 16 then c.level Reg.BLT_STAT Reg.BLT_IEN
  else if i = 17 then c.level Reg.DMA_STAT Reg.DMA_IEN || c.level Reg.DMA_TAGF Reg.DMA_TAGIEN
  else if i = 18 then c.level Reg.INP_STAT Reg.INP_IEN
  else if i = 19 then c.level Reg.AUD_STAT Reg.AUD_IEN || c.level Reg.AUD_VEND Reg.AUD_VIEN
  else false

/-- INTC_PEND: one bit for each source (R211). -/
def Cell.irqPend (c : Cell) : Nat := (List.range 20).foldl (fun a i => a + b2n (c.irqLevel i) * 2 ^ i) 0

/-- Priority of source `i` (INTC_PRIO0 to INTC_PRIO2). -/
def Cell.irqPrio (c : Cell) (i : Nat) : Nat :=
  let j := i % 8
  c.fld (Reg.INTC_PRIO0 + 4 * (i / 8)) (4 * j + 2) (4 * j)

/-- INTC_CLAIM: the eligible source of highest priority, the lowest ID among equals, 0 when none (R211). -/
def Cell.irqClaim (c : Cell) : Nat :=
  let th := c.fld Reg.INTC_THRESH 2 0
  ((List.range 20).foldl (fun best i =>
    let p := c.irqPrio i
    if c.irqLevel i && c.rbit Reg.INTC_EN i && decide (th < p) && decide (best.2 < p) then (i, p) else best)
    ((0, 0) : Nat × Nat)).1

/-- MEIP (R211). -/
def Cell.meip (c : Cell) : Bool := c.irqClaim != 0

/-- MEIP as mip and the processor see it at the present position: from the cycle after the event that raised it (R42).
DEDUCED, unsafe, log entry 92. -/
def Cell.meipSeen (c : Cell) : Bool := c.meip && decide (c.evt.irqFrom ≤ c.beam.fpos)

/-- An event at position `p` of the frame. One that raises MEIP makes it pending from the next counted cycle, which after an
event of the porch is line 0, cycle 0 (R42). DEDUCED, unsafe, log entry 5. -/
def Cell.event (c : Cell) (p : Nat) (f : Cell → Cell) : Cell :=
  let y := f { c with evt := { c.evt with last := p } }
  let last := if y.evt.last ≤ y.beam.fpos then y.evt.last else c.evt.last
  let from' := if !c.meip && y.meip then (if y.beam.inPorch then 0 else p + 1) else y.evt.irqFrom
  { y with evt := { y.evt with last := last, irqFrom := from' } }

end Sys2Proof.Machine
end

