-- ==== Sys2Proof/Machine/CellRegs.lean ====
section
/-! DEFINITION. Reads and writes of the cell register blocks: the value of every register, and what a word store with the
tenant program's rights does (R8 to R11, R37, and the register maps). -/

namespace Sys2Proof.Machine

/-! ## Commits (R73 to R78) -/

/-- Position of cycle 0 of line CL, from the active copy (R75). -/
def Cell.clLine (c : Cell) : Nat := bits (c.act Reg.RST_CL).toNat 11 0

/-- A write of 1 to RST_COMMIT.GO that takes effect at position `pos` (R74, R76). DEDUCED, unsafe, log entry 48. -/
def Cell.commitGo (c : Cell) (pos : Nat) : Cell :=
  if c.pic.armed then c
  else
    let late := decide (c.clLine * c.cpl ≤ pos)
    let c1 := { c with pic := { c.pic with armed := true, applyFrame := c.beam.frame + if late then 2 else 1 } }
    if late then (c1.orReg Reg.RST_STAT 1).raise (.bump 0x1B 0x03) else c1

/-! ## Coefficient and palette access (R140, R155) -/

/-- The index after SCL_CIDX in the AUTOINC order (R155): TABLE × 256 + PHASE × 4 + PAIR. -/
def nextCoef (k : Nat) : Nat :=
  let pair := k % 4
  if k < 256 then (if k = 255 then 256 else k + 1)
  else if pair < 2 then k + 1
  else if 508 ≤ k then 0 else k + 2

def Cell.coefIdx (c : Cell) : Nat := c.fld Reg.SCL_CIDX 8 0

/-- A write to SCL_CDATA (R155). -/
def Cell.writeCdata (c : Cell) (v : Word) : Cell :=
  let k := c.coefIdx
  let w := BitVec.ofNat 32 (bits v.toNat 25 16 * 65536 + bits v.toNat 9 0)
  let c1 := { c with pic := { c.pic with coefPend := Sparse.put coefDefault c.pic.coefPend k w } }
  if c.rbit Reg.SCL_CIDX 31 then c1.setFld Reg.SCL_CIDX 8 0 (nextCoef k) else c1

/-- A write to CMP_PALDATA (R140). -/
def Cell.writePaldata (c : Cell) (v : Word) : Cell :=
  let i := c.fld Reg.CMP_PALIDX 11 0
  let c1 := { c with pic := { c.pic with palette := Sparse.put (fun _ => (0 : Word)) c.pic.palette i v } }
  if c.rbit Reg.CMP_PALIDX 31 then c1.setFld Reg.CMP_PALIDX 11 0 (i + 1) else c1

/-! ## Reads -/

/-- CELL_FENCE: entries held, and whether a move waits for one (R50, R60). -/
def Cell.fenceWord (c : Cell) : Word :=
  let n := c.mem.fences.length
  let wait := decide (16 ≤ n) && c.dma.toList.any fun d => match d.held with
    | .move _ _ _ _ _ _ _ _ _ => true
    | _ => false
  BitVec.ofNat 32 (b2n wait * 2 ^ 31 + n)

/-- DMA_REQLO and DMA_REQHI (R186). -/
def Cell.reqWord (c : Cell) (hi : Bool) (pos : Nat) : Word :=
  BitVec.ofNat 32 ((List.range (if hi then 9 else 32)).foldl (fun a i =>
    a + b2n (c.reqAt (i + if hi then 32 else 0) pos) * 2 ^ i) 0)

/-- Words of the operator's active overlay set that the tenant reads (R144, R161). -/
def Cell.ovWord (c : Cell) (off : Nat) : Word :=
  let o := c.pic.overlay.active
  BitVec.ofNat 32 (
    if off = Reg.CMP_OVCTL then b2n o.buf * 65536 + o.alpha * 256 + o.fmt * 2 + b2n o.en
    else if off = Reg.CMP_OVPOS then o.y * 65536 + o.x
    else o.h * 65536 + o.w)

/-- The value of the register at an offset at position `pos`, without any side effect (R8 to R10).
DEDUCED, unsafe, log entry 90. -/
def Cell.readReg (c : Cell) (off pos : Nat) : Word :=
  match regDesc off with
  | none => 0
  | some d =>
    let k := (off - d.base) / d.stride
    let isReg := fun base : Nat => d.base == base
    if isReg Reg.CELL_BEAM then beamWord (c.posAt pos)
    else if isReg Reg.CELL_FRAME then BitVec.ofNat 32 c.beam.frame
    else if isReg Reg.CELL_FPOS then
      let q := c.posAt pos
      BitVec.ofNat 32 (q.1 * c.cpl + q.2)
    else if isReg Reg.CELL_FENCE then c.fenceWord
    else if isReg Reg.RST_CSTAT then BitVec.ofNat 32 (b2n c.pic.armed + 2 * b2n c.pic.staged)
    else if isReg Reg.RST_CFRAME then BitVec.ofNat 32 c.pic.applyFrame
    else if isReg Reg.RST_QSTAT then
      BitVec.ofNat 32 (b2n c.pic.quiet * 2 ^ 31 + b2n c.pic.dirty * 2 ^ 30 + Nat.min c.pic.quietRun 65535)
    else if isReg Reg.CMP_PALDATA then Sparse.get (fun _ => (0 : Word)) c.pic.palette (c.fld Reg.CMP_PALIDX 11 0)
    else if isReg Reg.CMP_OVCTL || isReg Reg.CMP_OVPOS || isReg Reg.CMP_OVSIZE then c.ovWord off
    else if isReg Reg.SCL_CDATA then Sparse.get coefDefault c.pic.coefPend c.coefIdx
    else if isReg Reg.BLT_QUEUE then BitVec.ofNat 32 c.blt.queue.length
    else if h : d.base = Reg.DMA_CHPC ∧ k < 8 then
      let ch := c.dma[k]'h.2
      if ch.state = 1 ∨ ch.state = 2 then BitVec.ofNat 32 ch.pc else c.reg off
    else if h : d.base = Reg.DMA_CHSTAT ∧ k < 8 then
      let ch := c.dma[k]'h.2
      BitVec.ofNat 32 (ch.code * 256 + ch.state)
    else if h : d.base = Reg.DMA_CHLOOP ∧ k < 8 then
      let ch := c.dma[k]'h.2
      BitVec.ofNat 32 (ch.cnt1 * 65536 + ch.cnt0)
    else if isReg Reg.DMA_REQLO then c.reqWord false pos
    else if isReg Reg.DMA_REQHI then c.reqWord true pos
    else if h : d.base = Reg.TMR_CNT ∧ k < 8 then c.cntValue ⟨k, h.2⟩
    else if isReg Reg.INTC_PEND then BitVec.ofNat 32 c.irqPend
    else if isReg Reg.INTC_CLAIM then BitVec.ofNat 32 c.irqClaim
    else if h : d.base = Reg.AUD_SVPOS ∧ k < 32 then
      let v := c.aud.sv[k]'h.2
      BitVec.ofNat 32 (v.i % 2 ^ 20 * 4096 + v.f / 256)
    else if h : d.base = Reg.AUD_SVSTRM ∧ k < 32 then
      let v := c.aud.sv[k]'h.2
      BitVec.ofNat 32 (Nat.min v.cons 65535 * 65536 + c.fld off 15 0)
    else if isReg Reg.AUD_PDATA then Sparse.get (fun _ => (0 : Word)) c.aud.bankP (c.fld Reg.AUD_PIDX 9 0)
    else if isReg Reg.INP_LEVEL then BitVec.ofNat 32 c.str.fifo.length
    else if isReg Reg.INP_HDR || isReg Reg.INP_SEQ || isReg Reg.INP_FRAME || isReg Reg.INP_PAY then c.inpWord off
    else if isReg Reg.INP_RPTQ then BitVec.ofNat 32 c.str.reports.length
    else if isReg Reg.ID_VBYTESLO then BitVec.ofNat 32 c.str.vtot
    else if isReg Reg.ID_ABYTESLO then BitVec.ofNat 32 c.str.atot
    else if isReg Reg.ID_CYCLO then BitVec.ofNat 32 c.str.ctot
    else c.reg off

/-- The high half that a processor read of the LO register `k` latches (R408). -/
def Cell.idLatch (c : Cell) (k : IdCounter) : Cell := match k with
  | .vbytes => c.setReg Reg.ID_VBYTESHI (BitVec.ofNat 32 (c.str.vtot / 2 ^ 32))
  | .abytes => c.setReg Reg.ID_ABYTESHI (BitVec.ofNat 32 (c.str.atot / 2 ^ 32))
  | .cyc => c.setReg Reg.ID_CYCHI (BitVec.ofNat 32 (c.str.ctot / 2 ^ 32))

/-- The side effect of a processor read of the register at an offset: the latches of R203 and R408; every other register
has none. -/
def Cell.readEffect (c : Cell) (off : Nat) : Cell :=
  if h : Reg.TMR_CNT ≤ off ∧ off < Reg.TMR_CNT + 0x100 ∧ (off - Reg.TMR_CNT) % 0x20 = 0 then
    c.cntReadEffect ⟨(off - Reg.TMR_CNT) / 0x20, by omega⟩
  else if off = Reg.ID_VBYTESLO then c.idLatch .vbytes
  else if off = Reg.ID_ABYTESLO then c.idLatch .abytes
  else if off = Reg.ID_CYCLO then c.idLatch .cyc
  else c

/-- What a processor load of the register at an offset samples: a count after the ticks of the load's first cycle (R203), any
other register as it stands (R27). DEDUCED, unsafe, log entry 78. -/
def Cell.loadReg (c : Cell) (off : Nat) : Word :=
  if Reg.TMR_CNT ≤ off ∧ off < Reg.TMR_CNT + 0x100 ∧ (off - Reg.TMR_CNT) % 0x20 = 0 then c.sampleCounts.readReg off c.beam.fpos
  else c.readReg off c.beam.fpos

/-! ## Writes -/

/-- A trace packet of the cell at a position. -/
def Cell.traceAt (c : Cell) (typ port pos : Nat) (data : Word) : Cell :=
  let q := c.posAt pos
  c.raise (.trace (tracePacket typ port q.1 q.2 c.beam.frame data))

/-- A store to STIM_PORTk (R438, R441). -/
def Cell.stimWrite (c : Cell) (k : Nat) (v : Word) (pos : Nat) : Cell :=
  if c.rbit Reg.STIM_EN k then
    (c.setReg Reg.STIM_CNT (c.reg Reg.STIM_CNT + 1)).traceAt 0x01 k pos v
  else c

/-- A write to a register without a behaviour of its own: RW bits take the value, W1C bits written 1 clear (R8, R10). -/
def Cell.writePlain (c : Cell) (d : RegDesc) (off : Nat) (v : Word) : Cell :=
  let rw := BitVec.ofNat 32 d.rw
  let w1c := BitVec.ofNat 32 d.w1c
  let old := c.reg off
  c.setReg off (((old &&& ~~~rw) ||| (v &&& rw)) &&& ~~~(v &&& w1c))

/-- Bits hi..lo of `v`, or of `old` when the write leaves the field unchanged, in place. -/
def fieldOr (keep : Bool) (old v : Word) (hi lo : Nat) : Word :=
  let m := BitVec.ofNat 32 (2 ^ (hi + 1) - 2 ^ lo)
  if keep then (v &&& ~~~m) ||| (old &&& m) else v

/-- A write to PLN_PpCTL (R91, R112). -/
def Cell.writePlane (c : Cell) (d : RegDesc) (p off : Nat) (v : Word) : Cell :=
  let old := c.reg off
  let v1 := fieldOr (bits v.toNat 5 4 = 3) old v 5 4
  let v2 := fieldOr (bits v.toNat 7 6 = 3) old v1 7 6
  let v3 := if c.rbit Reg.PLN_CAPS p then v2 else v2 &&& ~~~1
  let v4 := if p = 3 ∧ c.rbit Reg.PLN_CAPS 4 = true then v3 else v3 &&& ~~~0x800
  c.writePlain d off v4

/-- RST_LCMP is compared only past position `p` (R87). -/
def Cell.lcmpPast (c : Cell) (p : Nat) : Cell := { c with evt := { c.evt with lcmpFrom := p + 1 } }

/-- A word store with the tenant program's rights to the register at an offset, taking effect at position `pos` of the
frame. DESIGN CHOICE, unsafe, log entry 38. -/
def Cell.writeReg (c : Cell) (off : Nat) (v : Word) (pos : Nat) : Cell :=
  match regDesc off with
  | none => c
  | some d =>
    let k := (off - d.base) / d.stride
    let isReg := fun base : Nat => d.base == base
    let w := v.toNat
    if isReg Reg.RST_CL then (if 1 ≤ bits w 11 0 ∧ bits w 11 0 ≤ c.vactive then c.writePlain d off v else c)
    else if isReg Reg.RST_COMMIT then (if v.getLsbD 0 then c.commitGo pos else c)
    else if isReg Reg.RST_LCMP then (c.writePlain d off v).lcmpPast pos
    else if off = Reg.RST_UFCOL7 then c
    else if isReg Reg.RST_QCTRL || isReg Reg.RST_QLO || isReg Reg.RST_QHI then (c.writePlain d off v).dirty
    else if isReg Reg.PLN_PCTL then c.writePlane d k off v
    else if isReg Reg.PLN_P3CTL then c.writePlane d 3 off v
    else if isReg Reg.PLN_AFFX then
      let c1 := c.writePlain d off v
      { c1 with pic := { c1.pic with affine := { c1.pic.affine with xWritten := true } } }
    else if isReg Reg.PLN_AFFY then
      let c1 := c.writePlain d off v
      { c1 with pic := { c1.pic with affine := { c1.pic.affine with yWritten := true } } }
    else if isReg Reg.SPR_CTL then
      let v1 := fieldOr (decide (512 < bits w 25 16)) (c.reg off) v 25 16
      c.writePlain d off (if c.reg Reg.SPR_CAPS = 0 then v1 &&& ~~~1 else v1)
    else if isReg Reg.LNL_CTL then c.writePlain d off (if c.reg Reg.LNL_CAPS = 0 then v &&& ~~~1 else v)
    else if isReg Reg.CMP_BLEND then c.writePlain d off (fieldOr (decide (5 ≤ bits w 2 0)) (c.reg off) v 2 0)
    else if isReg Reg.CMP_PALDATA then c.writePaldata v
    else if isReg Reg.SCL_CIDX then (if bits w 8 8 = 1 ∧ bits w 1 0 = 3 then c else c.writePlain d off v)
    else if isReg Reg.SCL_CDATA then c.writeCdata v
    else if isReg Reg.BLT_SUBMIT then c.bltSubmit v pos
    else if isReg Reg.BLT_DEAD then
      let old := c.reg off
      let v1 := fieldOr (decide (c.vtotal ≤ bits w 31 20)) old v 31 20
      c.writePlain d off (fieldOr (decide (c.vtotal ≤ bits w 11 0)) old v1 11 0)
    else if h : d.base = Reg.DMA_CHCTL ∧ k < 8 then
      let ch : Fin 8 := ⟨k, h.2⟩
      let st := (c.chan ch).state
      if st = 1 ∨ st = 2 then (if v.getLsbD 1 then c.dmaStop ch else c)
      else if v.getLsbD 0 then c.dmaStart ch pos else c
    else if h : d.base = Reg.DMA_CHPC ∧ k < 8 then
      let st := (c.chan ⟨k, h.2⟩).state
      if st = 1 ∨ st = 2 then c else c.writePlain d off v
    else if isReg Reg.DMA_EVTSET then c.orReg Reg.DMA_EVT (bits w 15 0)
    else if h : d.base = Reg.TMR_CTL ∧ k < 8 then Cell.keepLevel c (c.writeTmrCtl ⟨k, h.2⟩ v) (32 + k) pos
    else if h : d.base = Reg.TMR_CNT ∧ k < 8 then c.writeCnt ⟨k, h.2⟩ v
    else if isReg Reg.TMR_GO then c.tmrGo v
    else if isReg Reg.WDG_KEY then c.wdgKey v
    else if isReg Reg.WDG_CFG then c.wdgValue .cfg v
    else if isReg Reg.WDG_LOAD then c.wdgValue .load v
    else if isReg Reg.WDG_FEED then c.wdgFeed v
    else if h : d.base = Reg.AUD_SVCTL ∧ k < 32 then c.writeSvCtl ⟨k, h.2⟩ v
    else if h : d.base = Reg.AUD_SVPOS ∧ k < 32 then c.writeSvPos ⟨k, h.2⟩ v
    else if isReg Reg.AUD_SVSTRM then Cell.keepLevel c (c.writePlain d off v) k pos
    else if isReg Reg.AUD_SVVOL || isReg Reg.AUD_WVVOL then
      c.writePlain d off (fieldOr (decide (0x8000 < bits w 15 0)) (c.reg off) v 15 0)
    else if h : d.base = Reg.AUD_WVCTL ∧ k < 8 then c.writeWvCtl ⟨k, h.2⟩ v
    else if isReg Reg.AUD_PDATA then c.pdataWrite v
    else if isReg Reg.AUD_SWAP then (if v.getLsbD 0 then c.swapGo else c)
    else if isReg Reg.INP_POP then (if v.getLsbD 0 then c.inpPop else c)
    else if isReg Reg.INP_RPTSEND then c.rptSend v
    else if isReg Reg.STIM_PORT then c.stimWrite k v pos
    else c.writePlain d off v

/-- Is a word store to this offset a dirty event: any word offset of the PLN, SPR, CMP, SCL or LNL blocks, or RST_COMMIT
(R84)? -/
def dirtyOffset (off : Nat) : Bool :=
  let b := off / 0x1000
  (2 ≤ b && b ≤ 6) || off == Reg.RST_COMMIT

/-- A processor or debugger word store to the register blocks (R37, R84, R430). -/
def Cell.storeReg (c : Cell) (off : Nat) (v : Word) (pos : Nat) : Cell :=
  let c1 := Cell.markSkips c (c.writeReg off v pos) pos
  let c2 := { c1 with evt := { c1.evt with last := pos } }
  if dirtyOffset off then c2.dirty else c2

end Sys2Proof.Machine
end

