-- ==== Sys2Proof/Machine/Operands.lean ====
section
/-! DEFINITION. The arithmetic of the cell processor's instructions: RV32I, M, Zba and Zbb (R26). -/

namespace Sys2Proof.Machine

/-- Sign-extend an immediate or an offset to a word. -/
def sext {n : Nat} (v : BitVec n) : Word := v.signExtend 32

def rotl (a : Word) (k : Nat) : Word := (a <<< (k % 32)) ||| (a >>> ((32 - k % 32) % 32))

def rotr (a : Word) (k : Nat) : Word := (a >>> (k % 32)) ||| (a <<< ((32 - k % 32) % 32))

/-- Register-register operations. -/
def aluOp (op : AluOp) (a b : Word) : Word :=
  let sh := b.toNat % 32
  match op with
  | .add => a + b
  | .sub => a - b
  | .sll => a <<< sh
  | .slt => if a.slt b then 1 else 0
  | .sltu => if a.ult b then 1 else 0
  | .xor => a ^^^ b
  | .srl => a >>> sh
  | .sra => a.sshiftRight sh
  | .or => a ||| b
  | .and => a &&& b
  | .sh1add => (a <<< 1) + b
  | .sh2add => (a <<< 2) + b
  | .sh3add => (a <<< 3) + b
  | .andn => a &&& ~~~b
  | .orn => a ||| ~~~b
  | .xnor => ~~~(a ^^^ b)
  | .max => if a.slt b then b else a
  | .maxu => if a.ult b then b else a
  | .min => if a.slt b then a else b
  | .minu => if a.ult b then a else b
  | .rol => rotl a sh
  | .ror => rotr a sh

/-- Register-immediate operations. -/
def immOp (op : ImmOp) (a : Word) (v : BitVec 12) : Word :=
  let b := sext v
  match op with
  | .addi => a + b
  | .slti => if a.slt b then 1 else 0
  | .sltiu => if a.ult b then 1 else 0
  | .xori => a ^^^ b
  | .ori => a ||| b
  | .andi => a &&& b

def shiftOp (op : ShiftOp) (a : Word) (k : BitVec 5) : Word :=
  match op with
  | .slli => a <<< k.toNat
  | .srli => a >>> k.toNat
  | .srai => a.sshiftRight k.toNat
  | .rori => rotr a k.toNat

/-- Number of leading zeros of a word. -/
def leadingZeros (a : Word) : Nat := if a = 0 then 32 else 31 - a.toNat.log2

/-- Number of trailing zeros: the leading zeros of the mirrored word. -/
def trailingZeros (a : Word) : Nat := ((List.range 32).find? fun i => a.getLsbD i).getD 32

def popCount (a : Word) : Nat := ((List.range 32).filter fun i => a.getLsbD i).length

/-- A word from its four bytes, each mapped by `f`, lowest first; `rev` reverses their order. -/
def mapBytes (f : Nat → Nat) (rev : Bool) (a : Word) : Word :=
  let bs := (List.range 4).map fun i => f (a.toNat / 256 ^ i % 256)
  let bs := if rev then bs.reverse else bs
  BitVec.ofNat 32 (bs.foldr (fun b acc => b + 256 * acc) 0)

def unaryOp (op : UnaryOp) (a : Word) : Word :=
  match op with
  | .clz => BitVec.ofNat 32 (leadingZeros a)
  | .ctz => BitVec.ofNat 32 (trailingZeros a)
  | .cpop => BitVec.ofNat 32 (popCount a)
  | .sextB => (a.setWidth 8).signExtend 32
  | .sextH => (a.setWidth 16).signExtend 32
  | .zextH => (a.setWidth 16).setWidth 32
  | .orcB => mapBytes (fun b => if b = 0 then 0 else 255) false a
  | .rev8 => mapBytes id true a

def mulOp (op : MulOp) (a b : Word) : Word :=
  match op with
  | .mul => a * b
  | .mulh => BitVec.ofInt 32 (a.toInt * b.toInt / 2 ^ 32)
  | .mulhsu => BitVec.ofInt 32 (a.toInt * (b.toNat : Int) / 2 ^ 32)
  | .mulhu => BitVec.ofNat 32 (a.toNat * b.toNat / 2 ^ 32)

/-- Division: a zero divisor gives all ones or the dividend, signed overflow the dividend or 0, as the M extension
defines them. -/
def divOp (op : DivOp) (a b : Word) : Word :=
  match op with
  | .div => if b = 0 then ~~~0 else BitVec.ofInt 32 (a.toInt.tdiv b.toInt)
  | .divu => if b = 0 then ~~~0 else BitVec.ofNat 32 (a.toNat / b.toNat)
  | .rem => if b = 0 then a else BitVec.ofInt 32 (a.toInt.tmod b.toInt)
  | .remu => if b = 0 then a else BitVec.ofNat 32 (a.toNat % b.toNat)

def branchTaken (op : BranchOp) (a b : Word) : Bool :=
  match op with
  | .beq => a == b
  | .bne => a != b
  | .blt => a.slt b
  | .bge => !(a.slt b)
  | .bltu => a.ult b
  | .bgeu => !(a.ult b)

end Sys2Proof.Machine

namespace Sys2Proof

/-- Bytes that a load or a store moves. -/
def LoadOp.bytes : LoadOp → Nat
  | .lb => 1
  | .lbu => 1
  | .lh => 2
  | .lhu => 2
  | .lw => 4

def StoreOp.bytes : StoreOp → Nat
  | .sb => 1
  | .sh => 2
  | .sw => 4

/-- What a load makes of the bytes it read. -/
def LoadOp.extend (op : LoadOp) (v : Nat) : Word :=
  match op with
  | .lb => (BitVec.ofNat 8 v).signExtend 32
  | .lh => (BitVec.ofNat 16 v).signExtend 32
  | .lw => BitVec.ofNat 32 v
  | .lbu => BitVec.ofNat 32 (v % 256)
  | .lhu => BitVec.ofNat 32 (v % 65536)

end Sys2Proof
end

