-- ==== Sys2Proof/Machine/RvDecode.lean ====
section
/-! DEFINITION. The instruction that a word spells, for the words that a debugger injects (R26, R434): RV32I with M, C,
Zicsr, Zba and Zbb, as the RISC-V unprivileged specification encodes them. -/

namespace Sys2Proof.Machine

/-- A decoded injected word. -/
inductive Inj where
  | alu (i : AluInstr)
  | mul (op : MulOp) (rd a b : Reg)
  | div (op : DivOp) (rd a b : Reg)
  | load (op : LoadOp) (rd a : Reg) (off : BitVec 12)
  | store (op : StoreOp) (a b : Reg) (off : BitVec 12)
  | csr (op : CsrOp) (csr : BitVec 12) (rd : Reg) (src : CsrSrc)
  | fence
  /-- Branches, jumps, MRET, WFI, ECALL and EBREAK: never injected. -/
  | refused
  | illegal
  deriving DecidableEq, Repr

/-- A register number from five bits. -/
def regOf (n : Nat) : Reg := ⟨n % 32, by omega⟩

/-- Register-register operations by funct7 and funct3. -/
def rvOp (f7 f3 : Nat) (rd a b : Reg) : Inj :=
  let r := fun op => Inj.alu (.reg op rd a b)
  match f7, f3 with
  | 0x00, 0 => r .add
  | 0x00, 1 => r .sll
  | 0x00, 2 => r .slt
  | 0x00, 3 => r .sltu
  | 0x00, 4 => r .xor
  | 0x00, 5 => r .srl
  | 0x00, 6 => r .or
  | 0x00, 7 => r .and
  | 0x20, 0 => r .sub
  | 0x20, 4 => r .xnor
  | 0x20, 5 => r .sra
  | 0x20, 6 => r .orn
  | 0x20, 7 => r .andn
  | 0x10, 2 => r .sh1add
  | 0x10, 4 => r .sh2add
  | 0x10, 6 => r .sh3add
  | 0x05, 4 => r .min
  | 0x05, 5 => r .minu
  | 0x05, 6 => r .max
  | 0x05, 7 => r .maxu
  | 0x30, 1 => r .rol
  | 0x30, 5 => r .ror
  | 0x04, 4 => if b = 0 then .alu (.unary .zextH rd a) else .illegal
  | 0x01, 0 => .mul .mul rd a b
  | 0x01, 1 => .mul .mulh rd a b
  | 0x01, 2 => .mul .mulhsu rd a b
  | 0x01, 3 => .mul .mulhu rd a b
  | 0x01, 4 => .div .div rd a b
  | 0x01, 5 => .div .divu rd a b
  | 0x01, 6 => .div .rem rd a b
  | 0x01, 7 => .div .remu rd a b
  | _, _ => .illegal

/-- Register-immediate operations by funct3 and the 12-bit immediate. -/
def rvImm (f3 imm : Nat) (rd a : Reg) : Inj :=
  let i := fun op => Inj.alu (.imm op rd a (BitVec.ofNat 12 imm))
  let s := fun op => Inj.alu (.shift op rd a (BitVec.ofNat 5 imm))
  match f3 with
  | 0 => i .addi
  | 2 => i .slti
  | 3 => i .sltiu
  | 4 => i .xori
  | 6 => i .ori
  | 7 => i .andi
  | 1 =>
    if imm / 32 = 0 then s .slli
    else match imm with
      | 0x600 => .alu (.unary .clz rd a)
      | 0x601 => .alu (.unary .ctz rd a)
      | 0x602 => .alu (.unary .cpop rd a)
      | 0x604 => .alu (.unary .sextB rd a)
      | 0x605 => .alu (.unary .sextH rd a)
      | _ => .illegal
  | _ =>
    if imm / 32 = 0 then s .srli
    else if imm / 32 = 0x20 then s .srai
    else if imm / 32 = 0x30 then s .rori
    else if imm = 0x287 then .alu (.unary .orcB rd a)
    else if imm = 0x698 then .alu (.unary .rev8 rd a)
    else .illegal

/-- SYSTEM instructions. -/
def rvSystem (w f3 : Nat) (rd a : Reg) : Inj :=
  let op : Option CsrOp := if f3 % 4 = 1 then some .rw else if f3 % 4 = 2 then some .rs else if f3 % 4 = 3 then some .rc
    else none
  match op with
  | some o => .csr o (BitVec.ofNat 12 (bits w 31 20)) rd (if f3 < 4 then .reg a else .imm (BitVec.ofNat 5 a.val))
  | none => if w = 0x73 ∨ w = 0x00100073 ∨ w = 0x30200073 ∨ w = 0x10500073 then .refused else .illegal

/-- A 32-bit instruction. -/
def rvDecode32 (w : Nat) : Inj :=
  let rd := regOf (bits w 11 7)
  let a := regOf (bits w 19 15)
  let b := regOf (bits w 24 20)
  let f3 := bits w 14 12
  let f7 := bits w 31 25
  match bits w 6 0 with
  | 0x33 => rvOp f7 f3 rd a b
  | 0x13 => rvImm f3 (bits w 31 20) rd a
  | 0x37 => .alu (.lui rd (BitVec.ofNat 20 (bits w 31 12)))
  | 0x17 => .alu (.auipc rd (BitVec.ofNat 20 (bits w 31 12)))
  | 0x6F => .refused
  | 0x67 => if f3 = 0 then .refused else .illegal
  | 0x63 => if f3 = 2 ∨ f3 = 3 then .illegal else .refused
  | 0x03 =>
    let ld := fun op => Inj.load op rd a (BitVec.ofNat 12 (bits w 31 20))
    match f3 with
    | 0 => ld .lb
    | 1 => ld .lh
    | 2 => ld .lw
    | 4 => ld .lbu
    | 5 => ld .lhu
    | _ => .illegal
  | 0x23 =>
    let st := fun op => Inj.store op a b (BitVec.ofNat 12 (f7 * 32 + bits w 11 7))
    match f3 with
    | 0 => st .sb
    | 1 => st .sh
    | 2 => st .sw
    | _ => .illegal
  | 0x0F => if f3 = 0 then .fence else .illegal
  | 0x73 => rvSystem w f3 rd a
  | _ => .illegal

/-- The three-bit register field of a compressed instruction. -/
def regC (n : Nat) : Reg := regOf (8 + n % 8)

/-- A 12-bit immediate sign-extended from `n` bits. -/
def immC (n v : Nat) : BitVec 12 := BitVec.ofNat 12 (wrap 12 (signed n v))

/-- Compressed instructions of quadrant 1 on registers x8 to x15. -/
def rvArithC (w : Nat) : Inj :=
  let rd := regC (bits w 9 7)
  let b := regC (bits w 4 2)
  let hi := bits w 12 12
  let sh := BitVec.ofNat 5 (bits w 6 2)
  match bits w 11 10 with
  | 0 => if hi = 0 then .alu (.shift .srli rd rd sh) else .illegal
  | 1 => if hi = 0 then .alu (.shift .srai rd rd sh) else .illegal
  | 2 => .alu (.imm .andi rd rd (immC 6 (hi * 32 + bits w 6 2)))
  | _ =>
    if hi = 1 then .illegal
    else match bits w 6 5 with
      | 0 => .alu (.reg .sub rd rd b)
      | 1 => .alu (.reg .xor rd rd b)
      | 2 => .alu (.reg .or rd rd b)
      | _ => .alu (.reg .and rd rd b)

/-- A compressed instruction. -/
def rvDecode16 (w : Nat) : Inj :=
  let rd := regOf (bits w 11 7)
  let b := regOf (bits w 6 2)
  let imm6 := bits w 12 12 * 32 + bits w 6 2
  match bits w 1 0, bits w 15 13 with
  | 0, 0 =>
    let u := bits w 12 11 * 16 + bits w 10 7 * 64 + bits w 6 6 * 4 + bits w 5 5 * 8
    if u = 0 then .illegal else .alu (.imm .addi (regC (bits w 4 2)) 2 (BitVec.ofNat 12 u))
  | 0, 2 =>
    .load .lw (regC (bits w 4 2)) (regC (bits w 9 7)) (BitVec.ofNat 12 (bits w 12 10 * 8 + bits w 6 6 * 4 + bits w 5 5 * 64))
  | 0, 6 =>
    .store .sw (regC (bits w 9 7)) (regC (bits w 4 2)) (BitVec.ofNat 12 (bits w 12 10 * 8 + bits w 6 6 * 4 + bits w 5 5 * 64))
  | 1, 0 => .alu (.imm .addi rd rd (immC 6 imm6))
  | 1, 1 => .refused
  | 1, 2 => .alu (.imm .addi rd 0 (immC 6 imm6))
  | 1, 3 =>
    if bits w 11 7 = 2 then
      let v := bits w 12 12 * 512 + bits w 6 6 * 16 + bits w 5 5 * 64 + bits w 4 3 * 128 + bits w 2 2 * 32
      if v = 0 then .illegal else .alu (.imm .addi 2 2 (immC 10 v))
    else if imm6 = 0 then .illegal else .alu (.lui rd (BitVec.ofNat 20 (wrap 20 (signed 6 imm6))))
  | 1, 4 => rvArithC w
  | 1, _ => .refused
  | 2, 0 => if bits w 12 12 = 0 then .alu (.shift .slli rd rd (BitVec.ofNat 5 (bits w 6 2))) else .illegal
  | 2, 2 =>
    if rd = 0 then .illegal
    else .load .lw rd 2 (BitVec.ofNat 12 (bits w 12 12 * 32 + bits w 6 4 * 4 + bits w 3 2 * 64))
  | 2, 4 =>
    if bits w 12 12 = 0 then
      (if b = 0 then (if rd = 0 then .illegal else .refused) else .alu (.reg .add rd 0 b))
    else if b = 0 then .refused else .alu (.reg .add rd rd b)
  | 2, 6 => .store .sw 2 b (BitVec.ofNat 12 (bits w 12 9 * 4 + bits w 8 7 * 64))
  | _, _ => .illegal

/-- The instruction that an injected word spells; a compressed one stands in bits 15:0.
DESIGN CHOICE, safe, log entry 4. -/
def rvDecode (w : Word) : Inj := if w.toNat % 4 = 3 then rvDecode32 w.toNat else rvDecode16 (w.toNat % 65536)

end Sys2Proof.Machine
end

