-- ==== Sys2Proof/Machine/CellCpu.lean ====
section
/-! DEFINITION. The cell processor: fetch, retirement, traps, the instructions, CSRs, waits and interrupts
(02_cell_processor_and_beam_time.md). -/

namespace Sys2Proof.Machine

/-! ## Registers and time -/

/-- Register r; x0 reads 0. -/
def Cell.x (c : Cell) (r : Reg) : Word := if r = 0 then 0 else c.cpu.x[r]

/-- Write register r; x0 ignores writes. -/
def Cell.setX (c : Cell) (r : Reg) (v : Word) : Cell :=
  if r = 0 then c else { c with cpu := { c.cpu with x := c.cpu.x.set r.val v } }

/-- Position of slot `k` of a line list running in line `l` (R127). -/
def Cell.slotPos (c : Cell) (l k : Nat) : Nat := l * c.cpl + c.hbstart + 16 + 4 * k

/-- Position of the next slot of the captured list, if one is left. DESIGN CHOICE, safe, log entry 3. -/
def Cell.nextSlot (c : Cell) : Option Nat := match c.pic.lnl with
  | some r => if r.next < r.slots.length then some (c.slotPos (c.beam.started - 1) r.next) else none
  | none => none

/-- Does a tick of timer n that is due lie before a write at position `p`: in an earlier cycle for a write of a count or of
TMR_STAT, which the tick of its own cycle follows, and in that cycle at the latest for the other registers (R11, R199)? -/
def Cell.tickBefore (c : Cell) (n : Fin 8) (off p : Nat) : Bool :=
  let own := off == Reg.TMR_STAT || (decide (off < Reg.TMR_GO) && off % 0x20 == Reg.TMR_CNT % 0x20)
  let late := if own && c.timerOn n.val 0 then c.beam.fpos - p else 0
  c.tickDue n && decide (c.tmrDiv n.val ≤ c.tmr.presc[n] - late)

/-- The position that RST_LCMP holds (R87). -/
def Cell.lcmpPos (c : Cell) : Nat := c.fld Reg.RST_LCMP 31 20 * c.cpl + c.fld Reg.RST_LCMP 19 0

/-- Does it lie in the line that the beam is in, not yet compared?. DEDUCED, unsafe, log entry 50. -/
def Cell.lcmpDue (c : Cell) : Bool :=
  decide (c.fld Reg.RST_LCMP 31 20 + 1 = c.beam.started) && decide (c.fld Reg.RST_LCMP 19 0 < c.cpl) &&
    decide (c.evt.lcmpFrom ≤ c.lcmpPos)

/-- Does an event that has not been handled lie at or before a register write at position `p` (R89, R132, R182, R199)?
DESIGN CHOICE, safe, log entry 3. -/
def Cell.eventBefore (c : Cell) (off p : Nat) : Bool :=
  let block := off / 0x1000
  decide (c.counted ≤ p) || (decide (c.beam.started < c.vtotal) && decide (c.beam.started * c.cpl ≤ p)) ||
    (match c.nextSlot with
    | some q => decide (q < p)
    | none => false) ||
    (block == 0xB && match c.nextBoundary with
    | some q => decide (q ≤ p)
    | none => false) ||
    (c.lcmpDue && ((off == Reg.RST_LCMP && decide (c.lcmpPos ≤ p)) || (off == Reg.RST_STAT && decide (c.lcmpPos < p)))) ||
    (block == 8 && (List.finRange 8).any fun n => c.dmaReady n && decide ((c.chan n).acts < p)) ||
    (block == 9 && (List.finRange 8).any fun n => c.skipNow n || c.tickBefore n off p)

/-- Let a register store that lies behind a beam event take its effect (R27). DEDUCED, unsafe, log entry 5. -/
def Cell.flush (c : Cell) : Cell := match c.cpu.straddle with
  | some (off, v, p) => { c with cpu := { c.cpu with straddle := none } }.storeReg off v p
  | none => c

/-- The same, once no beam event lies before it any more. DESIGN CHOICE, safe, log entry 3.
DEDUCED, unsafe, log entry 5. -/
def Cell.settle (c : Cell) : Cell := match c.cpu.straddle with
  | some (off, _, p) => if c.eventBefore off p then c else c.flush
  | none => c

def Cell.markStep (c : Cell) : Cell :=
  if c.cpu.dbg.stepping then { c with cpu := { c.cpu with dbg := { c.cpu.dbg with stepped := true } } } else c

/-- An instruction retires: its cycles pass, minstret counts it, pc moves on. DEDUCED, unsafe, log entry 5. -/
def Cell.retire (c : Cell) (cycles : Nat) (pc : Word) : Cell :=
  let c1 := c.advance cycles
  let n := if c1.cpu.ir then c1.cpu.minstret else c1.cpu.minstret + 1
  { c1 with cpu := { c1.cpu with minstret := n, pc := pc } }.markStep

/-! ## Traps (R27, R38, R49) -/

/-- Trap entry: 4 counted cycles; mepc, mcause, mtval; interrupts disabled; pc at mtvec. -/
def Cell.trap (c : Cell) (cause tval epc : Word) : Cell :=
  let c1 := c.advance 4
  let base := c1.cpu.mtvec &&& ~~~3
  let vec := c1.cpu.mtvec.getLsbD 0 && cause.getLsbD 31
  let pc := if vec then base + (cause &&& 0x7FFFFFFF#32) * 4 else base
  { c1 with cpu := { c1.cpu with
      mepc := epc &&& ~~~1, mcause := cause, mtval := tval, mpie := c1.cpu.mie, mie := false, pc := pc } }.markStep

/-- An exception of the instruction at pc. -/
def Cell.except (c : Cell) (cause tval : Word) : Cell := c.trap cause tval c.cpu.pc

/-- An uncorrectable word of a region was read: MEM_UNCORR at the line of the access (R31). -/
def Cell.uncorr (c : Cell) : Cell := c.diverge 0x05 (c.posAt c.beam.fpos).1

/-- Where the fetch of an instruction of `n` bytes at pc fails, and whether an uncorrectable word is the cause
(R31, R34, R49): each halfword of the instruction is fetched by itself. DESIGN CHOICE, safe, log entry 4. -/
def Cell.fetchFault (c : Cell) (n : Nat) : Option (Word × Bool) :=
  ((List.range (n / 2)).map fun i => c.cpu.pc.toNat + 2 * i).findSome? fun a =>
    let addr := BitVec.ofNat 32 a
    if 0x80000 ≤ a then some (addr, false)
    else if c.fenced .pram a (a + 2) then some (addr, false)
    else if c.badIn .pram a (a + 2) then some (addr, true)
    else none

/-- Run an instruction of the processor when it may begin: a straddling store first, then the fetch, then its body, which
gets the address of the next instruction. DESIGN CHOICE, safe, log entry 4. -/
def Cell.instr (c0 : Cell) (short : Bool) (body : Cell → Word → Cell) : Cell :=
  let c := c0.flush
  if !c.cpuReady then c0
  else
    let n := if short then 2 else 4
    match c.fetchFault n with
    | some (a, bad) => (if bad then c.uncorr else c).except 1 a
    | none => body c (c.cpu.pc + BitVec.ofNat 32 n)

/-! ## Instructions -/

def Cell.execAlu (c : Cell) (i : AluInstr) (next : Word) : Cell :=
  let c1 := match i with
    | .reg op rd a b => c.setX rd (aluOp op (c.x a) (c.x b))
    | .imm op rd a v => c.setX rd (immOp op (c.x a) v)
    | .shift op rd a k => c.setX rd (shiftOp op (c.x a) k)
    | .unary op rd a => c.setX rd (unaryOp op (c.x a))
    | .lui rd v => c.setX rd (v.setWidth 32 <<< 12)
    | .auipc rd v => c.setX rd (c.cpu.pc + (v.setWidth 32 <<< 12))
  c1.retire 1 next

def Cell.execMulI (c : Cell) (op : MulOp) (rd a b : Reg) (next : Word) : Cell :=
  (c.setX rd (mulOp op (c.x a) (c.x b))).retire 2 next

def Cell.execDivI (c : Cell) (op : DivOp) (rd a b : Reg) (next : Word) : Cell :=
  (c.setX rd (divOp op (c.x a) (c.x b))).retire 34 next

def Cell.execBranchI (c : Cell) (op : BranchOp) (a b : Reg) (off : BitVec 13) (next : Word) : Cell :=
  if branchTaken op (c.x a) (c.x b) then c.retire 3 (c.cpu.pc + sext off) else c.retire 1 next

def Cell.execJump (c : Cell) (i : JumpInstr) (next : Word) : Cell := match i with
  | .jal rd off => (c.setX rd next).retire 3 (c.cpu.pc + sext off)
  | .jalr rd a off => (c.setX rd next).retire 3 ((c.x a + sext off) &&& ~~~1)

/-- What a data access of `n` bytes at an address meets (R34 to R37, R49): a memory, a register, or an access fault. -/
inductive Access where
  | mem (r : Region) (off : Nat)
  | reg (off : Nat)
  | fault
  deriving DecidableEq, Repr

def Cell.access (c : Cell) (a n : Nat) (isStore : Bool) : Access :=
  if 0x40000000 ≤ a ∧ a < 0x40010000 then (if n = 4 then .reg (a - 0x40000000) else .fault)
  else match locate a with
    | some (.pram, off) => if isStore || c.fenced .pram off (off + n) then .fault else .mem .pram off
    | some (.wram, off) => if c.fenced .wram off (off + n) then .fault else .mem .wram off
    | some (.vram, off) => if c.fenced .vram off (off + n) then .fault else .mem .vram off
    | _ => .fault

/-- Counted cycles of a load from a region (R27). -/
def loadCycles : Region → Nat
  | .vram => 3
  | _ => 2

def Cell.execLoadI (c : Cell) (op : LoadOp) (rd a : Reg) (off : BitVec 12) (next : Word) : Cell :=
  let addr := c.x a + sext off
  let n := op.bytes
  if addr.toNat % n ≠ 0 then c.except 4 addr
  else match c.access addr.toNat n false with
    | .fault => c.except 5 addr
    | .reg o => ((c.readEffect o).setX rd (c.loadReg o)).retire 6 next
    | .mem r o =>
      if c.badIn r o (o + n) then c.uncorr.except 5 addr
      else (c.setX rd (op.extend (leNat ((c.mem.region r).readBytes o n)))).retire (loadCycles r) next

/-- A register store takes effect in its fourth cycle, at once or behind the beam events before it (R27, R132). -/
def Cell.cpuStoreReg (c : Cell) (o : Nat) (v : Word) (next : Word) : Cell :=
  let p := c.beam.fpos + 3
  let c1 := c.retire 4 next
  if c1.eventBefore o p then { c1 with cpu := { c1.cpu with straddle := some (o, v, p) } } else c1.storeReg o v p

def Cell.execStoreI (c : Cell) (op : StoreOp) (a b : Reg) (off : BitVec 12) (next : Word) : Cell :=
  let addr := c.x a + sext off
  let n := op.bytes
  if addr.toNat % n ≠ 0 then c.except 6 addr
  else match c.access addr.toNat n true with
    | .fault => c.except 7 addr
    | .reg o => c.cpuStoreReg o (c.x b) next
    | .mem r o =>
      let c1 := c.writeMem r o (leBytes n (c.x b).toNat)
      let c2 := if r = .vram && c.watched o n then c1.dirty else c1
      c2.retire 1 next

/-! ## CSRs (R32, R33) -/

/-- The value of a CSR, none where the address is not implemented. -/
def Cell.csrRead (c : Cell) (a : Nat) : Option Word :=
  let u := c.cpu
  let lo := fun v : BitVec 64 => v.setWidth 32
  let hi := fun v : BitVec 64 => (v >>> 32).setWidth 32
  let q := c.posAt c.beam.fpos
  if a = 0x301 then some 0x40001104
  else if a = 0xF11 ∨ a = 0xF12 ∨ a = 0xF14 ∨ a = 0x310 then some 0
  else if a = 0xF13 then some 0xB0
  else if a = 0x300 then some (BitVec.ofNat 32 (0x1800 + b2n u.mpie * 128 + b2n u.mie * 8))
  else if a = 0x305 then some u.mtvec
  else if a = 0x304 then some (BitVec.ofNat 32 (b2n u.meie * 2048))
  else if a = 0x344 then some (BitVec.ofNat 32 (b2n c.meipSeen * 2048))
  else if a = 0x340 then some u.mscratch
  else if a = 0x341 then some u.mepc
  else if a = 0x342 then some u.mcause
  else if a = 0x343 then some u.mtval
  else if a = 0xB00 ∨ a = 0xC00 then some (lo u.mcycle)
  else if a = 0xB80 ∨ a = 0xC80 then some (hi u.mcycle)
  else if a = 0xB02 ∨ a = 0xC02 then some (lo u.minstret)
  else if a = 0xB82 ∨ a = 0xC82 then some (hi u.minstret)
  else if a = 0x320 then some (BitVec.ofNat 32 (b2n u.ir * 4 + b2n u.cy))
  else if (0xB03 ≤ a ∧ a ≤ 0xB1F) ∨ (0xB83 ≤ a ∧ a ≤ 0xB9F) ∨ (0x323 ≤ a ∧ a ≤ 0x33F) then some 0
  else if 0x3A0 ≤ a ∧ a ≤ 0x3EF then some 0
  else if a = 0x7C0 then some u.mlwait
  else if a = 0x7C1 then some (BitVec.ofNat 32 (b2n u.intr * 512 + b2n u.passed * 256 + b2n u.mode))
  else if a = 0xFC0 then some (beamWord q)
  else if a = 0xFC1 then some (BitVec.ofNat 32 c.beam.frame)
  else if a = 0xFC2 then some (BitVec.ofNat 32 (q.1 * c.cpl + q.2))
  else none

/-- May a new mtvec be stored (R32)? -/
def mtvecOk (v : Word) : Bool :=
  let mode := v.toNat % 4
  let base := v.toNat / 4 * 4
  decide (mode < 2) && decide (base < 0x80000) && (mode == 0 || base % 64 == 0)

def setLow (v : BitVec 64) (w : Word) : BitVec 64 := (v &&& 0xFFFFFFFF00000000#64) ||| w.setWidth 64

def setHigh (v : BitVec 64) (w : Word) : BitVec 64 := (v &&& 0xFFFFFFFF#64) ||| (w.setWidth 64 <<< 32)

/-- Write a CSR other than mlwait; read-only fields and registers that ignore writes stay as they are. -/
def Cell.csrWrite (c : Cell) (a : Nat) (v : Word) : Cell :=
  let u := c.cpu
  let u1 : Cpu :=
    if a = 0x300 then { u with mie := v.getLsbD 3, mpie := v.getLsbD 7 }
    else if a = 0x305 then (if mtvecOk v then { u with mtvec := v } else u)
    else if a = 0x304 then { u with meie := v.getLsbD 11 }
    else if a = 0x340 then { u with mscratch := v }
    else if a = 0x341 then { u with mepc := v &&& ~~~1 }
    else if a = 0x342 then { u with mcause := v }
    else if a = 0x343 then { u with mtval := v }
    else if a = 0xB00 then { u with mcycle := setLow u.mcycle v }
    else if a = 0xB80 then { u with mcycle := setHigh u.mcycle v }
    else if a = 0xB02 then { u with minstret := setLow u.minstret v }
    else if a = 0xB82 then { u with minstret := setHigh u.minstret v }
    else if a = 0x320 then { u with cy := v.getLsbD 0, ir := v.getLsbD 2 }
    else if a = 0x7C1 then { u with mode := v.getLsbD 0 }
    else u
  { c with cpu := u1 }

/-- mtval of an illegal-instruction exception that the spec does not give (DESIGN CHOICE, safe, log entry 17). -/
def illegalTval (bits : Word) : Word := if Config.illegalTvalHoldsBits then bits else 0

/-- Does a CSR instruction write: CSRRW always, the others unless their source is x0 or 0? -/
def csrWrites (op : CsrOp) (src : CsrSrc) : Bool := match op with
  | .rw => true
  | _ => match src with
    | .reg r => r != 0
    | .imm v => v != 0

/-- Does it read: CSRRW with rd x0 does not? -/
def csrReads (op : CsrOp) (rd : Reg) : Bool := match op with
  | .rw => rd != 0
  | _ => true

def Cell.csrSource (c : Cell) (src : CsrSrc) : Word := match src with
  | .reg r => c.x r
  | .imm v => v.setWidth 32

/-- The value that a CSR instruction writes over `old`. -/
def csrValue (op : CsrOp) (old s : Word) : Word := match op with
  | .rw => s
  | .rs => old ||| s
  | .rc => old &&& ~~~s

/-- The 32 bits of a CSR instruction, as the unprivileged specification encodes it. -/
def csrBits (op : CsrOp) (csr : BitVec 12) (rd : Reg) (src : CsrSrc) : Word :=
  let f := (match op with
    | .rw => 1
    | .rs => 2
    | .rc => 3) + (match src with
    | .reg _ => 0
    | .imm _ => 4)
  let s := match src with
    | .reg r => r.val
    | .imm v => v.toNat
  BitVec.ofNat 32 (csr.toNat * 2 ^ 20 + s * 2 ^ 15 + f * 2 ^ 12 + rd.val * 2 ^ 7 + 0x73)

/-- A CSR instruction on a CSR other than a written mlwait. The instruction's own cycle and retirement come first, so a
value written to mcycle or minstret is what the next instruction reads. -/
def Cell.execCsr (c : Cell) (op : CsrOp) (csr : BitVec 12) (rd : Reg) (src : CsrSrc) (next : Word) : Cell :=
  let a := csr.toNat
  match c.csrRead a with
  | none => c.except 2 (illegalTval (csrBits op csr rd src))
  | some old =>
    if csrWrites op src ∧ 0xC00 ≤ a then c.except 2 (illegalTval (csrBits op csr rd src))
    else
      let v := csrValue op old (c.csrSource src)
      let c1 := (if csrReads op rd then c.setX rd old else c).retire 1 next
      if csrWrites op src then c1.csrWrite a v else c1

/-- Begin the wait of an mlwait write whose target is position `t` (R39); the write's cycle has passed.
DEDUCED, unsafe, log entry 36. -/
def Cell.beginWait (c : Cell) (t : Nat) : Cell :=
  let late := decide (c.counted ≤ c.beam.fpos)
  let n := if late then c.beam.fpos - c.counted else c.beam.fpos
  let frame := c.beam.frame + b2n late
  let passed := decide (t < n)
  let wait : Wait := if t = n then .none else if !passed then .line frame t
    else if c.cpu.mode then .none else .line (frame + 1) t
  { c with cpu := { c.cpu with wait := wait, passed := passed, intr := false } }

/-- A CSR instruction that writes mlwait (R33, R39, R40). -/
def Cell.execMlwait (c : Cell) (op : CsrOp) (rd : Reg) (src : CsrSrc) (next : Word) : Cell :=
  let v := csrValue op c.cpu.mlwait (c.csrSource src)
  let line := bits v.toNat 31 20
  let cyc := bits v.toNat 19 0
  let old := c.cpu.mlwait
  if !(csrWrites op src) then (c.setX rd old).retire 1 next
  else if c.vtotal ≤ line ∨ c.cpl ≤ cyc then c.except 2 v
  else
    let c1 := (if csrReads op rd then c.setX rd old else c).retire 1 next
    { c1 with cpu := { c1.cpu with mlwait := v } }.beginWait (line * c.cpl + cyc)

/-! ## System instructions -/

def Cell.execWfiI (c : Cell) (next : Word) : Cell :=
  let c1 := c.retire 1 next
  if c1.cpu.meie && c1.meipSeen then c1 else { c1 with cpu := { c1.cpu with wait := .wfi } }

/-- MRET: mie from mpie, mpie set, pc from mepc; 4 cycles. -/
def Cell.execMretI (c : Cell) (_next : Word) : Cell :=
  let c1 := c.retire 4 c.cpu.mepc
  { c1 with cpu := { c1.cpu with mie := c1.cpu.mpie, mpie := true } }

/-- Halt the processor at an instruction boundary (R431); each halt is recorded as HALT and traced (R439). -/
def Cell.halt (c : Cell) (cause : Nat) (fresh : Bool) : Cell :=
  let line := (c.posAt c.beam.fpos).1
  let d := { c.cpu.dbg with halted := true, haltReq := false, stepping := false, stepped := false, cause := cause }
  let c1 := { c with cpu := { c.cpu with dbg := d } }
  let c2 := if fresh then c1.diverge 0x08 line else c1
  c2.traceAt 0x03 0 c.beam.fpos c.cpu.pc

/-- EBREAK: a halt while EBRKHALT is 1 at level FULL, the breakpoint exception otherwise (R435).
DESIGN CHOICE, safe, log entry 17. -/
def Cell.execEbreakI (c : Cell) (_next : Word) : Cell :=
  if c.cpu.dbg.ebrkHalt then c.halt 2 (!c.cpu.dbg.stepping)
  else c.except 3 (if Config.ebreakTvalHoldsPc then c.cpu.pc else 0)

/-! ## Waits and interrupts (R39 to R43) -/

/-- Has the beam come to position `t` of frame `f`: its line has started? -/
def Cell.reached (c : Cell) (f t : Nat) : Bool :=
  c.running && !c.cpu.inReset && !c.beam.inPorch && decide (c.beam.frame = f) && c.cpl != 0 &&
    decide (t / c.cpl < c.beam.started) && decide (c.beam.fpos ≤ t)

/-- WAIT_TARGET_REACHED. -/
def Cell.waitReached (c : Cell) : Cell := match c.cpu.wait with
  | .line f t =>
    if c.reached f t && !c.cpu.dbg.halted then
      { c.advanceTo t with cpu := { (c.advanceTo t).cpu with wait := .none } }
    else c
  | _ => c

/-- While a wait holds the processor, counted cycles pass until MEIP shows the event that raised it (R42). -/
def Cell.toIrq (c : Cell) : Cell :=
  if c.cpu.wait != .none && c.meip && c.mayIdleTo c.evt.irqFrom then c.advanceTo c.evt.irqFrom else c

/-- WFI_WAKE: an interrupt is pending in mip and enabled in mie (R27). -/
def Cell.wfiWake (c0 : Cell) : Cell :=
  let c := c0.flush.toIrq
  if c.cpu.wait == .wfi && c.cpu.meie && c.meipSeen && c.running && !c.beam.inPorch then
    { c with cpu := { c.cpu with wait := .none } }
  else c0

/-- Does an mlwait wait still hold at the present position, its target not reached (R41)? -/
def Cell.waiting (c : Cell) : Bool := match c.cpu.wait with
  | .line f t => !(f == c.beam.frame && decide (t ≤ c.beam.fpos))
  | _ => false

/-- INTERRUPT_TAKEN: MEIP pending, enabled, with mstatus.MIE 1, at an instruction boundary (R41, R43).
DEDUCED, unsafe, log entry 36. -/
def Cell.takeInterrupt (c0 : Cell) : Cell :=
  let c := c0.flush.toIrq
  let c1 := { c with cpu := { c.cpu with wait := .none, intr := c.cpu.intr || c.waiting } }
  if c.cpu.mie && c.cpu.meie && c.meipSeen && c1.cpuReady then c1.trap 0x8000000B 0 c.cpu.pc else c0

/-! ## Halt, step and release (R431 to R433) -/

/-- HALT_EFFECT. -/
def Cell.haltEffect (c0 : Cell) : Cell :=
  let c := c0.flush
  if c.cpu.dbg.haltReq && !c.cpu.dbg.halted && !c.beam.inPorch && c.running then c.halt 1 true else c0

/-- Release from a halt; a suspended mlwait wait is evaluated again with the release cycle as n (R433), the watchdog follows
R209, and the release is traced. -/
def Cell.release (c : Cell) (step : Bool) : Cell :=
  let c1 := c.wdgRelease
  let d := { c1.cpu.dbg with halted := false, stepping := step, stepped := false }
  let c2 := { c1 with cpu := { c1.cpu with dbg := d } }
  let c3 := c2.traceAt 0x04 0 c.beam.fpos c.cpu.pc
  match c.cpu.wait with
  | .line _ t => c3.beginWait t
  | _ => c3

/-- STEP_COMPLETE: the one instruction, or the trap entry taken in its place, has completed (R433). -/
def Cell.stepComplete (c0 : Cell) : Cell :=
  let c := c0.flush
  if c.cpu.dbg.stepping && c.cpu.dbg.stepped && !c.beam.inPorch then c.halt 3 false else c0

/-! ## Injected instructions and debugger stores (R430, R434) -/

/-- The exception that an injected instruction would raise. -/
def Cell.injectCause (c : Cell) (i : Inj) : Option Nat := match i with
  | .illegal => some 2
  | .csr op csr _ src =>
    if (c.csrRead csr.toNat).isNone ∨ (csrWrites op src ∧ 0xC00 ≤ csr.toNat) then some 2 else none
  | .load op _ a off =>
    let addr := (c.x a + sext off).toNat
    if addr % op.bytes ≠ 0 then some 4
    else match c.access addr op.bytes false with
      | .fault => some 5
      | .reg _ => none
      | .mem r o => if c.badIn r o (o + op.bytes) then some 5 else none
  | .store op a _ off =>
    let addr := (c.x a + sext off).toNat
    if addr % op.bytes ≠ 0 then some 6
    else match c.access addr op.bytes true with
      | .fault => some 7
      | _ => none
  | _ => none

/-- May a word never be injected: a branch, a jump, MRET, WFI, ECALL, EBREAK or a CSR write to mlwait?
DEDUCED, unsafe, log entry 52. -/
def injectBad (i : Inj) : Bool := match i with
  | .refused => true
  | .csr op csr _ src => csr == 0x7C0 && csrWrites op src
  | _ => false

/-- The body of an injected instruction. DEDUCED, unsafe, log entry 52. -/
def Cell.injectBody (c : Cell) (i : Inj) : Cell := match i with
  | .alu j => c.execAlu j c.cpu.pc
  | .mul op rd a b => c.execMulI op rd a b c.cpu.pc
  | .div op rd a b => c.execDivI op rd a b c.cpu.pc
  | .load op rd a off => c.execLoadI op rd a off c.cpu.pc
  | .store op a b off => c.execStoreI op a b off c.cpu.pc
  | .csr op csr rd src => c.execCsr op csr rd src c.cpu.pc
  | .fence => c.retire 1 c.cpu.pc
  | _ => c

/-- The record of an injected instruction that would raise an exception; a load of an uncorrectable word is a divergence
event as any access to it is (R31). -/
def Cell.injectFault (c : Cell) (i : Inj) (cause : Nat) : Cell :=
  let c1 := match i with
    | .load op _ a off => (match c.access (c.x a + sext off).toNat op.bytes false with
      | .mem _ _ => if cause = 5 then c.uncorr else c
      | _ => c)
    | _ => c
  { c1 with cpu := { c1.cpu with dbg := { c1.cpu.dbg with injExc := true, injCause := cause } } }

/-- minstret after an injected instruction: unchanged, but for what a CSR instruction wrote into a half of it.
DEDUCED, unsafe, log entry 52. -/
def injectedInstret (i : Inj) (before after : BitVec 64) : BitVec 64 := match i with
  | .csr op csr _ src =>
    if csrWrites op src && csr == 0xB02 then setLow before (after.setWidth 32)
    else if csrWrites op src && csr == 0xB82 then setHigh before ((after >>> 32).setWidth 32)
    else before
  | _ => before

/-- Run an injected instruction: its effects, with minstret not counting it; INJEXC and MCAUSE when it would raise an
exception. -/
def Cell.inject (c : Cell) (i : Inj) : Cell :=
  match c.injectCause i with
  | some k => c.injectFault i k
  | none =>
    let c1 := c.injectBody i
    { c1 with cpu := { c1.cpu with
      minstret := injectedInstret i c.cpu.minstret c1.cpu.minstret, dbg := { c1.cpu.dbg with injExc := false, injCause := 0 } } }

/-- A debugger's word store while the processor is halted: a processor word store that may also reach PRAM (R430).
DEDUCED, unsafe, log entry 90. -/
def Cell.debugStore (c : Cell) (r : Region) (off : Nat) (v : Word) : Cell :=
  let c1 := c.writeMem r off (leBytes 4 v.toNat)
  (if r = .vram && c.watched off 4 then c1.dirty else c1).advance 1

end Sys2Proof.Machine
end

