-- ==== Sys2Proof/Machine/CellLine.lean ====
section
/-! DEFINITION. The beam's events: line starts with everything that is aligned to them, line-list slots, fetches, the porch
and frame boundaries (R12, R13, R45, R75 to R88, R105 to R110, R117 to R132, R143 to R150). -/

namespace Sys2Proof.Machine

/-! ## Line lists (R125 to R131) -/

/-- May a line list write this register (R130)? -/
def lnlTarget (off : Nat) : Bool :=
  off == Reg.RST_CL || off == Reg.RST_COMMIT || off == Reg.RST_LCMP ||
    (decide (Reg.RST_UFCOL ≤ off) && decide (off < Reg.RST_UFCOL7)) ||
    (decide (0x2000 ≤ off) && decide (off < 0x6000) &&
      !(off == Reg.CMP_OVCTL || off == Reg.CMP_OVPOS || off == Reg.CMP_OVSIZE))

/-- A condition on the list `r`: 0 OVER, 1 BADTGT, 2 FENCED, 3 RANGE (R129 to R131). -/
def Cell.lnlError (c : Cell) (r : LnlRun) (kind entry : Nat) : Cell :=
  let c1 := if c.reg Reg.LNL_STAT = 0 then
      (c.setReg Reg.LNL_ERR (BitVec.ofNat 32 (r.line * 2 ^ 20 + kind * 256 + entry))).setReg Reg.LNL_ERRFRAME
        (BitVec.ofNat 32 r.frame)
    else c
  c1.orReg Reg.LNL_STAT (2 ^ kind)

/-- The slots of the list that serves line `n`, as VRAM and the LNL registers stand now (R125 to R131). -/
def Cell.lnlSlots (c : Cell) (n : Nat) : List LnlSlot :=
  match c.vread ((c.reg Reg.LNL_DIR).toNat + 4 * n) 4 with
  | .beyond => [.dirError true]
  | .fenced => [.dirError false]
  | .value w =>
    let count := bits w 31 25
    let base := bits w 19 3 * 8
    let lmax := c.fld Reg.LNL_CAPS 6 0
    let slots := (List.range (Nat.min count lmax)).map fun k => match c.vread (base + 8 * k) 8 with
      | .beyond => LnlSlot.entryError true
      | .fenced => .entryError false
      | .value e => .write (bits e 15 2 * 4) (BitVec.ofNat 32 (e / 2 ^ 32))
    if lmax < count then slots ++ [.over lmax] else slots

/-- Fix the list for line `n` of a frame (R128). -/
def Cell.lnlCapture (c : Cell) (n frame : Nat) : Cell :=
  let run : Option LnlRun := if c.rbit Reg.LNL_CTL 0 then some ⟨n, frame, 0, c.lnlSlots n⟩ else none
  { c with pic := { c.pic with lnl := run } }

/-- What slot `k` of list `r` does, at position `p` of the frame (R129 to R132). -/
def Cell.lnlSlot (c : Cell) (r : LnlRun) (k : Nat) (s : LnlSlot) (p : Nat) : Cell := match s with
  | .dirError range => c.lnlError r (if range then 3 else 2) 0x7F
  | .entryError range => c.lnlError r (if range then 3 else 2) k
  | .over lmax => c.lnlError r 0 lmax
  | .write off v => if lnlTarget off then c.writeReg off v p else c.lnlError r 1 k

/-- The next slot of the captured list takes effect in its cycle (R127). -/
def Cell.lnlStep (c : Cell) : Cell := match c.pic.lnl with
  | none => c
  | some r => match r.slots[r.next]? with
    | none => c
    | some s =>
      let p := c.slotPos (c.beam.started - 1) r.next
      let c1 := c.advanceTo p
      { c1 with pic := { c1.pic with lnl := some { r with next := r.next + 1 } } }.lnlSlot r r.next s p

/-- Slots that no command has carried out before the next line begins: at most 65. -/
def Cell.lnlRest (c : Cell) : Cell := (List.range 65).foldl (fun c _ => c.lnlStep) c

/-- The list for line 0 of the first frame, before the first boundary (R127). -/
def Cell.lnlFirst (c : Cell) : Cell :=
  if c.rbit Reg.LNL_CTL 0 then
    let r : LnlRun := ⟨0, 0, 0, c.lnlSlots 0⟩
    r.slots.zipIdx.foldl (fun c q => c.lnlSlot r q.2 q.1 0) c
  else c

/-! ## Fetches (R79 to R81, R102, R104, R106, R108, R142, R165) -/

/-- Start the fetch of a layer's line with settings `b`; `mem` is the store that its addresses `base` up lie in. -/
def Cell.startFetch (c : Cell) (l : FetchLayer) (frame n : Nat) (b : BitmapSet) (mem : Memory) (base : Nat) (now : Bool) :
    Cell :=
  match b.span c.hactive n with
  | none => c
  | some s =>
    let r := roundOut 64 (s.1, s.1 + s.2)
    let ls := (List.range ((r.2 - r.1) / 64)).map fun i => r.1 + 64 * i
    let unread := if l = .ov then [] else ls.filter fun a => c.fenced .asset (a - base) (a - base + 64)
    let f : FetchLine := ⟨l, frame, n, b, r.1, mem.readBytes (r.1 - base) (r.2 - r.1), now, false, [], [], unread⟩
    { c with pic := { c.pic with fetch := c.pic.fetch ++ [f] } }

/-- The overlay set that frame `frame` shows: the staged one from the next boundary on (R143). -/
def Cell.ovSetFor (c : Cell) (frame : Nat) : OvSet :=
  if frame = c.beam.frame then c.pic.overlay.active else c.pic.overlay.staged.getD c.pic.overlay.active

/-- The fetches that start at cycle 0 of line `n` (R79, R85, R102, R142). -/
def Cell.fetchStart (c : Cell) (n : Nat) : Cell :=
  let at' := fun lead : Nat =>
    if n + lead < c.vtotal then (c.beam.frame, n + lead) else (c.beam.frame + 1, n + lead - c.vtotal)
  let go := fun (t : Nat × Nat) => decide (t.2 < c.vactive) && (!c.pic.quiet || decide (t.1 ≠ c.beam.frame))
  let t := at' (c.fld Reg.RST_FETCH 2 0)
  let bm := fun k => if t.1 = c.beam.frame then c.activeBitmap k else c.nextBitmap k
  let c1 := if go t && decide (c.fld Reg.RST_FETCH 2 0 ≠ 0) then
      (c.startFetch .b0 t.1 t.2 (bm 0) c.mem.asset 0x80000000 false).startFetch .b1 t.1 t.2 (bm 1) c.mem.asset 0x80000000
        false
    else c
  let u := at' 2
  let o := c.ovSetFor u.1
  if go u then c1.startFetch .ov u.1 u.2 o.bitmap (if o.buf then c.mem.ovB else c.mem.ovA) 0 false else c1

/-- The fetches of the first lines of the first frame, complete before its boundary (R106). -/
def Cell.fetchFirst (c : Cell) : Cell :=
  (List.range (Nat.min (c.fld Reg.RST_FETCH 2 0) c.vactive)).foldl (fun c n =>
    (c.startFetch .b0 0 n (c.activeBitmap 0) c.mem.asset 0x80000000 true).startFetch .b1 0 n (c.activeBitmap 1) c.mem.asset
      0x80000000 true) c

/-- FETCH_URGENCY: at the urgency point every request for the next line that has not returned is raised and counted
(R80, R88). DEDUCED, unsafe, log entry 32. -/
def Cell.fetchUrgency (c0 : Cell) : Cell :=
  if !c0.running || c0.beam.started == 0 || c0.beam.inPorch then c0
  else
    let c := c0.advanceTo ((c0.beam.started - 1) * c0.cpl + c0.fld Reg.RST_URGWM 19 0)
    let nl := if c.beam.started < c.vtotal then (c.beam.frame, c.beam.started) else (c.beam.frame + 1, 0)
    let hit := fun f : FetchLine => !f.arrived && !f.urgent && decide (f.frame = nl.1 ∧ f.line = nl.2)
    let n := (c.pic.fetch.filter hit).length
    let fetch := c.pic.fetch.map fun f => if hit f then { f with urgent := true } else f
    let c1 := { c with pic := { c.pic with fetch := fetch } }
    (if n = 0 then c1 else c1.raise (.add 0x1B 0x01 n)).settle

/-- Change the first record of a layer's line that satisfies `p`. -/
def changeFirst (p : FetchLine → Bool) (g : FetchLine → FetchLine) : List FetchLine → List FetchLine
  | [] => []
  | f :: r => if p f then g f :: r else f :: changeFirst p g r

/-- FETCH_DATA_RETURN: a line's data arrives and is checked; `bad` are 64-byte lines that mismatch and are read again
(R81, R108). A line that has been shown holds no record, and its data is discarded. -/
def Cell.fetchReturn (c : Cell) (l : FetchLayer) (line : Nat) (bad : List Nat) : Cell :=
  let p := fun f : FetchLine => decide (f.layer = l ∧ f.line = line) && !f.arrived
  let g := fun f : FetchLine =>
    { f with arrived := true, retry := (bad.map fun a => a / 64 * 64).filter fun a =>
        decide (f.base ≤ a ∧ a < f.base + f.data.length) && !f.unread.contains a }
  { c with pic := { c.pic with fetch := changeFirst p g c.pic.fetch } }

/-- TAG_RETRY_RETURN: the second read of a 64-byte line matches or fails (R108). -/
def Cell.retryReturn (c : Cell) (l : FetchLayer) (line addr : Nat) (ok : Bool) : Cell :=
  let a := addr / 64 * 64
  let p := fun f : FetchLine => decide (f.layer = l ∧ f.line = line) && f.retry.contains a
  let g := fun f : FetchLine =>
    { f with retry := f.retry.filter (fun b => b ≠ a), failed := if ok then f.failed else f.failed ++ [a] }
  { c with pic := { c.pic with fetch := changeFirst p g c.pic.fetch } }

/-! ## Commits (R73, R75, R105, R109) -/

/-- Check of both bitmap layers of a copy (R105): which fail. -/
def Cell.checkLayers (c : Cell) (regs : List (Nat × Word)) : Bool × Bool :=
  (c.bitmapFails 0 (bitmapSet regs 0), c.bitmapFails 1 (bitmapSet regs 1))

/-- Does taking the staged copy retire layer k's shown buffer (R109)? -/
def Cell.retires (c : Cell) (k : Nat) (staged : List (Nat × Word)) (fails : Bool × Bool) : Bool :=
  let a := c.activeBitmap k
  let s := bitmapSet staged k
  a.en && (!s.en || pairAt fails k || decide (s.addr ≠ a.addr))

/-- An armed commit is taken at line CL (R75, R105). DEDUCED, unsafe, log entry 48. -/
def Cell.commitTake (c : Cell) : Cell :=
  let staged := frameRegs c.regs
  let fails := c.checkLayers staged
  let pic := { c.pic with
    armed := false, staged := true, stagedRegs := staged, stagedFail := fails, coefStaged := c.pic.coefPend
    retiring := (c.retires 0 staged fails, c.retires 1 staged fails) }
  { c with pic := pic }.orReg Reg.PLN_BSTAT (b2n fails.1 * 16 + b2n fails.2 * 32)

/-- At cycle 0 of line `n`: the commit of line CL, and RST_STAT.CL (R75, R87). -/
def Cell.commitLine (c : Cell) (n : Nat) : Cell :=
  if n = c.clLine then
    let c1 := c.orReg Reg.RST_STAT 4
    if c.pic.armed && decide (c.pic.applyFrame = c.beam.frame + 1) then c1.commitTake else c1
  else c

/-- Layer k's buffer retires at line VACTIVE (R109). -/
def Cell.retireLayer (c : Cell) (k : Nat) : Cell :=
  if pairAt c.pic.retiring k then
    let pic := { c.pic with
      retiring := setPair c.pic.retiring k false, retired := setPair c.pic.retired k true }
    ({ c with pic := pic }.setReg (Reg.PLN_BRET + 0x20 * k) (BitVec.ofNat 32 (c.activeBitmap k).addr)).orReg Reg.PLN_BSTAT
      (2 ^ k)
  else c

/-! ## Overlay staging and signatures (R143 to R150) -/

/-- A frame register takes a value in all three copies: what the operator sets when the overlay stages (R83, R159). -/
def Cell.setAllCopies (c : Cell) (off : Nat) (v : Word) : Cell :=
  let c1 := c.setReg off v
  { c1 with pic := { c1.pic with
    activeRegs := Sparse.put regReset c1.pic.activeRegs off v, stagedRegs := Sparse.put regReset c1.pic.stagedRegs off v } }

/-- At line VACTIVE the submitted overlay set is staged (R143). DEDUCED, unsafe, log entry 47. -/
def Cell.overlayStage (c : Cell) : Cell := match c.pic.overlay.submitted with
  | some (o, f) =>
    if f ≤ c.beam.frame then
      let c1 := { c with pic := { c.pic with overlay := { c.pic.overlay with submitted := none, staged := some o } } }
      ((c1.setAllCopies Reg.RST_UFCOL7 o.ufcol).dirty).raise (.put 0x1C 0x0A (c.beam.frame % 2 ^ 32))
    else c
  | none => c

/-- The result of a tenant region from the active copy (R145, R147). -/
def Cell.regionResult (c : Cell) (k : Nat) : Word :=
  let g := fun off => (c.act (off + 0x20 * k)).toNat
  if bit (g Reg.SIG_RGNCTL) 0 then
    let pos := g Reg.SIG_RGNPOS
    let size := g Reg.SIG_RGNSIZE
    regionCrc c.pic.lines (bits pos 10 0) (bits pos 27 16) (bits size 10 0) (bits size 27 16)
  else 0

/-- Latch a tenant region (R147, R148). -/
def Cell.latchRegion (c : Cell) (k : Nat) : Cell :=
  let r := c.regionResult k
  let ctl := (c.act (Reg.SIG_RGNCTL + 0x20 * k)).toNat
  let c1 := c.setReg (Reg.SIG_RGNRES + 0x20 * k) r
  if bit ctl 0 && bit ctl 1 && r != c.act (Reg.SIG_RGNEXP + 0x20 * k) then c1.orReg Reg.SIG_STAT (2 ^ k) else c1

/-- Latch an operator region: its result, its comparison, and what Keeper receives (R147 to R149).
DEDUCED, unsafe, log entry 49. -/
def Cell.latchOperator (c : Cell) (second : Bool) : Cell :=
  let o := c.pic.overlay
  let g := if second then o.active.rgn7 else o.active.rgn6
  let region := if second then 7 else 6
  let was := if second then o.mism7 else o.mism6
  let r := if g.en then regionCrc c.pic.lines g.x0 g.y0 g.w g.h else 0
  let bad := g.en && g.cmp && r != g.exp
  let ov := if second then { o with mism7 := bad } else { o with mism6 := bad }
  let c1 := { c with pic := { c.pic with overlay := ov } }.raise (.put 0x1D (region + 1) r.toNat)
  let c2 := if bad then c1.raise (.bump 0x1D (region + 3)) else c1
  let c3 := if bad && !was then c2.raise (.regionMismatch region) else c2
  if g.signed then c3.raise (.proof region c.beam.frame r g.exp (g.en && g.cmp)) else c3

/-- The latch of line VACTIVE (R147, R150). DEDUCED, unsafe, log entry 49. -/
def Cell.latchSignatures (c : Cell) : Cell :=
  let c1 := (List.range 6).foldl Cell.latchRegion c
  let c2 := (c1.latchOperator false).latchOperator true
  let crc := c.outCrc c.pic.lines
  let c3 := (c2.setReg Reg.SIG_OUTRES crc).setReg Reg.SIG_FRAME (BitVec.ofNat 32 c.beam.frame)
  (c3.orReg Reg.SIG_STAT 0x40).raise (.put 0x1D 0x0B (c.frameNo * 2 ^ 32 + crc.toNat))

/-! ## The picture of a line (R81, R90, R97, R108, R117, R119, R135) -/

/-- Compose active line `n` of a frame that is not quiet, with what its fetches met. -/
def Cell.showLine (c : Cell) (n : Nat) : Cell :=
  let r := c.composeLine n
  let keep := c.pic.fetch.filter fun f => !decide (f.frame = c.beam.frame ∧ f.line = n)
  let aff := { r.affine with xWritten := false, yWritten := false }
  let pic := { c.pic with lines := c.pic.lines ++ [r.pixels], affine := aff, fetch := keep }
  let c1 := { c with pic := pic, enc := { c.enc with hints := c.enc.hints ++ [r.hint] } }
  let c2 := r.late.foldl (fun c b => if b then c.diverge 0x03 n else c) c1
  let c3 := r.failed.zipIdx.foldl (fun c q =>
    let c := (List.range q.1).foldl (fun c _ => c.diverge 0x04 n) c
    if q.1 ≠ 0 ∧ q.2 < 2 then c.orReg Reg.PLN_BSTAT (2 ^ (6 + q.2)) else c) c2
  if r.uf then c3.underflowed else c3

/-- What the sprite unit reports at cycle 0 of active line `n` (R119, R122). -/
def Cell.sprReport (c : Cell) (n : Nat) : Cell :=
  let zero : SprResult := ⟨0, 0, none, false, false⟩
  if c.pic.quiet then c.sprShow n (c.pic.sprLast.getD n zero)
  else
    let r := match c.pic.spr with
      | some s => if s.line = n then s.res else zero
      | none => zero
    { c with pic := { c.pic with sprLast := c.pic.sprLast ++ [r] } }.sprShow n r

/-- The sprite evaluation that runs during line `n`, for the next line (R117, R119). -/
def Cell.sprNext (c : Cell) (n : Nat) : Cell :=
  let t := if n + 1 = c.vtotal then 0 else n + 1
  let go := decide (t < c.vactive) && (!c.pic.quiet || decide (t = 0))
  { c with pic := { c.pic with spr := if go then some (c.sprEval t) else none } }

/-- Flags of affine start-point writes fall at every line (R97). -/
def Cell.clearAffine (c : Cell) : Cell :=
  { c with pic := { c.pic with affine := { c.pic.affine with xWritten := false, yWritten := false } } }

/-! ## LINE_START (R13) -/

/-- The watchdog, when its count has come to 0: a bark, or a bite (R207). -/
def Cell.wdgDue (c : Cell) : Cell := if c.wdgZero then (if c.tmr.barked then c.bite else c.bark) else c

/-- May a line start: a beam that counts, with a line left in its frame? DESIGN CHOICE, safe, log entry 1. -/
def Cell.lineDue (c : Cell) : Bool := c.running && !c.beam.inPorch && decide (c.beam.started < c.vtotal)

/-- What belongs to the line that ends and has not been carried out by a command of its own. -/
def Cell.lineRest (c : Cell) : Cell := (c.lnlRest.wdgDue).inputApply

/-- Moves and block copies whose visibility line begins (R177, R192). -/
def Cell.visibility (c : Cell) : Cell := ((List.finRange 8).foldl Cell.dmaLine c).bltLine

/-- Everything at line VACTIVE, cycle 0, after the commit of that line (R109, R143, R147). -/
def Cell.blankStart (c : Cell) : Cell := (((c.retireLayer 0).retireLayer 1).latchSignatures).overlayStage

/-- The parts of cycle 0 of line `n` that follow the visibility of writes. -/
def Cell.lineBody (c : Cell) (n : Nat) : Cell :=
  let c1 := { c with beam := { c.beam with started := n + 1 } }
  let c2 := ((((c1.bltWatermark c1.absLine).clockTimers 1 1).wdgLine).reportTake).inputLate n
  let c3 := if n < c.vactive then (if c.pic.quiet then c2.clearAffine else c2.showLine n).sprReport n else c2.clearAffine
  let c4 := c3.commitLine n
  let c5 := if n = c.vactive then c4.blankStart else c4
  let next := if n + 1 = c.vtotal then (0, c.beam.frame + 1) else (n + 1, c.beam.frame)
  ((c5.sprNext n).lnlCapture next.1 next.2).fetchStart n

/-- LINE_START: the beam reaches cycle 0 of the next line. -/
def Cell.lineStart (c : Cell) : Cell :=
  if !c.lineDue then c
  else
    let n := c.beam.started
    (((c.lineRest.advanceTo (n * c.cpl)).visibility).lineBody n).settle

/-! ## Porch and frame boundary (R12, R28, R44, R45, R84, R350) -/

/-- Is the frame's work done: every line has started, every sample boundary has fallen and its program has run, and every
stripe or keep-alive of the frame has closed? DESIGN CHOICE, safe, log entry 1. DEDUCED, safe, log entry 51. -/
def Cell.frameDone (c : Cell) : Bool :=
  c.running && decide (c.beam.started = c.vtotal) && c.nextBoundary.isNone && c.aud.voices.isNone &&
    c.enc.pic == .none && !c.enc.keepDue

/-- The porch that begins: the programmed porch, the correction and what was carried, less the slip taken from it
(R45, R350): length, carry and slip left. -/
def porchSplit (porch : Nat) (delta carry : Int) (slip : Nat) : Nat × Int × Nat :=
  let want := (porch : Int) + delta + carry
  let len := want.toNat
  let cut := Nat.min (Nat.min slip 256) len
  (len - cut, if want < 0 then want else 0, slip - cut)

/-- PORCH_START: the last counted cycle has ended and counting pauses; the slip that is left. -/
def Cell.porchStart (c : Cell) (delta : Int) (slip : Nat) : Cell × Nat :=
  if c.frameDone && !c.beam.inPorch then
    let c1 := c.lineRest.advanceTo c.counted
    let r := porchSplit c.porch delta c.beam.porchCarry slip
    ({ c1 with beam := { c1.beam with inPorch := true, porchLen := r.1, porchCarry := r.2.1 } }, r.2.2)
  else (c, slip)

/-- The frame that ends adds its values to the ID counters and hands them to the meter (R86, R402, R408). -/
def Cell.frameEnd (c0 : Cell) : Cell :=
  let c := c0.lineRest.advanceTo c0.counted
  let s := c.str
  let inc := fun (c : Cell) off k => c.setReg off (c.reg off + BitVec.ofNat 32 k)
  let c1 := inc (if c.pic.quiet then inc c Reg.ID_QFRAMES 1 else inc c Reg.ID_AFRAMES 1) Reg.ID_INPUTS s.inow
  let str := { s with
    vnow := 0, anow := 0, inow := 0, vtot := (s.vtot + s.vnow) % 2 ^ 64, atot := (s.atot + s.anow) % 2 ^ 64
    ctot := (s.ctot + c.counted) % 2 ^ 64 }
  { c1 with str := str }.raise (.frameEnd c.pic.quiet c.counted s.vnow s.anow s.inow)

/-- The beam returns to line 0, cycle 0 of the next frame (R12, R28). -/
def Cell.wrapFrame (c : Cell) : Cell :=
  let strad := c.cpu.straddle.map fun q => (q.1, q.2.1, q.2.2 - c.counted)
  let dma := c.dma.map fun d => { d with acts := d.acts - c.counted }
  let later := fun v : Vector Nat 8 => v.map fun p => p - c.counted
  let tmr := { c.tmr with above := later c.tmr.above, dfrom := later c.tmr.dfrom, dlast := later c.tmr.dlast }
  let beam := { c.beam with fpos := c.beam.fpos - c.counted, started := 0, frame := c.beam.frame + 1, inPorch := false }
  { c with
    beam := beam, cpu := { c.cpu with straddle := strad }, dma := dma, tmr := tmr, aud := { c.aud with next := 0 }
    evt := { c.evt with irqFrom := c.evt.irqFrom - c.counted, acked := [], lcmpFrom := c.evt.lcmpFrom - c.counted } }

/-- The staged commit applies (R75). -/
def Cell.commitApply (c : Cell) : Cell :=
  if c.pic.staged then
    let pic := { c.pic with
      staged := false, activeRegs := c.pic.stagedRegs, activeFail := c.pic.stagedFail, coefActive := c.pic.coefStaged
      retired := (false, false) }
    { c with pic := pic }.orReg Reg.RST_STAT 2
  else c

/-- The staged overlay set becomes active; a comparison that was off begins with a match (R143, R148). -/
def Cell.overlayApply (c : Cell) : Cell := match c.pic.overlay.staged with
  | some o =>
    let v := c.pic.overlay
    let ov := { v with
      staged := none, active := o, mism6 := v.mism6 && v.active.rgn6.cmp, mism7 := v.mism7 && v.active.rgn7.cmp }
    { c with pic := { c.pic with overlay := ov } }
  | none => c

/-- Is the frame that begins quiet (R84)? -/
def Cell.becomesQuiet (c : Cell) (applied : Bool) : Bool :=
  c.rbit Reg.RST_QCTRL 0 && !c.pic.firstFrame && !applied && !c.encoderAsks c.beam.frame && !c.pic.dirty

/-- The picture, encoder and counters at the boundary of the frame that begins. -/
def Cell.beginFrame (c : Cell) : Cell :=
  let applied := c.pic.staged
  let composed := !c.pic.quiet
  let c1 := c.commitApply.overlayApply
  let quiet := c1.becomesQuiet applied
  let pic := c1.pic
  let c2 := { c1 with pic := { pic with
    quiet := quiet, dirty := false, firstFrame := false, quietRun := if quiet then pic.quietRun + 1 else 0
    spr := if quiet then none else pic.spr, sprLast := if quiet then pic.sprLast else []
    fetch := if quiet then pic.fetch.filter (fun f => decide (f.frame ≠ c.beam.frame)) else pic.fetch } }
  let c3 := (c2.encBoundary c.beam.frame quiet composed).clockTimers 2 1
  let c4 := { c3 with pic := { c3.pic with lines := if quiet then c3.pic.lines else [] } }
  if quiet then c4.raise (.bump 0x1B 0x02) else c4

/-- The FRAME packet of a boundary (R439). -/
def Cell.traceFrame (c : Cell) : Cell := if c.rbit Reg.STIM_CTL 0 then c.traceAt 0x02 0 0 0 else c

/-- FRAME_BOUNDARY for a session that goes on. -/
def Cell.nextFrame (c : Cell) : Cell := c.event 0 fun c => ((c.frameEnd.wrapFrame).beginFrame.traceFrame).settle

/-- RST_LCMP_MATCH: the beam comes to the position that RST_LCMP held at the start of the cycle (R87).
DEDUCED, unsafe, log entry 50. -/
def Cell.lcmpMatch (c : Cell) : Cell :=
  let p := c.lcmpPos
  if c.running && !c.beam.inPorch && c.lcmpDue then
    (((if c.mayIdleTo p then c.advanceTo p else c).lcmpPast p).orReg Reg.RST_STAT 8).settle
  else c

/-- LINE_LIST_ENTRY. -/
def Cell.lineListEntry (c : Cell) : Cell :=
  if c.running && !c.beam.inPorch && decide (c.beam.started ≠ 0) then c.lnlStep.settle else c

end Sys2Proof.Machine
end

