-- ==== Sys2Proof/Machine/Packet.lean ====
section
/-! DEFINITION. Ethernet frames, IP and UDP headers, RTP packets and their payload fragments
(11_streams_input_packet_engine.md, R272 to R282). -/

namespace Sys2Proof.Machine

/-! ## Checksums (R273, R274) -/

/-- Sum of a byte string's 16-bit words, most significant byte first, an odd last byte filled with 0. -/
def wordSum : Bytes → Nat
  | a :: b :: r => a.toNat * 256 + b.toNat + wordSum r
  | [a] => a.toNat * 256
  | [] => 0

def fold16 (n : Nat) : Nat := n % 65536 + n / 65536

/-- The one's-complement checksum. -/
def checksum (bs : Bytes) : Nat := 65535 - fold16 (fold16 (wordSum bs)) % 65536

/-! ## Headers -/

/-- What the frames of a session or an answer are sent with (R271 to R274). -/
structure FrameCfg where
  dstMac : Nat
  srcMac : Nat
  vid    : Nat
  pcp    : Nat
  v6     : Bool
  dscp   : Nat
  hop    : Nat
  src    : Nat
  dst    : Nat
  deriving DecidableEq, Repr

/-- An IPv4 or IPv6 header before a UDP datagram of `n` bytes (R273). -/
def ipHeader (f : FrameCfg) (n : Nat) : Bytes :=
  if f.v6 then
    beBytes 4 (6 * 2 ^ 28 + f.dscp * 4 * 2 ^ 20) ++ beBytes 2 n ++ [17, BitVec.ofNat 8 f.hop] ++ beBytes 16 f.src ++
      beBytes 16 f.dst
  else
    let h := fun sum : Nat => [0x45, BitVec.ofNat 8 (f.dscp * 4)] ++ beBytes 2 (20 + n) ++ [0, 0, 0x40, 0,
      BitVec.ofNat 8 f.hop, 17] ++ beBytes 2 sum ++ beBytes 4 f.src ++ beBytes 4 f.dst
    h (checksum (h 0))

/-- A UDP datagram with its checksum, which is never sent as 0 (R274). -/
def udpDatagram (f : FrameCfg) (sport dport : Nat) (payload : Bytes) : Bytes :=
  let n := 8 + payload.length
  let pseudo := if f.v6 then beBytes 16 f.src ++ beBytes 16 f.dst ++ beBytes 4 n ++ [0, 0, 0, 17]
    else beBytes 4 f.src ++ beBytes 4 f.dst ++ [0, 17] ++ beBytes 2 n
  let h := fun sum : Nat => beBytes 2 sport ++ beBytes 2 dport ++ beBytes 2 n ++ beBytes 2 sum
  let s := checksum (pseudo ++ h 0 ++ payload)
  h (if s = 0 then 65535 else s) ++ payload

/-- Fill a frame to 64 bytes with its FCS, which the model leaves out (R272). -/
def padFrame (bs : Bytes) : Bytes := bs ++ List.replicate (60 - bs.length) 0

/-- An Ethernet frame without its FCS (R272). -/
def ethernet (dst src vid pcp typ : Nat) (payload : Bytes) : Bytes :=
  let tag := if vid = 0 then [] else [0x81, 0x00] ++ beBytes 2 (pcp * 8192 + vid)
  padFrame (beBytes 6 dst ++ beBytes 6 src ++ tag ++ beBytes 2 typ ++ payload)

/-- A UDP payload as a frame. -/
def udpFrame (f : FrameCfg) (sport dport : Nat) (payload : Bytes) : Bytes :=
  let u := udpDatagram f sport dport payload
  ethernet f.dstMac f.srcMac f.vid f.pcp (if f.v6 then 0x86DD else 0x0800) (ipHeader f u.length ++ u)

/-! ## Payloads (R279, R280) -/

/-- Cut a byte string into pieces of `n` bytes. -/
def chunks (n : Nat) : Nat → Bytes → List Bytes
  | 0, _ => []
  | fuel + 1, bs => if bs.isEmpty ∨ n = 0 then [] else bs.take n :: chunks n fuel (bs.drop n)

/-- FU-A fragments of an H.264 NAL unit longer than `p` (R279). -/
def fuH264 (p : Nat) (nal : Bytes) : List Bytes :=
  let h := (nal.getD 0 0).toNat
  let cs := chunks (p - 2) nal.length (nal.drop 1)
  cs.zipIdx.map fun q =>
    let se := b2n (decide (q.2 = 0)) * 128 + b2n (decide (q.2 + 1 = cs.length)) * 64
    [BitVec.ofNat 8 (h / 32 * 32 + 28), BitVec.ofNat 8 (se + h % 32)] ++ q.1

/-- FU fragments of an HEVC NAL unit longer than `p` (R279). -/
def fuHevc (p : Nat) (nal : Bytes) : List Bytes :=
  let h := (nal.getD 0 0).toNat
  let cs := chunks (p - 3) nal.length (nal.drop 2)
  cs.zipIdx.map fun q =>
    let se := b2n (decide (q.2 = 0)) * 128 + b2n (decide (q.2 + 1 = cs.length)) * 64
    [BitVec.ofNat 8 (h / 128 * 128 + 98 + h % 2), nal.getD 1 0, BitVec.ofNat 8 (se + h / 2 % 64)] ++ q.1

/-- The payloads of a stripe's NAL units (R279). -/
def nalPayloads (hevc : Bool) (p : Nat) (nals : List Bytes) : List Bytes :=
  nals.flatMap fun n => if n.length ≤ p then [n] else if hevc then fuHevc p n else fuH264 p n

/-- The payloads of an NLC stripe unit (R280). -/
def nlcPayloads (p : Nat) (unit : Bytes) : List Bytes :=
  let cs := chunks (p - 4) unit.length unit
  cs.zipIdx.map fun q =>
    [BitVec.ofNat 8 (b2n (decide (q.2 = 0)) * 128 + b2n (decide (q.2 + 1 = cs.length)) * 64), 0] ++ beBytes 2 q.2 ++ q.1

/-! ## RTP (R275 to R277) -/

/-- Frame timestamps at 90 kHz (R276). -/
def rtpTime (family f : Nat) : Nat := if family = 0 then 1500 * f else if family = 1 then 3003 * f / 2 else 1800 * f

/-- The fields of an RTP header with its extension. -/
structure RtpHead where
  marker : Bool
  pt     : Nat
  seq    : Nat
  ts     : Nat
  ssrc   : Nat
  extid  : Nat
  epoch  : Nat
  stripe : Nat
  flags  : Nat
  check  : Nat
  deriving DecidableEq, Repr

/-- The 32 bytes of an RTP header with its extension (R275, R277). -/
def RtpHead.bytes (h : RtpHead) : Bytes :=
  [0x90, BitVec.ofNat 8 (b2n h.marker * 128 + h.pt)] ++ beBytes 2 h.seq ++ beBytes 4 h.ts ++ beBytes 4 h.ssrc ++
    [0xBE, 0xDE, 0x00, 0x04, BitVec.ofNat 8 (h.extid * 16 + 11)] ++ beBytes 4 h.epoch ++ beBytes 2 h.stripe ++
    [BitVec.ofNat 8 h.flags, 0] ++ beBytes 4 h.check ++ [0, 0, 0]

end Sys2Proof.Machine
end

