-- ==== Sys2Proof/Machine/CellPacket.lean ====
section
/-! DEFINITION. The packet engine of a cell: its stream settings and the packets of its units (R271 to R282, R301). -/

namespace Sys2Proof.Machine

/-! ## Stream settings (R271, R311) -/

/-- A field of the session descriptor. -/
def Cell.desc (c : Cell) (off n : Nat) : Nat := beNat (slice c.sess.desc off n)

def Cell.sessionId (c : Cell) : Nat := c.desc 4 8
def Cell.uplinkIf (c : Cell) : Nat := c.desc 112 1
def Cell.v6 (c : Cell) : Bool := c.desc 113 1 == 6
def Cell.pmtu (c : Cell) : Nat := c.desc 122 2
def Cell.inputDelay (c : Cell) : Nat := c.sess.delay

/-- Largest RTP payload, P (R279). -/
def Cell.maxPayload (c : Cell) : Nat := c.pmtu - (if c.v6 then 40 else 20) - 8 - 12 - 20 - 16

/-- The addresses of the uplink interface that a session's frames leave by (R272). -/
structure UplinkAddr where
  mac : Nat
  ip4 : Nat
  ip6 : Nat
  deriving DecidableEq, Repr

/-- The frame settings of the session's packets with a DSCP (R272, R273). -/
def Cell.frameCfg (c : Cell) (a : UplinkAddr) (dscp dst : Nat) : FrameCfg :=
  ⟨c.desc 130 6, a.mac, c.desc 114 2, c.desc 116 1, c.v6, dscp, c.desc 120 1, if c.v6 then a.ip6 else a.ip4, dst⟩

/-! ## The packets of a unit (R276, R279 to R282) -/

/-- The RTP payloads of a unit. -/
def Cell.unitPayloads (c : Cell) (u : EUnit) : List Bytes := match u.kind with
  | .keepalive => [[]]
  | .audio => u.nals
  | .video =>
    let p := c.maxPayload
    if c.enc.cfg.codec = 2 then u.nals.flatMap (nlcPayloads p) else nalPayloads (c.enc.cfg.codec == 1) p u.nals

/-- FLAGS of packet `i` of `n` (R277). -/
def unitFlags (u : EUnit) (i n : Nat) : Nat := match u.kind with
  | .keepalive => 0x20
  | .audio => 0xC8
  | .video => b2n (decide (i = 0)) * 0x80 + b2n (decide (i + 1 = n)) * 0x40 + b2n u.key * 0x10

/-- Is the unit of the audio stream? -/
def EUnit.isAudio (u : EUnit) : Bool := u.kind == .audio

/-- The RTP header of packet `i` of `n` of a unit (R275 to R277, R282). -/
def Cell.rtpHead (c : Cell) (u : EUnit) (i n : Nat) : RtpHead :=
  let audio := u.isAudio
  { marker := u.kind == .video && u.last && decide (i + 1 = n)
    pt := if audio then c.desc 125 1 else if u.kind = .keepalive then c.desc 126 1 else c.desc 124 1
    seq := if audio then c.str.aseq else c.str.vseq
    ts := (if audio then c.desc 160 4 + u.ts else c.desc 156 4 + rtpTime c.family u.ts) % 2 ^ 32
    ssrc := if audio then c.desc 148 4 else c.desc 144 4
    extid := c.desc 121 1
    epoch := c.str.unitEpoch
    stripe := if u.kind = .video then u.stripe else 0
    flags := unitFlags u i n
    check := if u.kind = .keepalive then 0 else u.check.toNat }

/-- Use `n` sequence numbers of the audio or the video stream; the rollover counter follows (R275, R278). -/
def Cell.useNumbers (c : Cell) (audio : Bool) (n : Nat) : Cell :=
  let s := c.str
  let str := if audio then { s with aseq := (s.aseq + n) % 65536, aroc := s.aroc + (s.aseq + n) / 65536 }
    else { s with vseq := (s.vseq + n) % 65536, vroc := s.vroc + (s.vseq + n) / 65536 }
  { c with str := str }

/-- The unit at the head of the queue leaves it with the numbers of its unsent packets used and nothing sent: a withheld
unit, or one that the device holds back (R301, R345, R355). -/
def Cell.dropUnit (c : Cell) : Cell := match c.str.queue with
  | [] => c
  | u :: rest =>
    let c1 := c.useNumbers u.isAudio ((c.unitPayloads u).length - c.str.sent)
    { c1 with str := { c1.str with queue := rest, sent := 0 } }

/-- Withheld units at the head of the queue leave it. -/
def Cell.dropWithheld (c : Cell) : Cell :=
  c.str.queue.foldl (fun c _ => match c.str.queue with
    | u :: _ => if u.intact then c else c.dropUnit
    | [] => c) c

/-- The Ethernet frame of the next packet of the head unit, with the session's SRTP keys (R272 to R282). -/
def Cell.packetFrame (c : Cell) (a : UplinkAddr) (master salt : Bytes) (u : EUnit) (ps : List Bytes) : Bytes :=
  let h := (c.rtpHead u c.str.sent ps.length).bytes
  let payload := ps.getD c.str.sent []
  let roc := if u.isAudio then c.str.aroc else c.str.vroc
  let sealed := fitBytes (payload.length + 16) (Config.srtpSeal master salt (c.desc 127 1) roc h payload)
  let f := c.frameCfg a (if u.isAudio then c.desc 118 1 else c.desc 117 1) (c.desc 164 16)
  udpFrame f (if u.isAudio then c.desc 140 2 else c.desc 138 2) (c.desc 136 2) (h ++ sealed)

/-- The first packet of a unit fixes the unit's fence epoch (R277). -/
def Cell.fixEpoch (c : Cell) : Cell :=
  if c.str.sent = 0 then { c with str := { c.str with unitEpoch := c.str.epoch } } else c

/-- The packet after which a unit is done leaves the queue with it. -/
def Cell.afterPacket (c : Cell) (u : EUnit) (n : Nat) : Cell :=
  let c1 := c.useNumbers u.isAudio 1
  if c.str.sent + 1 < n then { c1 with str := { c1.str with sent := c.str.sent + 1 } }
  else { c1 with str := { c1.str with sent := 0, queue := c1.str.queue.tail } }

/-- The next packet of the cell's stream: the frame, whether it is audio, and the cell after it; none where no unit
waits or egress is closed. -/
def Cell.nextPacket (c0 : Cell) (a : UplinkAddr) (master salt : Bytes) : Option (Bytes × Bool × Cell) :=
  let c := c0.dropWithheld.fixEpoch
  if !c.str.egress then none
  else match c.str.queue with
    | [] => none
    | u :: _ =>
      let ps := c.unitPayloads u
      some (c.packetFrame a master salt u ps, u.isAudio, c.afterPacket u ps.length)

end Sys2Proof.Machine
end

