-- ==== Sys2Proof/Machine/CellLoad.lean ====
section
/-! DEFINITION. The session image container, the audio graph and its program, and the start of a session
(12_admission_and_session_life.md, R225, R304 to R311). -/

namespace Sys2Proof.Machine

/-! ## The container (R304 to R307) -/

/-- A field of a byte string, most significant byte first. -/
def field (bs : Bytes) (off n : Nat) : Nat := beNat (slice bs off n)

/-- Round up to whole blocks of 4,096 bytes. -/
def blockUp (n : Nat) : Nat := (n + 4095) / 4096 * 4096

/-- First offset at or above `off` whose byte is not 0x00, within `n` bytes. -/
def firstNonzero (bs : Bytes) (off n : Nat) : Option Nat :=
  ((slice bs off n).zipIdx.find? fun q => q.1 != 0).map fun q => off + q.2

/-- Where the parts of an image begin. -/
structure ImageParts where
  blocks  : Nat
  nsect   : Nat
  isSigned : Bool
  siglen  : Nat
  tableEnd : Nat
  dataAt  : Nat
  deriving DecidableEq, Repr

def imageParts (img : Bytes) : ImageParts :=
  let d := field img 8 4
  let t := 4096 + blockUp (32 * d)
  ⟨d, field img 12 2, bit (field img 6 2) 0, field img 40 4, t, t + blockUp (field img 40 4)⟩

/-- An entry of the section table (R306). -/
structure Section where
  typ    : Nat
  first  : Nat
  length : Nat
  dest   : Nat
  deriving DecidableEq, Repr

def sectionAt (img : Bytes) (k : Nat) : Section :=
  let b := 140 + 24 * k
  ⟨field img b 2, field img (b + 4) 4, field img (b + 8) 4, field img (b + 12) 4⟩

def sections (img : Bytes) : List Section := (List.range (field img 12 2)).map (sectionAt img)

/-- Blocks that a section occupies. -/
def Section.blocks (s : Section) : Nat := (s.length + 4095) / 4096

/-- The first entry of the section table, in order, whose blocks lie outside the image or belong to an earlier section:
its number. -/
def badPlacement (d : Nat) (ss : List Section) : Option Nat :=
  (ss.zipIdx.find? fun q =>
    q.1.length != 0 && (decide (d < q.1.first + q.1.blocks) || (ss.take q.2).any fun t =>
      t.length != 0 && decide (q.1.first < t.first + t.blocks ∧ t.first < q.1.first + q.1.blocks))).map Prod.snd

/-- What breaks R304 to R306 in the header block, its fields in the order of their offsets before the blocks that the
sections occupy: the byte offset (R313, code 0x04). DEDUCED, unsafe, log entry 75. -/
def headerFault (img : Bytes) (tenant : Nat) : Option Nat :=
  let p := imageParts img
  let check := fun (bad : Bool) (off : Nat) => if bad then some off else none
  let entry := fun k => (check (field img (140 + 24 * k + 2) 2 != 0) (140 + 24 * k + 2)).or
    (check (field img (140 + 24 * k + 16) 8 != 0) (140 + 24 * k + 16))
  let ss := sections img
  (check (field img 0 4 != 0x53565449) 0).or <|
  (check (field img 4 2 != 1) 4).or <|
  (check (decide (1 < field img 6 2)) 6).or <|
  (check (decide (p.blocks = 0 ∨ 263168 < p.blocks)) 8).or <|
  (check (decide (p.nsect = 0 ∨ 32 < p.nsect)) 12).or <|
  (check (field img 14 2 != 0) 14).or <|
  (check (field img 16 8 != tenant) 16).or <|
  (check (p.siglen != if p.isSigned then 4627 else 0) 40).or <|
  (check (!p.isSigned && field img 44 32 != 0) 44).or <|
  ((List.range p.nsect).findSome? entry).or <|
  (firstNonzero img (140 + 24 * p.nsect) (4096 - (140 + 24 * p.nsect))).or <|
  ((badPlacement p.blocks ss).map fun k => 140 + 24 * k + 4).or <|
  check ((ss.map Section.blocks).sum != p.blocks) 8

/-- The bytes that DIGEST and the signature cover (R307). -/
def signedBytes (img : Bytes) : Bytes :=
  img.take 76 ++ List.replicate 64 0 ++ slice img 140 (4096 - 140) ++ slice img 4096 (32 * field img 8 4)

/-- What Keeper knows when it verifies an image: registered tenant keys by KEYID, and whether the operator requires signed
images of the tenant (R307). -/
structure ImageKeys where
  keys : List (Bytes × Bytes)
  must : Bool
  deriving DecidableEq, Repr

/-- Does the signature of an image fail (R307, R313)? -/
def signatureFails (img : Bytes) (k : ImageKeys) : Bool :=
  let p := imageParts img
  if !p.isSigned then k.must
  else match k.keys.find? fun q => q.1 = slice img 44 32 with
    | none => true
    | some q => !(Config.dsaVerify q.2 [] true (signedBytes img) (slice img p.tableEnd 4627))

/-- The bytes past the end of a section in its last block, as offsets of the image. -/
def sectionPadding (img : Bytes) (b : Nat) : Option Nat :=
  let p := imageParts img
  (sections img).findSome? fun s =>
    if s.length ≠ 0 ∧ b + 1 = s.first + s.blocks then
      firstNonzero img (p.dataAt + s.first * 4096 + s.length) (s.blocks * 4096 - s.length)
    else none

/-- A refusal of an admission: code and detail (R313). -/
abbrev AdmitFault := Nat × Nat

/-- Verify data block `b` (R307). -/
def blockFault (img : Bytes) (b : Nat) : Option AdmitFault :=
  let p := imageParts img
  if fitBytes 32 (Config.sha3256 (slice img (p.dataAt + 4096 * b) 4096)) ≠ slice img (4096 + 32 * b) 32 then some (0x07, b)
  else (sectionPadding img b).map fun o => (0x04, o)

/-! ## The graph (R225, R310) -/

/-- A node of the graph. -/
structure Node where
  kind : Nat
  arg  : Nat
  line : Nat
  ins  : List (Nat × Nat)
  pars : List Word
  deriving DecidableEq, Repr

/-- Do KIND, ARG, NIN and LINE of a record obey R310? -/
def nodeOk (kind arg nin z line : Nat) : Bool :=
  let argOk := if kind = 1 then decide (arg ≤ 39) else if kind = 5 then decide (1 ≤ arg ∧ arg ≤ 8)
    else if kind = 6 ∨ kind = 7 then decide (arg ≤ 15) else arg == 0
  let ninOk := if kind = 1 ∨ kind = 7 then nin == 0 else if kind = 3 then decide (2 ≤ nin ∧ nin ≤ 32)
    else if kind = 8 then nin == 2 else nin == 1
  let lineOk := if kind = 5 then decide (2 ≤ line ∧ line ≤ 65536) else line == 0
  decide (1 ≤ kind ∧ kind ≤ 8) && z == 0 && argOk && ninOk && lineOk

/-- Parameters of a node (R225). -/
def nodeParams (kind arg nin : Nat) : Nat :=
  if kind = 2 ∨ kind = 6 then 1 else if kind = 3 then nin else if kind = 4 then 5 else if kind = 5 then arg else 0

/-- The records of a GRAPH section, or the number of the first that breaks R310. -/
def parseNodes : Nat → Bytes → Nat → Nat ⊕ List Node
  | 0, _, k => .inl k
  | fuel + 1, bs, k =>
    if bs.isEmpty then .inr []
    else
      let kind := field bs 0 1
      let arg := field bs 1 1
      let nin := field bs 2 1
      let np := nodeParams kind arg nin
      let n := 8 + 2 * nin + 4 * np
      if bs.length < n ∨ nodeOk kind arg nin (field bs 3 1) (field bs 4 4) = false then .inl k
      else match parseNodes fuel (bs.drop ((n + 3) / 4 * 4)) (k + 1) with
        | .inl j => .inl j
        | .inr r =>
          let ins := (List.range nin).map fun i => (field bs (8 + 2 * i) 2 % 8192, field bs (8 + 2 * i) 2 / 8192)
          let pars := (List.range np).map fun i => BitVec.ofNat 32 (field bs (8 + 2 * nin + 4 * i) 4)
          .inr (⟨kind, arg, field bs 4 4, ins, pars⟩ :: r)

/-- The nodes of a GRAPH section, with the outputs that inputs name checked (R310). -/
def parseGraph (bs : Bytes) : Nat ⊕ List Node :=
  match parseNodes (bs.length + 1) bs 0 with
  | .inl k => .inl k
  | .inr ns =>
    match ns.zipIdx.find? fun q => q.1.ins.any fun i => i.2 ≠ 0 ∧ (match ns[i.1]? with
        | some t => decide (t.kind ≠ 5 ∨ t.arg ≤ i.2)
        | none => true) = true with
    | some q => .inl q.2
    | none => .inr ns

/-! ## The compiler (R225 to R227; register choice: DESIGN CHOICE, unsafe, log entry 20) -/

/-- One instruction word (R227). -/
def audWord (op d a pi x : Nat) : Word := BitVec.ofNat 32 (op * 2 ^ 26 + d * 2 ^ 21 + a * 2 ^ 16 + pi * 64 + x)

/-- The compiler's state: words so far, where live values stand, next parameter, biquad and delay line, and the delay-line
lengths. DESIGN CHOICE, unsafe, log entry 20. -/
structure Comp where
  words  : List Word
  live   : List ((Nat × Nat) × Nat)
  param  : Nat
  biquads : Nat
  lens   : List Nat
  outs   : Nat
  deriving DecidableEq, Repr

/-- Is a value used by some node from number `k` on? DESIGN CHOICE, unsafe, log entry 20. -/
def usedFrom (ns : List Node) (k : Nat) (v : Nat × Nat) : Bool := (ns.drop k).any fun n => n.ins.contains v

/-- The lowest registers that hold no live value, `n` of them. DESIGN CHOICE, unsafe, log entry 20. -/
def freeRegs (live : List ((Nat × Nat) × Nat)) (n : Nat) : List Nat :=
  ((List.range 32).filter fun r => live.all fun q => q.2 ≠ r).take n

/-- Outputs of a node that stand in registers. -/
def Node.outputs (n : Node) : Nat := if n.kind = 6 ∨ n.kind = 8 then 0 else if n.kind = 5 then n.arg else 1

/-- The instructions of a node whose outputs stand in `ds` and inputs in `as` (R225).
DESIGN CHOICE, unsafe, log entry 20. -/
def Node.emit (n : Node) (ds as : List Nat) (p bq dl : Nat) : List Word :=
  let d := ds.getD 0 0
  let a := as.getD 0 0
  match n.kind with
  | 1 => [audWord 0x01 d 0 0 n.arg]
  | 2 => [audWord 0x06 d a p 0]
  | 3 => as.zipIdx.map fun q => audWord (if q.2 = 0 then 0x06 else 0x07) d q.1 (p + q.2) 0
  | 4 => [audWord 0x09 d a p bq]
  | 5 => audWord 0x0A 0 a 0 dl :: ds.zipIdx.map fun q => audWord 0x0B q.1 0 (p + q.2) dl
  | 6 => [audWord 0x08 0 a p n.arg]
  | 7 => [audWord 0x02 d 0 0 n.arg]
  | _ => [audWord 0x0C a (as.getD 1 0) 0 0]

/-- Compile node `k`: none where the graph breaks a rule of R225 at it. -/
def Comp.node (ns : List Node) (c : Comp) (n : Node) (k : Nat) : Option Comp :=
  let live := c.live.filter fun q => usedFrom ns k q.1
  let as := n.ins.filterMap fun v => (live.find? fun q => q.1 = v).map Prod.snd
  let ds := freeRegs live n.outputs
  let biquads := c.biquads + b2n (n.kind == 4)
  let lens := if n.kind = 5 then c.lens ++ [n.line] else c.lens
  let outs := c.outs + b2n (n.kind == 8)
  if as.length ≠ n.ins.length ∨ ds.length ≠ n.outputs ∨ 64 < biquads ∨ 32 < lens.length ∨ 65536 < lens.sum ∨ 1 < outs then none
  else some
    { words := c.words ++ n.emit ds as c.param c.biquads c.lens.length
      live := live ++ ds.zipIdx.map fun q => ((k, q.2), q.1)
      param := c.param + n.pars.length, biquads := biquads, lens := lens, outs := outs }

/-- Compile the nodes from number `k` on, or the number of the node that breaks R225. -/
def compileFrom (ns : List Node) : List Node → Nat → Comp → Nat ⊕ Comp
  | [], k, c => if c.outs = 1 then .inr c else .inl k
  | n :: r, k, c => match c.node ns n k with
    | none => .inl k
    | some c1 => compileFrom ns r (k + 1) c1

def compileGraph (ns : List Node) : Nat ⊕ Comp := compileFrom ns ns 0 ⟨[], [], 0, 0, [], 0⟩

/-- The program digest of a ticket (R225). -/
def programDigest (ws : List Word) : Bytes := fitBytes 32 (Config.sha3256 (ws.flatMap fun w => beBytes 4 w.toNat))

/-! ## Sections (R306, R308, R309, R313 code 0x08) -/

/-- May a REGS entry target this offset (R309)? -/
def regsTarget (off : Nat) : Bool :=
  off % 4 == 0 && ((lnlTarget off && off != Reg.RST_COMMIT) || off == Reg.LNL_CTL || off == Reg.LNL_DIR ||
    off == Reg.RST_QCTRL || off == Reg.RST_QLO || off == Reg.RST_QHI || off == Reg.BLT_DEAD || off == Reg.BLT_WM)

/-- The entries of a REGS section. -/
def regsEntries (bs : Bytes) : List (Nat × Word) :=
  (List.range (bs.length / 8)).map fun k => (field bs (8 * k) 4, BitVec.ofNat 32 (field bs (8 * k + 4) 4))

/-- The offset of the first REQ field outside the range that R308 gives it by itself; raster, sprite, list, copy and
scaler values have admission codes of their own. -/
def reqFault (r : Bytes) : Option Nat :=
  let f := field r
  let bitmap := decide (f 28 2 ≠ 0 ∨ f 30 2 ≠ 0)
  ([(decide (f 0 1 ≠ 1), 0), (decide (2 < f 1 1), 1), (decide (0x1F < f 2 1), 2),
    (decide (4 < f 3 1) || (!bitmap && f 3 1 != 0), 3), (decide (0x80000 ≤ f 4 4 ∨ f 4 4 % 2 = 1), 4),
    (decide (5120 < f 28 2), 28), (decide (5120 < f 30 2), 30),
    (decide (f 36 4 % 65536 ≠ 0 ∨ 0x40000000 < f 36 4), 36), (decide (1 < f 40 1), 40),
    (decide (1 < f 43 1), 43)].find? fun q => q.1).map Prod.snd

/-- The memory that a section type loads (R306), with the size of the asset window. -/
def sectionRegion (typ assetsz : Nat) : Option (Region × Nat) :=
  if typ = 2 then some (.pram, 0x80000) else if typ = 3 then some (.wram, 0x40000)
  else if typ = 4 then some (.vram, 0xC0000) else if typ = 5 then some (.asset, assetsz) else none

/-- The length that a type fixes. -/
def fixedLength (typ : Nat) : Option Nat :=
  if typ = 1 then some 112 else if typ = 6 then some 16384 else if typ = 7 then some 1792 else none

/-- The contents of a section. -/
def sectionBytes (img : Bytes) (s : Section) : Bytes := slice img ((imageParts img).dataAt + 4096 * s.first) s.length

/-- The contents of the first section of a type. -/
def sectionOf (img : Bytes) (typ : Nat) : Bytes := match (sections img).find? fun s => s.typ = typ with
  | some s => sectionBytes img s
  | none => []

/-- What is wrong with section `k`, if anything: the entry of its detail. -/
def sectionFault (img : Bytes) (ss : List Section) (assetsz : Nat) (s : Section) (k : Nat) : Option Nat :=
  let wrong := fun b : Bool => if b then some 0 else none
  let bs := sectionBytes img s
  if s.typ = 0 ∨ 9 < s.typ then some 0
  else if (s.typ = 1 ∨ 6 ≤ s.typ) ∧ (ss.take k).any (fun t => t.typ = s.typ) = true then some 0
  else if (match fixedLength s.typ with
      | some n => decide (s.length ≠ n)
      | none => s.typ == 9 && s.length % 8 != 0) = true then some 0
  else if s.length = 0 then none
  else match sectionRegion s.typ assetsz with
    | some (r, size) => wrong (decide (s.dest < r.base ∨ r.base + size < s.dest + s.length ∨ (s.typ = 5 ∧ s.dest % 64 ≠ 0)) ||
        (ss.take k).any fun t => t.length != 0 && (sectionRegion t.typ assetsz).isSome &&
          decide (s.dest < t.dest + t.length ∧ t.dest < s.dest + s.length))
    | none =>
      (if s.typ = 1 then reqFault bs
      else if s.typ = 9 then ((regsEntries bs).zipIdx.find? fun q => !(regsTarget q.1.1)).map Prod.snd
      else if s.typ = 8 then (match parseGraph bs with
        | .inl j => some j
        | .inr _ => none)
      else none).or (wrong (decide (s.dest ≠ 0)))

/-- The judgement of all sections: the detail of code 0x08. DEDUCED, unsafe, log entry 75. -/
def sectionsFault (img : Bytes) : Option Nat :=
  let ss := sections img
  let assetsz := field (sectionOf img 1) 36 4
  (ss.zipIdx.findSome? fun q => (sectionFault img ss assetsz q.1 q.2).map fun e => q.2 * 65536 + e % 65536).or
    (([1, 8].find? fun t => !(ss.any fun s => s.typ = t)).map fun t => ss.length * 65536 + t)

/-! ## Loading -/

def Cell.setImage (c : Cell) (i : ImageLoad) : Cell := { c with sess := { c.sess with image := i } }

/-- Write the memory sections (R306). -/
def Cell.loadSections (c : Cell) (img : Bytes) : Cell :=
  (sections img).foldl (fun c s => match sectionRegion s.typ 0x40000000 with
    | some (r, _) => { c with mem := c.mem.setRegion r ((c.mem.region r).writeBytes (s.dest - r.base) (sectionBytes img s)) }
    | none => c) c

/-- The image is whole: its sections are judged and loaded. -/
def Cell.imageWhole (c : Cell) : Cell × Option AdmitFault :=
  let i := c.sess.image
  match sectionsFault i.data with
  | some d => (c, some (0x08, d))
  | none =>
    let s := sectionOf i.data
    ((c.loadSections i.data).setImage
      { i with req := s 1, graph := s 8, regs := s 9, palette := s 6, scaler := s 7, complete := true }, none)

/-- The next check of the image that its bytes allow (R307): none when more bytes are needed. -/
def Cell.imageStep (c : Cell) (k : ImageKeys) : Option (Cell × Option AdmitFault) :=
  let i := c.sess.image
  let p := imageParts i.data
  let n := i.data.length
  if i.stage = 0 then
    if n < 4096 then none
    else some (c.setImage { i with stage := 1 }, (headerFault i.data (c.desc 12 8)).map fun o => (0x04, o))
  else if i.stage = 1 then
    if n < p.tableEnd then none
    else
      let pad := firstNonzero i.data (4096 + 32 * p.blocks) (p.tableEnd - (4096 + 32 * p.blocks))
      let dig := slice i.data 76 64
      let bad := fitBytes 64 (Config.sha3512 (signedBytes i.data)) != dig || dig != slice c.sess.desc 20 64
      some (c.setImage { i with stage := 2 }, match pad with
        | some o => some (0x04, o)
        | none => if bad then some (0x05, 0) else none)
  else if i.stage = 2 then
    if n < p.dataAt then none
    else
      some (c.setImage { i with stage := 3 },
        match firstNonzero i.data (p.tableEnd + p.siglen) (p.dataAt - (p.tableEnd + p.siglen)) with
        | some o => some (0x04, o)
        | none => if signatureFails i.data k then some (0x06, 0) else none)
  else if i.blocks < p.blocks then
    if n < p.dataAt + 4096 * (i.blocks + 1) then none
    else some (c.setImage { i with blocks := i.blocks + 1 }, blockFault i.data i.blocks)
  else if p.dataAt + 4096 * p.blocks < n then some (c, some (0x04, p.dataAt + 4096 * p.blocks))
  else none

/-- The image has ended: it is whole when its last data block has been verified, and broken off where it is not.
DEDUCED, unsafe, log entry 75. -/
def Cell.imageEnd (c : Cell) : Cell × Option AdmitFault :=
  let i := c.sess.image
  if i.stage = 3 ∧ i.blocks = (imageParts i.data).blocks then c.imageWhole else (c, some (0x04, i.data.length))

/-- Run the checks that the bytes allow, until one refuses. -/
def Cell.imageRun (k : ImageKeys) : Nat → Cell → Cell × Option AdmitFault
  | 0, c => (c, none)
  | fuel + 1, c => match c.imageStep k with
    | none => (c, none)
    | some (c1, some f) => (c1, some f)
    | some (c1, none) => Cell.imageRun k fuel c1

/-- The next bytes of the image arrive. -/
def Cell.imageFeed (c : Cell) (k : ImageKeys) (bs : Bytes) : Cell × Option AdmitFault :=
  Cell.imageRun k (bs.length / 4096 + 6) (c.setImage { c.sess.image with data := c.sess.image.data ++ bs })

/-! ## Registers loaded at admission (R308, R309) -/

/-- The registers that the REQ section and the descriptor load. -/
def Cell.loadReq (c : Cell) : Cell :=
  let f := field c.sess.image.req
  let put := fun (c : Cell) (q : Nat × Nat) => c.setReg q.1 (BitVec.ofNat 32 q.2)
  let poly := decide (f 40 1 = 1)
  let nlc := decide (c.desc 84 1 = 2)
  let up16 := fun n : Nat => (n + 15) / 16 * 16
  let regs : List (Nat × Nat) := [
    (Reg.RST_VTIME, f 8 2 * 65536 + f 10 2), (Reg.RST_HTIME, f 12 4), (Reg.RST_HACT, f 16 4 * 4096 + f 20 2),
    (Reg.RST_PORCH, f 1 1 * 1024 + (frameBudget (f 1 1) - f 8 2 * f 12 4)), (Reg.RST_FETCH, f 3 1), (Reg.RST_URGWM, f 32 4),
    (Reg.PLN_CAPS, f 2 1), (Reg.PLN_BCAP, f 28 2), (Reg.PLN_BCAP + 0x20, f 30 2), (Reg.SPR_CAPS, f 24 1 * 65536 + f 22 2),
    (Reg.LNL_CAPS, f 25 1), (Reg.BLT_CAPS, f 26 2),
    (Reg.SCL_CFG, if poly then 1 else f 42 1 * 256 + f 41 1 * 16), (Reg.SCL_CCTL, f 43 1),
    (Reg.SCL_OUT, f 46 2 * 65536 + f 44 2), (Reg.RST_CL, f 10 2), (Reg.CELL_FRAMECYC, f 8 2 * f 12 4),
    (Reg.SCL_HSTEP, if poly then f 20 2 * 65536 / f 44 2 else 0), (Reg.SCL_VSTEP, if poly then f 10 2 * 65536 / f 46 2 else 0),
    (Reg.AUD_OCFG, (if c.desc 101 1 = 0 then c.desc 104 2 else 0) * 65536 + c.desc 102 1 * 2 + c.desc 101 1)]
  let dma := (List.range 8).flatMap fun n =>
    [(Reg.DMA_CHDUE + 0x40 * n, f (48 + 8 * n) 2 * 2 ^ 20 + f (50 + 8 * n) 2), (Reg.DMA_CHQUOTA + 0x40 * n, f (52 + 8 * n) 4)]
  let c1 := (regs ++ dma).foldl put c
  let cfg : EncCfg :=
    { codec := c.desc 84 1, profile := c.desc 85 1, entropy := c.desc 86 1, deblock := decide (c.desc 87 1 = 1), level := 0
      rate := c.desc 88 4, cw := up16 (if nlc then f 20 2 else f 44 2), ch := up16 (if nlc then f 10 2 else f 46 2)
      qpmin := c.desc 92 1, qpmax := c.desc 93 1, cols := c.desc 94 1, rper := c.desc 96 2, ltper := c.desc 95 1
      idrmin := c.desc 98 1, qskip := c.desc 99 1, kaint := c.desc 100 1 }
  { c1 with
    enc := { c1.enc with cfg := cfg }
    pic := { c1.pic with overlay := { c1.pic.overlay with maxW := c.desc 106 2, maxH := c.desc 108 2 } } }

/-- The compiled program, its parameter banks and delay lines (R225, R226). -/
def Cell.loadAudio (c : Cell) (ns : List Node) (p : Comp) : Cell :=
  let pars := ns.flatMap Node.pars
  let bank := pars.zipIdx.foldl (fun m q => Sparse.put (fun _ => (0 : Word)) m q.2 q.1) []
  let c1 := c.setReg Reg.AUD_CAPS (BitVec.ofNat 32 (pars.length * 65536 + p.words.length))
  { c1 with aud := { c1.aud with
    program := p.words, bankP := bank, bankA := bank, delays := p.lens.map fun n => ⟨n, 0, []⟩ } }

/-- PALETTE, SCALER and REGS, as word stores with the tenant program's rights; frame registers and the coefficient table
take their values in all three copies (R306, R309). -/
def Cell.loadTables (c : Cell) : Cell :=
  let i := c.sess.image
  let words := fun bs : Bytes => (List.range (bs.length / 4)).map fun k => BitVec.ofNat 32 (field bs (4 * k) 4)
  let pal := (words i.palette).zipIdx.foldl (fun m q => Sparse.put (fun _ => (0 : Word)) m q.2 q.1) c.pic.palette
  let c1 := { c with pic := { c.pic with palette := pal } }
  let c2 := (words i.scaler).foldl Cell.writeCdata c1
  let c3 := (regsEntries i.regs).foldl (fun c q => c.writeReg q.1 q.2 0) c2
  { c3 with pic := { c3.pic with
    coefStaged := c3.pic.coefPend, coefActive := c3.pic.coefPend
    activeRegs := frameRegs c3.regs, stagedRegs := frameRegs c3.regs } }

/-! ## Session start (R29, R78, R106, R118, R127, R323) -/

/-- START_APPLY: line 0, cycle 0 of the session's first frame, at house time `t`. DEDUCED, unsafe, log entry 50. -/
def Cell.startSession (c : Cell) (t : Nat) : Cell :=
  let entry := field c.sess.image.req 4 4
  let cpu := { Cpu.reset with pc := BitVec.ofNat 32 entry, inReset := false }
  let ids := (c.setReg Reg.ID_SESSLO (BitVec.ofNat 32 c.sessionId)).setReg Reg.ID_SESSHI
    (BitVec.ofNat 32 (c.sessionId / 2 ^ 32))
  let fails := ids.checkLayers ids.pic.activeRegs
  let c1 := { ids.orReg Reg.PLN_BSTAT (b2n fails.1 * 16 + b2n fails.2 * 32) with
    cpu := cpu, beam := Beam.reset
    pic := { ids.pic with activeFail := fails, firstFrame := true, quiet := false }
    str := { ids.str with vseq := c.desc 152 2, aseq := c.desc 154 2 }
    sess := { c.sess with state := .running, pending := none, first := t } }
  let c2 := c1.fetchFirst
  let c3 := { c2 with pic := { c2.pic with spr := some (c2.sprEval 0) } }
  let c4 := c3.lnlFirst.encBoundary 0 false false
  ({ c4 with pic := { c4.pic with firstFrame := false, dirty := false }, evt := EventTimes.reset }).raise .sessState

end Sys2Proof.Machine
end

