-- ==== Sys2Proof/Machine/CellAdmit.lean ====
section
/-! DEFINITION. Admission: the descriptor's ranges, the calculus and the ticket (R311, R313 to R322). -/

namespace Sys2Proof.Machine

/-! ## The descriptor (R271, R311) -/

/-- Is an address a unicast address of its version (R271)? -/
def unicast (v6 : Bool) (d : Nat) : Bool :=
  if v6 then d / 2 ^ 120 != 0xFF && d != 0
  else decide (d < 2 ^ 32 ∧ 0 < d / 2 ^ 24 ∧ d / 2 ^ 24 < 224)

/-- The offset of the first field of a descriptor that lies outside its range (R313, code 0x01). -/
def descFault (d : Bytes) (mode400 : Bool) : Option Nat :=
  let f := field d
  let mir := decide (f 1 1 = 1)
  let codec := f 84 1
  let pt := fun o => decide (f o 1 < 96 ∨ 127 < f o 1)
  let sport := fun o => decide (f o 2 < 1024 ∨ 65534 < f o 2)
  let v6 := decide (f 113 1 = 6)
  let bad : List (Bool × Nat) := [
    (decide (f 0 1 ≠ 1), 0), (decide (1 < f 1 1), 1), (decide ((if mir then 15 else 0) < f 2 1), 2),
    (decide ((if mir then 63 else 0) < f 3 1), 3), (decide (f 4 8 = 0), 4), (decide (2 < codec), 84),
    (decide ((if codec = 0 then 1 else 0) < f 85 1), 85),
    (decide (1 < f 86 1 ∨ (codec = 1 ∧ f 86 1 ≠ 1) ∨ (codec = 2 ∧ f 86 1 ≠ 0)), 86),
    (decide ((if codec = 2 then 0 else 1) < f 87 1), 87), (decide (codec = 2 ∧ f 88 4 ≠ 0), 88),
    (decide (51 < f 92 1), 92), (decide (51 < f 93 1 ∨ f 93 1 < f 92 1), 93), (decide (8 < f 94 1), 94),
    (decide (f 95 1 ≠ 0 ∧ f 95 1 < 8), 95), (decide (f 98 1 = 0), 98),
    (decide ((if codec = 2 then 0 else 8) < f 99 1), 99), (decide (f 100 1 = 0), 100), (decide (1 < f 101 1), 101),
    (decide (4 < f 102 1), 102), (decide (f 103 1 ≠ 0), 103), (decide (f 110 2 ≠ 0), 110),
    (decide (1 < f 112 1 ∨ (mode400 = true ∧ f 112 1 ≠ 0)), 112), (decide (f 113 1 ≠ 4 ∧ f 113 1 ≠ 6), 113),
    (decide (4094 < f 114 2), 114), (decide (7 < f 116 1), 116), (decide (63 < f 117 1), 117),
    (decide (63 < f 118 1), 118), (decide (63 < f 119 1), 119), (decide (f 120 1 = 0), 120),
    (decide (f 121 1 = 0 ∨ 14 < f 121 1), 121), (decide (f 122 2 < (if v6 then 1280 else 576) ∨ 1500 < f 122 2), 122),
    (pt 124, 124), (pt 125 || f 125 1 == f 124 1, 125), (pt 126 || f 126 1 == f 124 1 || f 126 1 == f 125 1, 126),
    (decide (1 < f 127 1), 127), (decide (15 < f 128 1), 128), (decide (1 < f 129 1), 129),
    (decide (f 130 1 % 2 = 1), 130), (decide (f 136 2 = 0), 136), (sport 138, 138), (sport 140 || f 140 2 == f 138 2, 140),
    (decide (f 142 2 ≠ 0), 142), (f 148 4 == f 144 4, 148), (!(unicast v6 (f 164 16)), 164)]
  if d.length ≠ 180 then some 180 else (bad.find? fun q => q.1).map Prod.snd

/-! ## Quantities of the calculus -/

/-- Numerator and denominator of the frame rate (R314). -/
def frameRate (family : Nat) : Nat × Nat := ((framePeriod family).2, (framePeriod family).1)

def ceilDiv (a b : Nat) : Nat := (a + b - 1) / b

/-- T(u) of R314. -/
def tagged (u : Nat) : Nat := u + (u + 7) / 8

/-- Does the session keep a long-term reference: L of R314? -/
def Cell.longRef (c : Cell) : Nat := b2n (decide (c.enc.cfg.ltper ≠ 0))

/-- Units per frame, U (R314), of a cell whose registers are loaded. -/
def Cell.unitsPerFrame (c : Cell) : Nat :=
  let f := field c.sess.image.req
  let row := fun k => let b := f (28 + 2 * k) 2; if b = 0 then 0 else c.vactive * tagged ((b + 62) / 64 + 1)
  let ovw := c.desc 106 2
  let ov := if ovw = 0 then 0 else c.desc 108 2 * tagged ((4 * ovw + 62) / 64 + 1)
  let dma := ((List.range 8).map fun n =>
    let quota := f (52 + 8 * n) 4
    if quota = 0 then 0 else ceilDiv (tagged quota) (f (50 + 8 * n) 2 - 1) * c.vtotal).sum
  let enc := if c.nlc then tagged (ceilDiv (c.hactive * c.vactive * 3) 32)
    else tagged (c.enc.cfg.cw * c.enc.cfg.ch * 3 * (3 + c.longRef) / 128)
  row 0 + row 1 + ov + dma + tagged (f 26 2 * c.vtotal) + enc

/-- The DDR reservation R in MB/s (R314). -/
def Cell.ddrShare (c : Cell) : Nat :=
  let r := frameRate c.family
  ceilDiv (c.unitsPerFrame * 64 * r.1) (r.2 * 1000000)

/-- DDR storage in bytes (R315). -/
def Cell.ddrStorage (c : Cell) : Nat :=
  let up := fun n => ceilDiv n 65536 * 65536
  let ref := if c.nlc then c.hactive * c.vactive * 3 else (1 + c.longRef) * c.enc.cfg.cw * c.enc.cfg.ch * 3 / 2
  let s := up c.assetSize + up (8 * c.desc 106 2 * c.desc 108 2) + up ref
  s + s / 16

/-- Stream share in Mb/s (R318). -/
def Cell.streamShare (c : Cell) : Nat :=
  let r := frameRate c.family
  let a := if c.desc 101 1 = 1 then 2304 else c.desc 104 2
  let v := if c.nlc then c.hactive * c.vactive * 28 * r.1 else c.enc.cfg.rate * 1000 * r.2
  ceilDiv (125 * (v + a * 1000 * r.2)) (100 * 1000 * 1000 * r.2) + 2

/-- DELAY_min (R319) for an edge difference in ns. -/
def Cell.delayMin (c : Cell) (d : Nat) : Nat :=
  let hz := if c.family = 1 then (600000000, 1001) else (600000, 1)
  1 + ceilDiv ((12280 + d) * hz.1) (1000000 * hz.2 * c.cpl)

/-- Encoder load in blocks per frame (R236). -/
def Cell.encLoad (c : Cell) : Nat := c.pictureBlocks

/-- Does the session take its whole ridge (R16, R151)? -/
def Cell.wholeRidge (c : Cell) : Bool := !c.nlc && (decide (1920 < c.ow) || decide (1080 < c.oh))

/-- Counted cycles at which the stripes complete (R156, R239, R264). -/
def Cell.completions (c : Cell) : List Nat := (List.range c.stripes).map fun k => c.stripeLine k * c.cpl

/-! ## Levels (R237; the limits are those of the two standards, PRESUMED, unsafe, log entry 21) -/

/-- H.264: level_idc, macroblocks per second, frame size, decoded picture buffer, and bit rate in kbit/s at the High
profiles' factor. PRESUMED, unsafe, log entry 21. -/
def avcLevels : List (Nat × Nat × Nat × Nat × Nat) := [
  (10, 1485, 99, 396, 80), (11, 3000, 396, 900, 240), (12, 6000, 396, 2376, 480), (13, 11880, 396, 2376, 960),
  (20, 11880, 396, 2376, 2500), (21, 19800, 792, 4752, 5000), (22, 20250, 1620, 8100, 5000),
  (30, 40500, 1620, 8100, 12500), (31, 108000, 3600, 18000, 17500), (32, 216000, 5120, 20480, 25000),
  (40, 245760, 8192, 32768, 25000), (41, 245760, 8192, 32768, 62500), (42, 522240, 8704, 34816, 62500),
  (50, 589824, 22080, 110400, 168750), (51, 983040, 36864, 184320, 300000)]

/-- HEVC, main tier: general_level_idc, picture size, samples per second, bit rate in kbit/s.
PRESUMED, unsafe, log entry 21. -/
def hevcLevels : List (Nat × Nat × Nat × Nat) := [
  (30, 36864, 552960, 128), (60, 122880, 3686400, 1500), (63, 245760, 7372800, 3000), (90, 552960, 16588800, 6000),
  (93, 983040, 33177600, 10000), (120, 2228224, 66846720, 12000), (123, 2228224, 133693440, 20000),
  (150, 8912896, 267386880, 25000), (153, 8912896, 534773760, 40000)]

/-- The level of a stream, none when no level fits or the bit rate is outside R237; 0 for NLC.
PRESUMED, unsafe, log entry 21. -/
def Cell.streamLevel (c : Cell) : Option Nat :=
  let e := c.enc.cfg
  let r := frameRate c.family
  if c.nlc then some 0
  else if e.codec = 1 then
    let s := e.cw * e.ch
    if e.rate < 500 ∨ 40000 < e.rate then none
    else (hevcLevels.find? fun l => decide (s ≤ l.2.1 ∧ e.cw ^ 2 ≤ 8 * l.2.1 ∧ e.ch ^ 2 ≤ 8 * l.2.1 ∧
      s * r.1 ≤ l.2.2.1 * r.2 ∧ e.rate ≤ l.2.2.2)).map Prod.fst
  else
    let w := e.cw / 16
    let h := e.ch / 16
    if e.rate < 500 ∨ 60000 < e.rate then none
    else (avcLevels.find? fun l => decide (w * h ≤ l.2.2.1 ∧ w ^ 2 ≤ 8 * l.2.2.1 ∧ h ^ 2 ≤ 8 * l.2.2.1 ∧
      w * h * r.1 ≤ l.2.1 * r.2 ∧ (1 + c.longRef) * (w * h) ≤ l.2.2.2.1 ∧ e.rate ≤ l.2.2.2.2)).map Prod.fst

/-! ## Checks (R313, third group) -/

/-- What the device and the ring hold while a session is judged. -/
structure AdmitEnv where
  family  : Nat
  acquire : Bool
  ddrGiB  : Nat
  speed   : Nat
  /-- Reservations of the other cells admitted on the device, and of those of the cell's ridge. -/
  others  : List Reserve
  mates   : List Reserve
  /-- Reservations of the device's other primaries on the session's uplink interface. -/
  sharers : List Reserve
  /-- Is another cell of the ridge not FREE; does one hold the whole ridge (R16)? -/
  busy    : Bool
  granted : Bool
  mode400 : Bool
  /-- Own node and the ring's nodes. -/
  node    : Nat
  order   : List Nat
  view    : RingView
  deriving DecidableEq, Repr

/-- Refuse with a detail when a condition holds. -/
def refuseIf (b : Bool) (d : Nat) : Option Nat := if b then some d else none

/-- Code 0x01 in the third group. -/
def Cell.checkDesc (c : Cell) : Option Nat :=
  (refuseIf (decide (field c.sess.image.req 20 2 < c.desc 106 2)) 106).or <| (refuseIf (decide (field c.sess.image.req 10 2 < c.desc 108 2)) 108).or <|
    refuseIf (!c.nlc && decide (c.enc.cfg.cols ≠ 0) && decide (c.enc.cfg.rper < c.enc.cfg.cycle)) 96

/-- Code 0x10 (R63). -/
def Cell.checkRaster (c : Cell) : Option Nat :=
  let f := field c.sess.image.req
  let vt := f 8 2
  let va := f 10 2
  let cpl := f 12 4
  let hb := f 16 4
  let ha := f 20 2
  let b := frameBudget (f 1 1)
  refuseIf (!(decide (16 ≤ ha ∧ ha ≤ 1280 ∧ ha % 8 = 0 ∧ 8 ≤ va ∧ va ≤ 720 ∧ va + 2 ≤ vt ∧ vt ≤ 4095 ∧ 256 ≤ cpl ∧
    cpl ≤ 1048575 ∧ 2 * ha ≤ hb ∧ hb + 1024 ≤ cpl ∧ b ≤ vt * cpl + 512 ∧ vt * cpl ≤ b ∧ f 32 4 < cpl))) 0

/-- Code 0x11 (R99). -/
def Cell.checkPlanes (c : Cell) : Option Nat :=
  let p := (c.reg Reg.PLN_CAPS).toNat
  let ha := c.hactive
  let n := ((List.range 4).map fun k =>
    if !(bit p k) then 0 else if k = 3 ∧ bit p 4 = true then 2 * ha + 1 else 2 * (ha / 8 + 1) + 1).sum
  refuseIf (decide (c.hbstart < n)) n

/-- Code 0x12 (R120, R124). -/
def Cell.checkSprites (c : Cell) : Option Nat :=
  let pmax := field c.sess.image.req 22 2
  let smax := field c.sess.image.req 24 1
  let n := 256 + pmax / 8 + 2 * smax
  let ok := decide (pmax = 0 ∧ smax = 0) ||
    decide (1 ≤ smax ∧ smax ≤ 128 ∧ 8 ≤ pmax ∧ pmax ≤ 4096 ∧ pmax % 8 = 0)
  refuseIf (!ok || decide (c.cpl < n)) n

/-- Code 0x13 (R129). -/
def Cell.checkLists (c : Cell) : Option Nat :=
  let l := field c.sess.image.req 25 1
  refuseIf (decide (64 < l)) l

/-- Code 0x14 (R79, R103). -/
def Cell.checkBitmap (c : Cell) : Option Nat :=
  let f := field c.sess.image.req
  let lead := f 3 1
  let bad := fun k =>
    let b := f (28 + 2 * k) 2
    decide (b ≠ 0 ∧ (lead = 0 ∨ 32768 < (lead + 1) * ((b + 62) / 64 + 1) * 64 ∨ c.vtotal < c.vactive + lead))
  (refuseIf (bad 0) 0).or (refuseIf (bad 1) 1)

/-- Code 0x15 (R151, R237). -/
def Cell.checkScaler (c : Cell) : Option Nat :=
  let f := field c.sess.image.req
  let ow := f 44 2
  let oh := f 46 2
  let ha := c.hactive
  let va := c.vactive
  let big := decide (1920 < ow) || decide (1080 < oh)
  let size := decide (ow % 2 = 0 ∧ oh % 2 = 0 ∧ 64 ≤ ow ∧ 64 ≤ oh ∧ ow ≤ 3840 ∧ oh ≤ 2160) &&
    (!big || c.enc.cfg.codec == 1)
  let mode := if f 40 1 = 0 then
      decide (1 ≤ f 41 1 ∧ f 41 1 ≤ 8 ∧ 1 ≤ f 42 1 ∧ f 42 1 ≤ 8 ∧ ow = ha * f 41 1 ∧ oh = va * f 42 1)
    else decide (ha ≤ 2 * ow ∧ ow ≤ 8 * ha ∧ va ≤ 2 * oh ∧ oh ≤ 8 * va)
  refuseIf (!(size && mode)) 0

/-- Code 0x16 (R156): the first native line with too many output lines. -/
def Cell.checkScalerRate (c : Cell) : Option Nat :=
  let last := (List.range c.oh).map c.lastNative
  (List.range c.vactive).find? fun n => decide (c.cpl * 99 / 100 < last.count n * (c.ow + 64))

/-- Code 0x22 (R316). -/
def Cell.checkDma (c : Cell) : Option Nat :=
  let f := field c.sess.image.req
  (List.range 8).find? fun n =>
    let quota := f (52 + 8 * n) 4
    decide (quota ≠ 0 ∧ (c.vtotal ≤ f (48 + 8 * n) 2 ∨ f (50 + 8 * n) 2 < 2 ∨ c.vtotal < f (50 + 8 * n) 2 ∨ 0xFFFFFF < quota))

/-- Code 0x20 (R315). -/
def Cell.checkStorage (c : Cell) (e : AdmitEnv) : Option Nat :=
  let free : Int := (e.ddrGiB : Int) * 2 ^ 30 - 4 * 2 ^ 30 - ((e.others.map Reserve.storage).sum : Nat)
  let short := (c.ddrStorage : Int) - free
  refuseIf (decide (0 < short)) (ceilDiv short.toNat (2 ^ 20))

/-- Code 0x21 (R314). -/
def Cell.checkBandwidth (c : Cell) (e : AdmitEnv) : Option Nat :=
  let total := c.ddrShare + (e.others.map Reserve.ddr).sum
  refuseIf (decide (24 * e.speed < total)) (total - 24 * e.speed)

/-- Code 0x28 (R16, R236). -/
def Cell.checkLoad (c : Cell) (e : AdmitEnv) : Option Nat :=
  let total := c.encLoad + (e.mates.map Reserve.load).sum
  refuseIf (decide ((if e.family = 2 then 39168 else 32640) < total) || (c.wholeRidge && e.busy) || e.granted) total

/-! ## Phase (R317) -/

/-- Distance between two instants modulo the frame budget. -/
def phaseGap (budget a b : Nat) : Nat :=
  let d := (a + budget - b % budget) % budget
  Nat.min d (budget - d)

/-- Does every window of 0.12 µs, 72 cell cycles, hold at most `most` of the instants? -/
def windowsHold (budget most : Nat) (xs : List Nat) : Bool :=
  xs.all fun a => decide ((xs.filter fun b => (b + budget - a % budget) % budget < 72).length ≤ most)

/-- Instants at the uplink of stripes that complete at `ts`, `hops` segments away. -/
def uplinkAt (family hops budget : Nat) (ts : List Nat) : List Nat :=
  let wire := if family = 1 then hops * 72000 / 1001 else hops * 72
  ts.map fun t => (t + wire) % budget

/-- Do the conditions of R317 hold for the phase `φ`? -/
def Cell.phaseOk (c : Cell) (e : AdmitEnv) (φ : Nat) : Bool :=
  let budget := frameBudget e.family
  let mine := c.completions.map fun t => (t + φ) % budget
  let ridge := e.mates.flatMap Reserve.instants ++ e.view.partnerInstants
  let most := if e.mode400 then 3 else 1
  (mine.all fun a => ridge.all fun b => decide (300 ≤ phaseGap budget a b)) &&
    windowsHold budget most (uplinkAt e.family e.view.hops budget (mine ++ e.sharers.flatMap Reserve.instants) ++
      e.view.uplinkInstants)

/-- The first phase that admission may choose. -/
def Cell.choosePhase (c : Cell) (e : AdmitEnv) : Option Nat :=
  ((List.range (ceilDiv (frameBudget e.family) 300)).map fun j => 300 * j).find? (c.phaseOk e)

/-! ## Program, output and ring -/

/-- The program of the GRAPH section, with its nodes; a broken section compiles to nothing. -/
def Cell.graph (c : Cell) : List Node := match parseGraph c.sess.image.graph with
  | .inr ns => ns
  | .inl _ => []

/-- Code 0x2B (R225). -/
def Cell.checkGraph (c : Cell) : Option Nat := match compileGraph c.graph with
  | .inl k => some k
  | .inr _ => none

def Cell.program (c : Cell) : Comp := match compileGraph c.graph with
  | .inl _ => ⟨[], [], 0, 0, [], 0⟩
  | .inr p => p

/-- Code 0x2C (R225). -/
def Cell.checkLength (c : Cell) : Option Nat :=
  let p := c.program
  refuseIf (decide (1024 < p.words.length) || decide (1024 < p.param)) p.words.length

/-- Code 0x2D (R231, R232). -/
def Cell.checkOutput (c : Cell) : Option Nat :=
  let t := c.desc 102 1
  let a := c.desc 104 2
  refuseIf (!(if c.desc 101 1 = 0 then decide (1 ≤ t ∧ t ≤ 4 ∧ 32 ≤ a ∧ a ≤ 256) else decide (t ≤ 2 ∧ a = 0))) 0

def Cell.mirrored (c : Cell) : Bool := c.desc 1 1 == 1

/-- Codes 0x30 and 0x31 (R320). -/
def Cell.checkPartner (c : Cell) (e : AdmitEnv) : Option Nat :=
  let partner := if c.desc 2 1 = e.node then c.sess.partNode else c.desc 2 1
  refuseIf (c.mirrored && (partner == e.node || !(e.order.contains partner) || e.view.partnerCode != 0)) e.view.partnerCode

def Cell.checkMirrorPhase (c : Cell) (e : AdmitEnv) : Option Nat :=
  refuseIf (c.mirrored && decide (100000 < e.view.pairDiff)) (e.view.pairDiff / 1000)

/-- Codes 0x33 and 0x34 (R318). -/
def Cell.checkRing (c : Cell) (e : AdmitEnv) : Option Nat :=
  let share := c.streamShare + b2n c.mirrored
  refuseIf (decide (e.view.hops ≠ 0 ∨ c.mirrored = true) && decide (160000 < e.view.segmentUsed + share)) e.view.segmentNo

def Cell.checkUplink (c : Cell) (e : AdmitEnv) : Option Nat :=
  let used := e.view.uplinkUsed + (e.sharers.map Reserve.share).sum
  refuseIf (decide ((if e.mode400 then 360000 else 180000) < used + c.streamShare)) c.uplinkIf

/-- Code 0x35 (R319). -/
def Cell.checkDelay (c : Cell) (e : AdmitEnv) : Option Nat :=
  let m := c.delayMin e.view.edgeDiff
  let d := c.desc 128 1
  refuseIf (decide (15 < m) || (d != 0 && decide (d < m))) m

/-! ## The ticket (R322) -/

/-- What a ticket holds beside the cell's own settings. -/
structure TicketEnv where
  cell  : Nat
  phase : Nat
  time  : Nat
  count : Nat
  deriving DecidableEq, Repr

def Cell.makeTicket (c : Cell) (e : AdmitEnv) (t : TicketEnv) : Bytes :=
  let p := c.program
  let delay := if c.desc 128 1 = 0 then c.delayMin e.view.edgeDiff else c.desc 128 1
  [1, BitVec.ofNat 8 (c.desc 1 1), BitVec.ofNat 8 t.cell, BitVec.ofNat 8 e.node] ++ beBytes 8 c.sessionId ++
    [BitVec.ofNat 8 c.sess.partNode, BitVec.ofNat 8 c.sess.partCell, BitVec.ofNat 8 e.family, BitVec.ofNat 8 delay] ++
    beBytes 4 t.phase ++ beBytes 4 c.ddrShare ++ beBytes 4 c.streamShare ++
    [BitVec.ofNat 8 (c.streamLevel.getD 0), 0] ++ beBytes 2 c.encLoad ++ beBytes 2 p.words.length ++ beBytes 2 p.param ++
    beBytes 4 Config.compilerRevision ++ programDigest p.words ++ slice c.sess.desc 20 64 ++ beBytes 8 t.time ++
    beBytes 8 0 ++ beBytes 8 c.ddrStorage ++ beBytes 4 t.count ++ beBytes 4 0

/-- A ticket without the fields in which the two of a pair may differ (R320). DEDUCED, unsafe, log entry 65. -/
def pairTicket (t : Bytes) : Bytes := t.take 2 ++ slice t 4 8 ++ slice t 14 146 ++ t.drop 164

/-- Code 0x32 (R320). -/
def Cell.checkTickets (c : Cell) (e : AdmitEnv) (t : TicketEnv) : Option Nat :=
  refuseIf (c.mirrored && pairTicket (c.makeTicket e t) != pairTicket e.view.partnerTicket) 0

/-! ## The calculus -/

/-- The checks of the third group in the order of R313. -/
def Cell.admitChecks (c : Cell) (e : AdmitEnv) (t : TicketEnv) (φ : Option Nat) : List (Nat × Option Nat) := [
  (0x01, c.checkDesc), (0x09, refuseIf (field c.sess.image.req 1 1 != e.family) 0),
  (0x0A, refuseIf e.acquire 0), (0x10, c.checkRaster), (0x11, c.checkPlanes), (0x12, c.checkSprites),
  (0x13, c.checkLists), (0x14, c.checkBitmap), (0x15, c.checkScaler), (0x16, c.checkScalerRate), (0x22, c.checkDma),
  (0x20, c.checkStorage e), (0x21, c.checkBandwidth e), (0x23, refuseIf (decide (1024 < field c.sess.image.req 26 2)) 0),
  (0x28, c.checkLoad e), (0x29, if c.streamLevel.isNone then some 0 else none), (0x2A, if φ.isNone then some 0 else none),
  (0x2B, c.checkGraph), (0x2C, c.checkLength), (0x2D, c.checkOutput), (0x30, c.checkPartner e),
  (0x31, c.checkMirrorPhase e), (0x32, c.checkTickets e t), (0x33, c.checkRing e), (0x34, c.checkUplink e),
  (0x35, c.checkDelay e)]

/-- The checks that RESUME repeats (R325). -/
def resumeCode (k : Nat) : Bool := [0x21, 0x28, 0x2A, 0x33, 0x34, 0x35].contains k

/-- The first refusal among checks. -/
def firstRefusal (l : List (Nat × Option Nat)) : Option AdmitFault := l.findSome? fun q => q.2.map fun d => (q.1, d)

/-- What an admitted session holds (R314, R315, R317, R318). -/
def Cell.reserves (c : Cell) (family φ : Nat) : Reserve :=
  ⟨c.ddrShare, c.ddrStorage, c.streamShare, c.encLoad, c.completions.map fun t => (t + φ) % frameBudget family⟩

/-- Take an accepted session: registers, tables and program loaded, reservations held, state ADMITTED. -/
def Cell.admitted (c : Cell) (e : AdmitEnv) (t : TicketEnv) : Cell :=
  let c1 := (c.loadAudio c.graph c.program).loadTables
  let delay := if c.desc 128 1 = 0 then c.delayMin e.view.edgeDiff else c.desc 128 1
  { c1 with
    enc := { c1.enc with cfg := { c1.enc.cfg with level := c.streamLevel.getD 0 } }
    sess := { c1.sess with
      state := .admitted, ticket := c.makeTicket e t, phase := t.phase, delay := delay
      reserve := c.reserves e.family t.phase, view := none } }.raise .sessState

/-- ADMISSION_CALCULUS on a cell whose image is whole: the refusal, or the admitted cell. -/
def Cell.calculus (c0 : Cell) (e : AdmitEnv) (t : TicketEnv) : AdmitFault ⊕ Cell :=
  let c := c0.loadReq
  let φ := c.choosePhase e
  let t1 := { t with phase := φ.getD 0 }
  match firstRefusal (c.admitChecks e t1 φ) with
  | some f => .inl f
  | none => .inr (c.admitted e t1)

end Sys2Proof.Machine
end

