-- ==== Sys2Proof/Machine/RingMsg.lean ====
section
/-! DEFINITION. What ring control and STATE frames say. The spec gives no byte layout for the payloads of TOPO, LEAVE,
PROMOTED, EPOCH, ACTIVE, RESYNC, SWITCH, STAMP and ROLE frames and of STATE frames (R333, R341, R349): their coding is
uninterpreted (DESIGN CHOICE, safe, log entry 19). -/

namespace Sys2Proof.Machine

/-- What a stamp orders (R143, R253, R324, R326, R351, R444). -/
inductive StampKind where
  | start | park | resume | endIt | migrate | swap | wake | idr | overlay
  deriving DecidableEq, Repr

/-- The content of a CONTROL frame without a layout in the spec. -/
inductive RingMsg where
  /-- Ring order eastward, DOWN segments (node, its eastward neighbour), generation. -/
  | topo (order : List Nat) (down : List (Nat × Nat)) (gen : Nat)
  | leave (node : Nat)
  | promoted (session : Nat) (node cell : Nat)
  | epoch (value time : Nat)
  /-- The active manager: its device ID tells two managers apart that open together (R338). -/
  | active (node epoch device : Nat)
  /-- Start frame of a resync of a session. -/
  | resync (session frame : Nat)
  /-- End frame H of the copy, or readiness of the shadow (R349). -/
  | switch (session frame : Nat)
  /-- A stamp for a session or node; `time` is a house time, for an IDR or an overlay set a frame. -/
  | stamp (kind : StampKind) (session node time : Nat)
  /-- A node takes a role: 0 worker, 2 standby (R356). -/
  | role (node role : Nat)
  deriving DecidableEq, Repr

/-- A player's record (R287). -/
structure Player where
  player : Nat
  seq    : Nat
  /-- None until an accepted message has come from the player. -/
  addr   : Option NetAddr
  deriving DecidableEq, Repr

/-- What the manager keeps for a session it stamps for (R287 to R290). -/
structure SessInput where
  session : Nat
  players : List Player
  /-- Stamps by absolute line, and the last stamped line and number. -/
  stamped : List (Nat × Nat)
  lastA   : Nat
  seq     : Nat
  /-- House-frame edges counted when frame 0 would have begun, parked frames left out; none while parked or not started. -/
  base    : Option Int
  /-- The frame that follows the last one run before a park. -/
  after   : Nat
  deriving DecidableEq, Repr

/-- A session hosted on another device, as the active manager knows it (DESIGN CHOICE, safe, log entry 23). -/
structure RingSession where
  session : Nat
  node    : Nat
  cell    : Nat
  /-- State and role codes of R312. -/
  state   : Nat
  role    : Nat
  desc    : List (BitVec 8)
  delay   : Nat
  phase   : Nat
  vtotal  : Nat
  cpl     : Nat
  /-- Input key and salt. -/
  key     : List (BitVec 8)
  salt    : List (BitVec 8)
  deriving DecidableEq, Repr

/-- The content of a STATE frame (R320, R341, R349, R398). DESIGN CHOICE, safe, log entry 23.
DESIGN CHOICE, safe, log entry 54. -/
inductive StateMsg where
  /-- The next bytes of a forwarded image for a cell. -/
  | image (cell : Nat) (bytes : List (BitVec 8))
  /-- A forwarded descriptor for a cell, and the cell it comes from. -/
  | descriptor (cell origin : Nat) (bytes : List (BitVec 8))
  /-- The session of a cell is refused on the other device of its pair (R313). -/
  | refuse (cell code detail : Nat)
  /-- A device tells the active manager of a session it hosts. -/
  | hosted (h : RingSession)
  /-- A write into a region (0 PRAM, 1 WRAM, 2 VRAM, 3 asset window, 4 and 5 overlay buffers) of a cell. -/
  | write (cell region off : Nat) (bytes : List (BitVec 8))
  | regWrite (cell off : Nat) (v : BitVec 32)
  /-- The shadow's answer to RESYNC: its map of written pages (R349). -/
  | pages (cell : Nat) (pages : List Nat)
  /-- The boundary record of a cell. -/
  | record (cell frame : Nat) (bytes : List (BitVec 8))
  /-- Replay records and command state copied to the standby (R341). -/
  | standby (i : SessInput)
  /-- A report taken for a player, on its way to the active manager (R293): session, player, SEQ, payload. -/
  | report (session player seq : Nat) (bytes : List (BitVec 8))
  /-- An IDR request for a mirrored session, for the active manager to stamp (R253). -/
  | idr (session : Nat)
  /-- The effective debug level of the other cell of a pair is FULL, or is no longer (R59, R421). -/
  | full (cell : Nat) (on : Bool)
  /-- The active manager adds to a count of the stream record of a cell (R303). -/
  | count (cell sub amount : Nat)
  /-- A hosting device asks the active manager to stamp a command of a session (R324). -/
  | order (session : Nat) (kind : StampKind)
  /-- A write to the pending overlay set of a mirrored session (R143): cell, object, subindex, value. -/
  | object (cell obj sub value : Nat)
  /-- The shadow in cell `origin` of the sender asks the primary in a cell for a resync (R349, R356, R361). -/
  | resyncAsk (cell origin : Nat)
  /-- From now on the partner of a cell is cell `origin` of the sender (R326). -/
  | pair (cell origin : Nat)
  /-- What a migration target takes over at the swap: the role (1 primary, 2 shadow, 4 more when mirrored), and
  the partner (R326). -/
  | takes (cell role node partner : Nat)
  /-- The pairwise ring handshake of two Keepers (R398). -/
  | handshake (bytes : List (BitVec 8))
  deriving DecidableEq, Repr

end Sys2Proof.Machine

namespace Sys2Proof.Config

/-- Reading and building the payloads of CONTROL frames, by type. DESIGN CHOICE, safe, log entry 19. -/
opaque ringParse : Nat → Bytes → Option Sys2Proof.Machine.RingMsg
opaque ringBuild : Sys2Proof.Machine.RingMsg → Bytes

/-- Reading and building the payloads of STATE frames. DESIGN CHOICE, safe, log entry 19. -/
opaque stateParse : Bytes → Option Sys2Proof.Machine.StateMsg
opaque stateBuild : Sys2Proof.Machine.StateMsg → Bytes

end Sys2Proof.Config
end

