-- ==== Sys2Proof/Machine/DeviceState.lean ====
section
/-! DEFINITION. The state of the device outside its cells as plain data: house time, ring, mirrors, network, dictionary,
Keeper, metering, debug, power and pins. -/

namespace Sys2Proof.Machine

/-! ## House timing (03_raster_timing_and_commits.md) -/

/-- The states of the house-lock loop (R69). -/
inductive LockState where
  | acquire | pullin | locked | holdover
  deriving DecidableEq, Repr

/-- House time and the house-lock loop (R65 to R72). -/
structure House where
  loop     : LockState
  /-- The reference edge, none until the first edge after ACQUIRE (R69). -/
  refEdge  : Option Nat
  /-- Consecutive qualifying edges, and predicted edges since the last qualifying one. -/
  good     : Nat
  missed   : Nat
  /-- Last house-frame edge of the device, and the edges counted since reset. -/
  lastEdge : Nat
  edges    : Nat
  /-- House time of the latest event that named one. -/
  time     : Nat
  /-- Is PTP, or PPS_IN, a source at present (R65)? -/
  ptp      : Bool
  pps      : Bool
  /-- The TAI second of the next PPS_IN edge, when the operator has given it. -/
  ppsNext  : Option Nat
  /-- Previous SYNC_IN edge, and consecutive edges at another family's period (R71). -/
  syncPrev : Option Nat
  foreign  : Nat
  syncOut  : Bool
  ppsOut   : Bool
  deriving DecidableEq, Repr

/-! ## Ring (13_ring_mirroring_failover.md) -/

/-- A ring port (R331, R343). STATE: 0 DOWN, 1 TRAINING, 2 UP, 3 WRAPPED. -/
structure Port where
  state   : Nat
  rdi     : Bool
  /-- Latency of the link the port receives on, in 1/16 ns (R342). -/
  latency : Nat
  deriving DecidableEq, Repr

/-- An entry of a beacon (R344). -/
structure BeaconEntry where
  cell  : Nat
  audio : Bool
  index : Nat
  frame : Nat
  check : Word
  deriving DecidableEq, Repr

/-- What a node knows of another node's beacons (R346). -/
structure Peer where
  node    : Nat
  missed  : Nat
  warn    : Bool
  /-- Has a confirmation begun, and has a frame from the node arrived during it? -/
  confirming : Bool
  heard   : Bool
  manager : Bool
  standby : Bool
  epoch   : Nat
  fenced  : Bool
  /-- A confirmation has ended with no frame from it (R346). -/
  lost    : Bool
  deriving DecidableEq, Repr

/-- A join in progress, at the manager (R339). -/
structure JoinRun where
  device : Nat
  node   : Nat
  probed : Bool
  /-- The segment that went DOWN for the joiner, and the neighbours that have reported theirs UP. -/
  seg    : Option (Nat × Nat)
  up     : List Nat
  deriving DecidableEq, Repr

/-- The ring side of a device (R328 to R361). -/
structure Ring where
  east    : Port
  west    : Port
  node    : Nat
  order   : List Nat
  manager : Nat
  standby : Nat
  topo    : Nat
  down    : List (Nat × Nat)
  /-- SEQ of the next frame of each class (R332). -/
  seq     : Vector Nat 7
  /-- Broadcasts of which one copy has arrived (R334). -/
  seen    : List (Nat × RingClass × Nat)
  /-- CONTROL frames waiting for the node's slot (R336). -/
  ctl     : List RingFrame
  /-- Frames discarded here for a failing CRC (R332). -/
  crcFails : Nat
  entries : List BeaconEntry
  div     : Nat
  epoch   : Nat
  /-- An epoch that takes effect later, and its house time T (R353). -/
  nextEpoch : Option (Nat × Nat)
  /-- House time of the last SYNC, whether it carried LEASE HELD, and whether it has aged out (R346). -/
  syncTime  : Nat
  syncLease : Bool
  peers   : List Peer
  /-- Lease state: 0 NONE, 1 HELD, 2 LAPSED, 3 STANDBY_GRANT (R360). -/
  lease   : Nat
  leaseAt : Option Nat
  takeover : Nat
  /-- Did this device take over at once under its standby grant (R354)? -/
  underGrant : Bool
  armed   : Bool
  join    : Option JoinRun
  /-- As a joiner: node and house time named in the JOIN heard (R339). -/
  joining : Option (Nat × Nat)
  wantsJoin : Bool
  /-- Nodes whose frames have been heard while listening (R338). -/
  heardManager : Bool
  leaving : Bool
  deriving DecidableEq, Repr

/-- Phases of a resync (R349). -/
inductive ResyncPhase where
  | idle | hold | copy | switchP | slip
  deriving DecidableEq, Repr

/-- What a primary still has to send in a copy (R349): a 64 KiB page of a region, read when it is sent, or a write. -/
inductive CopyItem where
  | page (region page : Nat)
  | msg (m : StateMsg)
  deriving DecidableEq, Repr

/-- The mirroring of a cell's session (R344 to R351). Mirror state, partner, slip and counts stand in its mirror record. -/
structure Mirror where
  phase   : ResyncPhase
  /-- Start and end frame of the resync. -/
  g       : Nat
  h       : Nat
  /-- Asset-window pages written since admission, and pages left to send. -/
  pages   : List Nat
  toSend  : List CopyItem
  /-- Bytes that the traffic limit lets the primary send at once. -/
  credit  : Nat
  /-- Boundary W of a stamped migration swap. -/
  swap    : Option Nat
  /-- A boundary record that has arrived, with its frame. -/
  record  : Option (Nat × Bytes)
  /-- Waiting for the partner's KEYX (R398). -/
  keyx    : Bool
  /-- Egress of a primary that was FENCED reopens at its next boundary (R356). -/
  reopen  : Bool
  /-- The cell of the pair on the other device has an effective level of FULL (R421). -/
  full    : Bool
  /-- In a migration: role (4 more when mirrored), node and cell of the partner that the target takes over at the swap. -/
  takes   : Option (Nat × Nat × Nat)
  deriving DecidableEq, Repr

/-! ## Network and input (11_streams_input_packet_engine.md) -/

structure Net where
  inputs   : List SessInput
  remote   : List RingSession
  /-- Stamped messages that wait for an INPUT frame (R336). -/
  inputQ   : List Bytes
  /-- Highest SRTCP index accepted, by session (R284). -/
  srtcp    : List (Nat × Nat)
  /-- Reports at the active manager, by session, that wait to be sent (R293). -/
  reports  : List (Nat × Report)
  /-- Commands by session that wait out a brown-out hold before they are stamped (R324). -/
  orders   : List (Nat × StampKind)
  deriving DecidableEq, Repr

/-! ## Dictionary (14_object_dictionary.md) -/

/-- Whom a request comes from, and where its replies go: a channel of this device, or another node's channel behind a DICT
frame's prefix (R376). -/
structure Client where
  role    : Nat
  session : Nat
  channel : Nat
  /-- Node that carried the request, none for a channel of this device. -/
  node    : Option Nat
  deriving DecidableEq, Repr

/-- A segmented transfer (R377), with the client that opened it. -/
structure Xfer where
  client : Client
  tid    : Nat
  index  : Nat
  sub    : Nat
  down   : Bool
  total  : Nat
  /-- Download: next offset expected. Upload: next offset to send. -/
  next   : Nat
  /-- Acknowledged offset. -/
  acked  : Nat
  /-- Segments taken since the last acknowledgement. -/
  unacked : Nat
  data   : Bytes
  deriving DecidableEq, Repr

/-- A notification sent on a channel and not yet settled there. -/
structure Sent where
  nseq  : Nat
  note  : Nat
  tries : Nat
  deriving DecidableEq, Repr

/-- A channel (R368 to R377). -/
structure Channel where
  id      : Nat
  service : Bool
  addr    : NetAddr
  role    : Nat
  session : Nat
  keyid   : Bytes
  isOpen  : Bool
  /-- Bodies of HELLO and ACCEPT, and the shared secret. -/
  transcript : Bytes
  secret  : Bytes
  keys    : Bytes
  txSeq   : Nat
  rxHigh  : Nat
  rxSeen  : List Nat
  /-- The last 64 TIDs answered, with their replies. -/
  replies : List (Nat × DictMsg)
  nseq    : Nat
  sent    : List Sent
  deriving DecidableEq, Repr

/-- A queued notification (R380): a number of its own, its DATA, and the channels that have settled it. -/
structure Note where
  num  : Nat
  code : Nat
  data : Bytes
  done : List Nat
  deriving DecidableEq, Repr

/-- A notification queue of a role; for TENANT of one session (R380). -/
structure NoteQueue where
  role    : Nat
  session : Nat
  notes   : List Note
  /-- Notifications lost that the next OVERFLOW carries. -/
  lost    : Nat
  deriving DecidableEq, Repr

/-- A message carried to another node that waits for its reply (R376). -/
structure Forward where
  channel : Nat
  tid     : Nat
  node    : Nat
  deriving DecidableEq, Repr

/-- A segmented transfer that this device carries to and from another node. -/
structure Carried where
  channel : Nat
  tid     : Nat
  node    : Nat
  index   : Nat
  sub     : Nat
  deriving DecidableEq, Repr

structure Dict where
  channels : List Channel
  nextId   : Nat
  xfers    : List Xfer
  carried  : List Carried
  /-- Quote nonces by client, and debug results by client and cell (R400, R436). -/
  nonces   : List (Nat × Bytes)
  results  : List (Nat × Nat × Bytes)
  queues   : List NoteQueue
  nextNote : Nat
  forwards : List Forward
  /-- Messages that wait for Tender, or for Keeper's firmware (R372, R416, R417); FLAGS bit 7 marks a lease renewal that Keeper
  has applied already. -/
  held     : List (Client × DictMsg)
  deriving DecidableEq, Repr

/-! ## Keeper, metering and update (15_keeper_metering_update.md) -/

/-- A registered key (R395, R396). -/
structure RegKey where
  keyid    : Bytes
  kind     : Nat
  flags    : Nat
  tenant   : Nat
  notAfter : Nat
  key      : Bytes
  deriving DecidableEq, Repr

/-- Session keys of a cell with its key bundle (R388, R397). -/
structure SessKeys where
  master : Bytes
  salt   : Bytes
  input  : Bytes
  isalt  : Bytes
  bundle : Bytes
  deriving DecidableEq, Repr

/-- States of an update slot (R414, R419). -/
inductive SlotState where
  | empty | writing | valid | trial | good | bad
  deriving DecidableEq, Repr

/-- An update slot in the boot flash (R411, R480). -/
structure Slot where
  state  : SlotState
  imgver : Nat
  svn    : Nat
  digest : Bytes
  data   : Bytes
  deriving DecidableEq, Repr

/-- The two slots of an image kind (R414, R415). -/
structure Slots where
  active  : Bool
  a       : Slot
  b       : Slot
  otpSvn  : Nat
  pending : Bool
  deriving DecidableEq, Repr

/-- An update download in progress (R413): the bytes so far and the next target block. -/
structure Download where
  data  : Bytes
  block : Nat
  kind  : Nat
  out   : Bytes
  deriving DecidableEq, Repr

/-- The handover of Tender (R416). -/
inductive Handover where
  | none | preparing | opened | fallback
  deriving DecidableEq, Repr

/-- The set of live counters of a minute (R401, R402, R406). -/
structure Counters where
  aframes   : Nat
  qframes   : Nat
  vbytes    : Nat
  abytes    : Nat
  inputs    : Nat
  cycles    : Nat
  mirframes : Nat
  frames    : Nat
  supply    : Nat
  flags     : Nat
  deriving DecidableEq, Repr

/-- A latched set: the minute, the counters and the overlay-proof accumulators of regions 6 and 7 (R403, R405). -/
structure Latched where
  minute : Nat
  cnt    : Counters
  proof6 : ProofAcc
  proof7 : ProofAcc
  role   : Nat
  deriving DecidableEq, Repr

/-- The metering of a cell. -/
structure Meter where
  minute  : Nat
  live    : Counters
  proof6  : ProofAcc
  proof7  : ProofAcc
  latched : List Latched
  /-- A minute start has passed and the set latches at the next boundary (R403). -/
  due     : Option Nat
  /-- Was the mirror IN_STEP at the boundary of the frame in progress (R402)? -/
  inStep  : Bool
  deriving DecidableEq, Repr

structure Keeper where
  /-- Lifecycle state: 0 BLANK, 1 PROVISIONED, 2 PRODUCTION, 3 RETURNED (R390). -/
  lifecycle : Nat
  huk       : Bytes
  seed      : Bytes
  certs     : Bytes
  roots     : List Bytes
  nonce     : Bytes
  registry  : List RegKey
  consents  : List Bytes
  /-- Retention memory (R394, R417). -/
  boot      : Nat
  recseq    : Nat
  prev      : Bytes
  tickets   : List (Nat × Nat × Bytes)
  keys      : List (Nat × SessKeys)
  pairs     : List (Nat × Bytes × Nat)
  /-- Records in Tender's DDR, oldest first, by RECSEQ (R407). -/
  records   : List (Nat × Bytes)
  restarting : Bool
  handover  : Handover
  slots     : Vector Slots 3
  download  : Option Download
  deriving DecidableEq, Repr

/-! ## Debug and trace (16_debug_port_and_trace.md) -/

/-- A debug operation taken by the port or a channel whose result is outstanding (R424, R437): its route, operation,
address and data. -/
structure DbgOp where
  /-- 0 the port, 2^32 the release of R421, 2^33 the port after a line reset, otherwise the client. -/
  route : Nat
  op    : Nat
  addr  : Word
  data  : Word
  deriving DecidableEq, Repr

/-- The debug side of a cell outside its processor. -/
structure CellDbg where
  level   : Nat
  waiting : List DbgOp
  trace   : List Bytes
  /-- Packets lost since the last OVERFLOW packet, and the last lost one. -/
  lost    : Nat
  lastLost : Bytes
  /-- Words of the oldest packet that the port has read (R440). -/
  word    : Nat
  deriving DecidableEq, Repr

/-- A Tender or Keeper core as the debug port reaches it (R427). DESIGN CHOICE, safe, log entry 30. -/
structure DbgCore where
  halted : Bool
  x      : Vector Word 32
  pc     : Word
  deriving DecidableEq, Repr

/-- A debug frame whose result is outstanding: target code, operation, address, data, and the ACK and DATA that answer it
when they are ready (R424). -/
structure DbgPending where
  target : Nat
  op     : Nat
  addr   : Word
  data   : Word
  answer : Option (Nat × Word)
  deriving DecidableEq, Repr

/-- The debug port (R422 to R428). -/
structure DbgPort where
  powered : Bool
  fault   : Nat
  crcErr  : Bool
  busy    : Bool
  result  : Nat
  level   : Nat
  request : Nat
  challenge : Bytes
  response  : Bytes
  used    : Bool
  pending : Option DbgPending
  deriving DecidableEq, Repr

/-! ## Power, supply and pins (17, 18) -/

/-- Where the device stands in reset and start-up (R452, R455). -/
inductive Phase where
  /-- In reset, held by its pins or its cause. -/
  | reset
  /-- Reset released; Keeper ROM and firmware start. -/
  | starting
  /-- Recovery (R455). -/
  | recovery
  /-- Tender runs; DDR is training. -/
  | training
  /-- The DIMM population was refused: only the service port is served. -/
  | noMemory
  | running
  /-- TEST_N was low: held in reset, reporting nothing (R464). -/
  | test
  deriving DecidableEq, Repr

/-- The power states of a running device (R442). -/
inductive PowerState where
  | parked | idle | active
  deriving DecidableEq, Repr

/-- A ridge (R15, R443). -/
structure Ridge where
  powered : Bool
  /-- A power-up is in progress or waits its turn. -/
  wanted  : Bool
  locked  : Bool
  deriving DecidableEq, Repr

structure Power where
  phase    : Phase
  state    : PowerState
  /-- A transition in progress: to PARKED or to IDLE. -/
  moving   : Option PowerState
  /-- Requests and descriptors that wait for the transition (R445). -/
  queued   : Option PowerState
  waitDesc : List CellId
  /-- The ridge being powered up. -/
  current  : Option RidgeId
  pwrOk    : Bool
  resetN   : Bool
  kind     : Nat
  refclk   : Bool
  sysclkSec : Bool
  hold     : Bool
  /-- VDD_CORE is at or above 0.710 V during the hold (R457). -/
  rising   : Bool
  rails    : Rails
  coreMin  : Nat
  /-- A temperature-raised alert and a VRHOT_N alert (R459, R467). -/
  hot      : Bool
  vrhot    : Bool
  temp     : Int
  tempMax  : Int
  /-- A temperature has been read since the last reset. -/
  tempRead : Bool
  /-- Keeper has reported health since the reset, and has not withdrawn it (R337, R389, R454). -/
  healthy  : Bool
  withdrawn : Bool
  uplink   : Bool
  /-- The dictionary's UDP port in force (R365, R383). -/
  dictPort : Nat
  /-- Written at-reset subindexes that take effect at the next reset (R365). -/
  stored   : List (Nat × Nat)
  /-- The uplink is in 2×200GBASE-R4 mode, as sampled at start-up (R365, R385). -/
  twin     : Bool
  speed    : Nat
  ddrGiB   : Nat
  ticket   : Nat
  deriving DecidableEq, Repr

structure Pins where
  /-- BYPASS_N: not driven, or driven to a level (R466). -/
  bypass   : Option Bool
  roleStrap : Bool
  smbAlert : Bool
  /-- Output level and enable that a GPIO pin keeps during a function hold (R470). -/
  gpio     : Vector (Option (Bool × Bool)) 40
  deriving DecidableEq, Repr

/-! ## What leaves the device -/

/-- One output of the device, in the order in which they occur. -/
inductive Tx where
  /-- An Ethernet frame on an uplink interface, FCS not included. -/
  | uplink (iface : Nat) (frame : Bytes)
  /-- A UDP payload to an address, from the uplink or the service port. -/
  | udp (service : Bool) (dst : NetAddr) (payload : Bytes)
  | ring (port : PortSide) (frame : RingFrame)
  /-- A debug frame's answer: ACK code and DATA (R422). -/
  | dbg (ack : Nat) (data : Word)
  /-- Data returned on the SMBus, or a NACK (R473). -/
  | smb (data : Bytes)
  | smbNack
  deriving DecidableEq, Repr

end Sys2Proof.Machine
end

