-- ==== Sys2Proof/Machine/ObjTable.lean ====
section
/-! DEFINITION. The object dictionary's subindexes: type, size, rights, range and default (R362, R363, R366 and the object
tables of each chapter). An index that stands for one object per cell, pin or image kind is listed once under its class. -/

namespace Sys2Proof.Machine

/-- The types of R362. -/
inductive ObjType where
  | nat | int | bool | enum | oct | str | domain
  deriving DecidableEq, Repr

/-- A subindex: rights are masks of 1 OPERATOR, 2 TENANT, 4 SERVICE; numbers lie in lo to hi as their bits. -/
structure ObjDesc where
  cls   : Nat
  sub   : Nat
  typ   : ObjType
  size  : Nat
  read  : Nat
  write : Nat
  lo    : Nat
  hi    : Nat
  dflt  : Nat
  deriving DecidableEq, Repr

/-- A number of `size` bytes may take any value. -/
def objTop (size : Nat) : Nat := 256 ^ size - 1

/-- Object 0x1000 (R381). -/
def objs1000 : List ObjDesc := [
  ⟨0x1000, 0, .nat, 1, 7, 0, 0, 255, 9⟩,
  ⟨0x1000, 1, .str, 16, 7, 0, 0, objTop 16, 0x48656c6e617220446576696365730000⟩,
  ⟨0x1000, 2, .str, 16, 7, 0, 0, objTop 16, 0x5356542d4c3634000000000000000000⟩,
  ⟨0x1000, 3, .nat, 1, 7, 0, 0, 255, 176⟩,
  ⟨0x1000, 4, .nat, 8, 5, 0, 0, objTop 8, 0⟩,
  ⟨0x1000, 5, .nat, 4, 5, 0, 0, objTop 4, 0⟩,
  ⟨0x1000, 6, .nat, 4, 5, 0, 0, objTop 4, 0⟩,
  ⟨0x1000, 7, .enum, 1, 5, 0, 0, 255, 0⟩,
  ⟨0x1000, 8, .oct, 32, 7, 0, 0, objTop 32, 0⟩,
  ⟨0x1000, 9, .enum, 1, 7, 0, 0, 255, 0⟩]

/-- Object 0x1001 (R382). -/
def objs1001 : List ObjDesc := [
  ⟨0x1001, 0, .nat, 1, 5, 0, 0, 255, 5⟩,
  ⟨0x1001, 1, .enum, 1, 5, 5, 0, 1, 0⟩,
  ⟨0x1001, 2, .enum, 1, 5, 0, 0, 255, 0⟩,
  ⟨0x1001, 3, .bool, 1, 5, 0, 0, 1, 0⟩,
  ⟨0x1001, 4, .enum, 1, 5, 0, 0, 255, 0⟩,
  ⟨0x1001, 5, .enum, 1, 5, 0, 0, 255, 0⟩]

/-- Object 0x1100 (R383). -/
def objs1100 : List ObjDesc := [
  ⟨0x1100, 0, .nat, 1, 5, 0, 0, 255, 5⟩,
  ⟨0x1100, 1, .nat, 1, 5, 0, 0, 255, 16⟩,
  ⟨0x1100, 2, .nat, 1, 5, 0, 0, 255, 0⟩,
  ⟨0x1100, 3, .nat, 2, 5, 5, 5, 3600, 60⟩,
  ⟨0x1100, 4, .nat, 2, 5, 5, 1024, 65535, 31864⟩,
  ⟨0x1100, 5, .nat, 4, 5, 0, 0, objTop 4, 0⟩]

/-- Object 0x1101 (R383). -/
def objs1101 : List ObjDesc := [
  ⟨0x1101, 0, .nat, 1, 5, 0, 0, 255, 2⟩,
  ⟨0x1101, 1, .nat, 4, 5, 5, 0, objTop 4, 0x1fffe⟩,
  ⟨0x1101, 2, .nat, 4, 5, 0, 0, objTop 4, 0⟩]

/-- Object 0x2000 (R384). -/
def objs2000 : List ObjDesc := [
  ⟨0x2000, 0, .nat, 1, 5, 0, 0, 255, 8⟩,
  ⟨0x2000, 1, .enum, 1, 5, 5, 0, 2, 0⟩,
  ⟨0x2000, 2, .enum, 1, 5, 5, 0, 1, 0⟩,
  ⟨0x2000, 3, .enum, 1, 5, 0, 0, 255, 0⟩,
  ⟨0x2000, 4, .nat, 4, 5, 0, 0, objTop 4, 0⟩,
  ⟨0x2000, 5, .nat, 8, 5, 1, 0, objTop 8, 0⟩,
  ⟨0x2000, 6, .nat, 8, 0, 5, 0, objTop 8, 0⟩,
  ⟨0x2000, 7, .enum, 1, 5, 0, 0, 255, 2⟩,
  ⟨0x2000, 8, .bool, 1, 5, 5, 0, 1, 0⟩]

/-- Object 0x2001 (R384). -/
def objs2001 : List ObjDesc := [
  ⟨0x2001, 0, .nat, 1, 5, 0, 0, 255, 7⟩,
  ⟨0x2001, 1, .bool, 1, 5, 5, 0, 1, 0⟩,
  ⟨0x2001, 2, .enum, 1, 5, 5, 0, 2, 0⟩,
  ⟨0x2001, 3, .nat, 1, 5, 5, 0, 127, 0⟩,
  ⟨0x2001, 4, .oct, 8, 5, 0, 0, objTop 8, 0⟩,
  ⟨0x2001, 5, .int, 8, 5, 0, 0, objTop 8, 0⟩,
  ⟨0x2001, 6, .nat, 4, 5, 0, 0, objTop 4, 0⟩,
  ⟨0x2001, 7, .enum, 1, 5, 0, 0, 255, 0⟩]

/-- Object 0x2010 (R385). -/
def objs2010 : List ObjDesc := [
  ⟨0x2010, 0, .nat, 1, 5, 0, 0, 255, 11⟩,
  ⟨0x2010, 1, .enum, 1, 5, 5, 0, 1, 0⟩,
  ⟨0x2010, 2, .oct, 6, 5, 5, 0, objTop 6, 0⟩,
  ⟨0x2010, 3, .oct, 6, 5, 5, 0, objTop 6, 0⟩,
  ⟨0x2010, 4, .oct, 4, 5, 5, 0, objTop 4, 0⟩,
  ⟨0x2010, 5, .oct, 4, 5, 5, 0, objTop 4, 0⟩,
  ⟨0x2010, 6, .oct, 16, 5, 5, 0, objTop 16, 0⟩,
  ⟨0x2010, 7, .oct, 16, 5, 5, 0, objTop 16, 0⟩,
  ⟨0x2010, 8, .nat, 2, 5, 5, 0, 4094, 0⟩,
  ⟨0x2010, 9, .nat, 2, 5, 5, 0, 65535, 31865⟩,
  ⟨0x2010, 10, .nat, 1, 5, 0, 0, 255, 0⟩,
  ⟨0x2010, 11, .nat, 1, 5, 0, 0, 255, 0⟩]

/-- Object 0x2011 (R385). DESIGN CHOICE, safe, log entry 14. -/
def objs2011 : List ObjDesc := [
  ⟨0x2011, 0, .nat, 1, 5, 0, 0, 255, 8⟩,
  ⟨0x2011, 1, .nat, 8, 5, 0, 0, objTop 8, 0⟩,
  ⟨0x2011, 2, .nat, 8, 5, 0, 0, objTop 8, 0⟩,
  ⟨0x2011, 3, .nat, 8, 5, 0, 0, objTop 8, 0⟩,
  ⟨0x2011, 4, .nat, 8, 5, 0, 0, objTop 8, 0⟩,
  ⟨0x2011, 5, .nat, 8, 5, 0, 0, objTop 8, 0⟩,
  ⟨0x2011, 6, .nat, 8, 5, 0, 0, objTop 8, 0⟩,
  ⟨0x2011, 7, .nat, 8, 5, 0, 0, objTop 8, 0⟩,
  ⟨0x2011, 8, .nat, 8, 5, 0, 0, objTop 8, 0⟩]

/-- Object 0x2020 (R385). -/
def objs2020 : List ObjDesc := [
  ⟨0x2020, 0, .nat, 1, 5, 0, 0, 255, 4⟩,
  ⟨0x2020, 1, .oct, 6, 5, 4, 0, objTop 6, 0⟩,
  ⟨0x2020, 2, .oct, 4, 5, 4, 0, objTop 4, 0⟩,
  ⟨0x2020, 3, .oct, 16, 5, 4, 0, objTop 16, 0⟩,
  ⟨0x2020, 4, .bool, 1, 5, 0, 0, 1, 0⟩]

/-- Object 0x2030 (R461). -/
def objs2030 : List ObjDesc := [
  ⟨0x2030, 0, .nat, 1, 5, 0, 0, 255, 6⟩,
  ⟨0x2030, 1, .enum, 1, 5, 0, 0, 255, 2⟩,
  ⟨0x2030, 2, .enum, 1, 0, 5, 1, 2, 0⟩,
  ⟨0x2030, 3, .nat, 2, 5, 0, 0, 65535, 0⟩,
  ⟨0x2030, 4, .nat, 4, 0, 5, 0, objTop 4, 0⟩,
  ⟨0x2030, 5, .bool, 1, 5, 0, 0, 1, 0⟩,
  ⟨0x2030, 6, .nat, 4, 5, 0, 0, objTop 4, 0⟩]

/-- Object 0x2031 (R462). -/
def objs2031 : List ObjDesc := [
  ⟨0x2031, 0, .nat, 1, 5, 0, 0, 255, 11⟩,
  ⟨0x2031, 1, .nat, 2, 5, 0, 0, 65535, 0⟩,
  ⟨0x2031, 2, .nat, 2, 5, 0, 0, 65535, 0⟩,
  ⟨0x2031, 3, .nat, 2, 5, 0, 0, 65535, 0⟩,
  ⟨0x2031, 4, .nat, 2, 5, 0, 0, 65535, 0⟩,
  ⟨0x2031, 5, .nat, 2, 5, 0, 0, 65535, 0⟩,
  ⟨0x2031, 6, .nat, 4, 5, 0, 0, objTop 4, 0⟩,
  ⟨0x2031, 7, .bool, 1, 5, 0, 0, 1, 0⟩,
  ⟨0x2031, 8, .nat, 1, 5, 5, 85, 110, 105⟩,
  ⟨0x2031, 9, .bool, 1, 5, 0, 0, 1, 0⟩,
  ⟨0x2031, 10, .int, 2, 5, 0, 0, 65535, 0⟩,
  ⟨0x2031, 11, .int, 2, 5, 0, 0, 65535, 0⟩]

/-- Object 0x2040 (R386). -/
def objs2040 : List ObjDesc := [
  ⟨0x2040, 0, .nat, 1, 5, 0, 0, 255, 2⟩,
  ⟨0x2040, 1, .nat, 4, 5, 0, 0, objTop 4, 0⟩,
  ⟨0x2040, 2, .bool, 1, 5, 0, 0, 1, 0⟩]

/-- Object 0x2100 (R386). -/
def objs2100 : List ObjDesc := [
  ⟨0x2100, 0, .nat, 1, 5, 0, 0, 255, 5⟩,
  ⟨0x2100, 1, .enum, 1, 5, 5, 0, 7, 0⟩,
  ⟨0x2100, 2, .nat, 1, 5, 5, 0, 255, 0⟩,
  ⟨0x2100, 3, .bool, 1, 5, 1, 0, 1, 0⟩,
  ⟨0x2100, 4, .bool, 1, 5, 0, 0, 1, 0⟩,
  ⟨0x2100, 5, .bool, 1, 5, 0, 0, 1, 0⟩]

/-- Object 0x2140 (R386). -/
def objs2140 : List ObjDesc := [
  ⟨0x2140, 0, .nat, 1, 5, 0, 0, 255, 8⟩,
  ⟨0x2140, 1, .nat, 2, 5, 0, 0, 65535, 0⟩,
  ⟨0x2140, 2, .nat, 2, 5, 0, 0, 65535, 0⟩,
  ⟨0x2140, 3, .nat, 2, 5, 0, 0, 65535, 0⟩,
  ⟨0x2140, 4, .nat, 2, 5, 0, 0, 65535, 0⟩,
  ⟨0x2140, 5, .nat, 2, 5, 0, 0, 65535, 0⟩,
  ⟨0x2140, 6, .nat, 2, 5, 0, 0, 65535, 0⟩,
  ⟨0x2140, 7, .nat, 2, 5, 0, 0, 65535, 0⟩,
  ⟨0x2140, 8, .nat, 2, 5, 0, 0, 65535, 0⟩]

/-- Object 0x3010 (R312). -/
def objs3010 : List ObjDesc := [
  ⟨0x3010, 0, .nat, 1, 7, 0, 0, 255, 12⟩,
  ⟨0x3010, 1, .domain, 0, 0, 1, 0, 0, 0⟩,
  ⟨0x3010, 2, .domain, 0, 0, 1, 0, 0, 0⟩,
  ⟨0x3010, 3, .enum, 1, 0, 1, 1, 5, 0⟩,
  ⟨0x3010, 4, .nat, 2, 5, 1, 0, 65535, 0⟩,
  ⟨0x3010, 5, .enum, 1, 7, 0, 0, 255, 0⟩,
  ⟨0x3010, 6, .enum, 1, 5, 0, 0, 255, 0⟩,
  ⟨0x3010, 7, .nat, 4, 7, 0, 0, objTop 4, 0⟩,
  ⟨0x3010, 8, .enum, 1, 5, 0, 0, 255, 0⟩,
  ⟨0x3010, 9, .domain, 0, 7, 0, 0, 0, 0⟩,
  ⟨0x3010, 10, .nat, 8, 7, 0, 0, objTop 8, 0⟩,
  ⟨0x3010, 11, .enum, 1, 5, 0, 0, 255, 0⟩,
  ⟨0x3010, 12, .nat, 8, 5, 0, 0, objTop 8, 0⟩]

/-- Object 0x3011 (R361). -/
def objs3011 : List ObjDesc := [
  ⟨0x3011, 0, .nat, 1, 7, 0, 0, 255, 9⟩,
  ⟨0x3011, 1, .enum, 1, 7, 0, 0, 255, 0⟩,
  ⟨0x3011, 2, .nat, 2, 5, 0, 0, 65535, 0⟩,
  ⟨0x3011, 3, .nat, 4, 5, 0, 0, objTop 4, 0⟩,
  ⟨0x3011, 4, .nat, 4, 5, 0, 0, objTop 4, 0⟩,
  ⟨0x3011, 5, .nat, 4, 5, 0, 0, objTop 4, 0⟩,
  ⟨0x3011, 6, .nat, 4, 5, 0, 0, objTop 4, 0⟩,
  ⟨0x3011, 7, .nat, 8, 5, 0, 0, objTop 8, 0⟩,
  ⟨0x3011, 8, .nat, 2, 0, 1, 0, 65535, 0⟩,
  ⟨0x3011, 9, .nat, 1, 0, 1, 0, 255, 0⟩]

/-- Object 0x301a (R61). -/
def objs301A : List ObjDesc := [
  ⟨0x301a, 0, .nat, 1, 7, 0, 0, 255, 5⟩,
  ⟨0x301a, 1, .nat, 4, 7, 0, 0, objTop 4, 0⟩,
  ⟨0x301a, 2, .enum, 1, 7, 0, 0, 255, 0⟩,
  ⟨0x301a, 3, .nat, 4, 7, 0, 0, objTop 4, 0⟩,
  ⟨0x301a, 4, .nat, 2, 7, 0, 0, 65535, 0⟩,
  ⟨0x301a, 5, .nat, 2, 7, 1, 0, 65535, 511⟩]

/-- Object 0x301b (R88). -/
def objs301B : List ObjDesc := [
  ⟨0x301b, 0, .nat, 1, 7, 0, 0, 255, 4⟩,
  ⟨0x301b, 1, .nat, 4, 7, 0, 0, objTop 4, 0⟩,
  ⟨0x301b, 2, .nat, 4, 7, 0, 0, objTop 4, 0⟩,
  ⟨0x301b, 3, .nat, 4, 7, 0, 0, objTop 4, 0⟩,
  ⟨0x301b, 4, .nat, 4, 5, 0, 0, objTop 4, 0⟩]

/-- Object 0x301c (R159). -/
def objs301C : List ObjDesc := [
  ⟨0x301c, 0, .nat, 1, 5, 0, 0, 255, 11⟩,
  ⟨0x301c, 1, .bool, 1, 5, 1, 0, 1, 0⟩,
  ⟨0x301c, 2, .enum, 1, 5, 1, 0, 1, 1⟩,
  ⟨0x301c, 3, .nat, 4, 5, 1, 0, objTop 4, 0⟩,
  ⟨0x301c, 4, .nat, 4, 5, 1, 0, objTop 4, 0⟩,
  ⟨0x301c, 5, .nat, 1, 5, 1, 0, 255, 255⟩,
  ⟨0x301c, 6, .enum, 1, 5, 1, 0, 1, 0⟩,
  ⟨0x301c, 7, .domain, 0, 0, 1, 0, 0, 0⟩,
  ⟨0x301c, 8, .domain, 0, 0, 1, 0, 0, 0⟩,
  ⟨0x301c, 9, .nat, 1, 0, 1, 0, 255, 0⟩,
  ⟨0x301c, 10, .nat, 4, 5, 0, 0, objTop 4, 0⟩,
  ⟨0x301c, 11, .nat, 4, 5, 1, 0, objTop 4, 0⟩]

/-- Object 0x301d (R160). -/
def objs301D : List ObjDesc := [
  ⟨0x301d, 0, .nat, 1, 5, 0, 0, 255, 11⟩,
  ⟨0x301d, 1, .nat, 8, 5, 1, 0, objTop 8, 0⟩,
  ⟨0x301d, 2, .nat, 4, 5, 1, 0, objTop 4, 0⟩,
  ⟨0x301d, 3, .nat, 1, 5, 1, 0, 255, 0⟩,
  ⟨0x301d, 4, .nat, 8, 5, 1, 0, objTop 8, 0⟩,
  ⟨0x301d, 5, .nat, 4, 5, 1, 0, objTop 4, 0⟩,
  ⟨0x301d, 6, .nat, 1, 5, 1, 0, 255, 0⟩,
  ⟨0x301d, 7, .nat, 4, 5, 0, 0, objTop 4, 0⟩,
  ⟨0x301d, 8, .nat, 4, 5, 0, 0, objTop 4, 0⟩,
  ⟨0x301d, 9, .nat, 4, 5, 0, 0, objTop 4, 0⟩,
  ⟨0x301d, 10, .nat, 4, 5, 0, 0, objTop 4, 0⟩,
  ⟨0x301d, 11, .nat, 8, 7, 0, 0, objTop 8, 0⟩]

/-- Object 0x301e (R270). -/
def objs301E : List ObjDesc := [
  ⟨0x301e, 0, .nat, 1, 7, 0, 0, 255, 17⟩,
  ⟨0x301e, 1, .enum, 1, 7, 0, 0, 255, 0⟩,
  ⟨0x301e, 2, .nat, 2, 7, 0, 0, 65535, 0⟩,
  ⟨0x301e, 3, .enum, 1, 7, 0, 0, 255, 0⟩,
  ⟨0x301e, 4, .nat, 4, 7, 0, 0, objTop 4, 0⟩,
  ⟨0x301e, 5, .nat, 4, 7, 0, 0, objTop 4, 0⟩,
  ⟨0x301e, 6, .bool, 1, 7, 0, 0, 1, 0⟩,
  ⟨0x301e, 7, .nat, 2, 7, 0, 0, 65535, 2608⟩,
  ⟨0x301e, 8, .nat, 4, 7, 0, 0, objTop 4, 0⟩,
  ⟨0x301e, 9, .nat, 1, 7, 0, 0, 255, 0⟩,
  ⟨0x301e, 10, .nat, 1, 7, 0, 0, 255, 30⟩,
  ⟨0x301e, 11, .nat, 2, 7, 0, 0, 65535, 286⟩,
  ⟨0x301e, 12, .nat, 4, 7, 0, 0, objTop 4, 0⟩,
  ⟨0x301e, 13, .nat, 8, 7, 0, 0, objTop 8, 0⟩,
  ⟨0x301e, 14, .nat, 1, 0, 3, 0, 255, 0⟩,
  ⟨0x301e, 15, .nat, 4, 7, 0, 0, objTop 4, 0⟩,
  ⟨0x301e, 16, .nat, 1, 7, 0, 0, 255, 0⟩,
  ⟨0x301e, 17, .nat, 4, 5, 0, 0, objTop 4, 0⟩]

/-- Object 0x301f (R303). -/
def objs301F : List ObjDesc := [
  ⟨0x301f, 0, .nat, 1, 7, 0, 0, 255, 11⟩,
  ⟨0x301f, 1, .nat, 1, 7, 0, 0, 255, 0⟩,
  ⟨0x301f, 2, .nat, 8, 5, 0, 0, objTop 8, 0⟩,
  ⟨0x301f, 3, .nat, 8, 5, 0, 0, objTop 8, 0⟩,
  ⟨0x301f, 4, .nat, 4, 7, 0, 0, objTop 4, 0⟩,
  ⟨0x301f, 5, .nat, 8, 5, 0, 0, objTop 8, 0⟩,
  ⟨0x301f, 6, .nat, 4, 7, 0, 0, objTop 4, 0⟩,
  ⟨0x301f, 7, .nat, 4, 7, 0, 0, objTop 4, 0⟩,
  ⟨0x301f, 8, .nat, 4, 5, 0, 0, objTop 4, 0⟩,
  ⟨0x301f, 9, .nat, 4, 5, 0, 0, objTop 4, 0⟩,
  ⟨0x301f, 10, .nat, 4, 5, 0, 0, objTop 4, 0⟩,
  ⟨0x301f, 11, .nat, 4, 7, 0, 0, objTop 4, 0⟩]

/-- Object 0x4000 (R410). -/
def objs4000 : List ObjDesc := [
  ⟨0x4000, 0, .nat, 1, 7, 0, 0, 255, 11⟩,
  ⟨0x4000, 1, .nat, 8, 7, 0, 0, objTop 8, 0⟩,
  ⟨0x4000, 2, .nat, 4, 7, 0, 0, objTop 4, 0⟩,
  ⟨0x4000, 3, .nat, 4, 7, 0, 0, objTop 4, 0⟩,
  ⟨0x4000, 4, .nat, 8, 7, 0, 0, objTop 8, 0⟩,
  ⟨0x4000, 5, .nat, 8, 7, 0, 0, objTop 8, 0⟩,
  ⟨0x4000, 6, .nat, 4, 7, 0, 0, objTop 4, 0⟩,
  ⟨0x4000, 7, .nat, 8, 7, 0, 0, objTop 8, 0⟩,
  ⟨0x4000, 8, .nat, 4, 5, 0, 0, objTop 4, 0⟩,
  ⟨0x4000, 9, .nat, 8, 5, 0, 0, objTop 8, 0⟩,
  ⟨0x4000, 10, .nat, 4, 5, 0, 0, objTop 4, 0⟩,
  ⟨0x4000, 11, .bool, 1, 7, 0, 0, 1, 0⟩]

/-- Object 0x4100 (R410). -/
def objs4100 : List ObjDesc := [
  ⟨0x4100, 0, .nat, 1, 5, 0, 0, 255, 8⟩,
  ⟨0x4100, 1, .nat, 4, 5, 0, 0, objTop 4, 0⟩,
  ⟨0x4100, 2, .nat, 4, 5, 0, 0, objTop 4, 0⟩,
  ⟨0x4100, 3, .nat, 4, 5, 1, 0, objTop 4, 0⟩,
  ⟨0x4100, 4, .domain, 0, 5, 0, 0, 0, 0⟩,
  ⟨0x4100, 5, .nat, 4, 0, 1, 0, objTop 4, 0⟩,
  ⟨0x4100, 6, .nat, 4, 5, 0, 0, objTop 4, 0⟩,
  ⟨0x4100, 7, .nat, 4, 5, 0, 0, objTop 4, 0⟩,
  ⟨0x4100, 8, .domain, 0, 5, 0, 0, 0, 0⟩]

/-- Object 0x5000 (R418). -/
def objs5000 : List ObjDesc := [
  ⟨0x5000, 0, .nat, 1, 5, 0, 0, 255, 8⟩,
  ⟨0x5000, 1, .enum, 1, 5, 0, 0, 255, 0⟩,
  ⟨0x5000, 2, .oct, 128, 5, 0, 0, objTop 128, 0⟩,
  ⟨0x5000, 3, .domain, 0, 0, 4, 0, 0, 0⟩,
  ⟨0x5000, 4, .nat, 4, 5, 0, 0, objTop 4, 0⟩,
  ⟨0x5000, 5, .nat, 1, 0, 5, 0, 255, 0⟩,
  ⟨0x5000, 6, .domain, 0, 0, 4, 0, 0, 0⟩,
  ⟨0x5000, 7, .nat, 4, 5, 0, 0, objTop 4, 0⟩,
  ⟨0x5000, 8, .domain, 0, 7, 0, 0, 0, 0⟩]

/-- Object 0x5001 (R418). -/
def objs5001 : List ObjDesc := [
  ⟨0x5001, 0, .nat, 1, 5, 0, 0, 255, 4⟩,
  ⟨0x5001, 1, .domain, 0, 0, 5, 0, 0, 0⟩,
  ⟨0x5001, 2, .domain, 0, 0, 5, 0, 0, 0⟩,
  ⟨0x5001, 3, .nat, 2, 5, 0, 0, 65535, 0⟩,
  ⟨0x5001, 4, .domain, 0, 5, 0, 0, 0, 0⟩]

/-- Object 0x5002 (R418). -/
def objs5002 : List ObjDesc := [
  ⟨0x5002, 0, .nat, 1, 5, 0, 0, 255, 1⟩,
  ⟨0x5002, 1, .domain, 0, 0, 5, 0, 0, 0⟩]

/-- Object 0x5020 (R418). -/
def objs5020 : List ObjDesc := [
  ⟨0x5020, 0, .nat, 1, 7, 0, 0, 255, 2⟩,
  ⟨0x5020, 1, .oct, 32, 0, 7, 0, objTop 32, 0⟩,
  ⟨0x5020, 2, .domain, 0, 7, 0, 0, 0, 0⟩]

/-- Object 0x5100 (R418). -/
def objs5100 : List ObjDesc := [
  ⟨0x5100, 0, .nat, 1, 5, 0, 0, 255, 1⟩,
  ⟨0x5100, 1, .domain, 0, 5, 0, 0, 0, 0⟩]

/-- Object 0x6000 (R358). DESIGN CHOICE, safe, log entry 14. -/
def objs6000 : List ObjDesc := [
  ⟨0x6000, 0, .nat, 1, 5, 0, 0, 255, 14⟩,
  ⟨0x6000, 1, .nat, 1, 5, 0, 0, 255, 0⟩,
  ⟨0x6000, 2, .nat, 1, 5, 0, 0, 255, 255⟩,
  ⟨0x6000, 3, .nat, 1, 5, 0, 0, 255, 255⟩,
  ⟨0x6000, 4, .nat, 1, 5, 0, 0, 255, 255⟩,
  ⟨0x6000, 5, .enum, 1, 5, 0, 0, 255, 4⟩,
  ⟨0x6000, 6, .oct, 16, 5, 0, 0, objTop 16, 0⟩,
  ⟨0x6000, 7, .nat, 4, 5, 0, 0, objTop 4, 0⟩,
  ⟨0x6000, 8, .nat, 2, 5, 0, 0, 65535, 0⟩,
  ⟨0x6000, 9, .nat, 8, 5, 0, 0, objTop 8, 0⟩,
  ⟨0x6000, 10, .nat, 8, 5, 0, 0, objTop 8, 0⟩,
  ⟨0x6000, 11, .nat, 4, 5, 0, 0, objTop 4, 0⟩,
  ⟨0x6000, 12, .int, 4, 5, 0, 0, objTop 4, 0⟩,
  ⟨0x6000, 13, .nat, 4, 5, 0, 0, objTop 4, 0⟩,
  ⟨0x6000, 14, .bool, 1, 5, 0, 0, 1, 1⟩]

/-- Object 0x6001 (R359). -/
def objs6001 : List ObjDesc := [
  ⟨0x6001, 0, .nat, 1, 5, 0, 0, 255, 5⟩,
  ⟨0x6001, 1, .oct, 128, 5, 1, 0, objTop 128, 0⟩,
  ⟨0x6001, 2, .nat, 8, 0, 1, 0, objTop 8, 0⟩,
  ⟨0x6001, 3, .nat, 1, 0, 1, 0, 255, 0⟩,
  ⟨0x6001, 4, .nat, 1, 5, 1, 0, 255, 255⟩,
  ⟨0x6001, 5, .enum, 1, 5, 0, 0, 255, 0⟩]

/-- Object 0x6010 (R360). -/
def objs6010 : List ObjDesc := [
  ⟨0x6010, 0, .nat, 1, 5, 0, 0, 255, 4⟩,
  ⟨0x6010, 1, .nat, 4, 0, 1, 0, objTop 4, 0⟩,
  ⟨0x6010, 2, .enum, 1, 5, 0, 0, 255, 0⟩,
  ⟨0x6010, 3, .nat, 4, 5, 0, 0, objTop 4, 0xffffffff⟩,
  ⟨0x6010, 4, .nat, 8, 5, 0, 0, objTop 8, 0⟩]

/-- Object 0x7000 (R436). -/
def objs7000 : List ObjDesc := [
  ⟨0x7000, 0, .nat, 1, 7, 0, 0, 255, 3⟩,
  ⟨0x7000, 1, .enum, 1, 7, 1, 0, 2, 0⟩,
  ⟨0x7000, 2, .oct, 10, 0, 3, 0, objTop 10, 0⟩,
  ⟨0x7000, 3, .oct, 5, 7, 0, 0, objTop 5, 0⟩]

/-- Object 0x7040 (R440). -/
def objs7040 : List ObjDesc := [
  ⟨0x7040, 0, .nat, 1, 7, 0, 0, 255, 4⟩,
  ⟨0x7040, 1, .nat, 2, 7, 0, 0, 65535, 0⟩,
  ⟨0x7040, 2, .domain, 0, 7, 0, 0, 0, 0⟩,
  ⟨0x7040, 3, .nat, 2, 0, 3, 0, 65535, 0⟩,
  ⟨0x7040, 4, .nat, 4, 7, 0, 0, objTop 4, 0⟩]

/-- Object 0x7080 (R436). -/
def objs7080 : List ObjDesc := [
  ⟨0x7080, 0, .nat, 1, 5, 0, 0, 255, 2⟩,
  ⟨0x7080, 1, .enum, 1, 5, 0, 0, 255, 0⟩,
  ⟨0x7080, 2, .nat, 1, 0, 5, 0, 255, 0⟩]

/-- Object 0x8000 (R419). -/
def objs8000 : List ObjDesc := [
  ⟨0x8000, 0, .nat, 1, 5, 0, 0, 255, 3⟩,
  ⟨0x8000, 1, .domain, 0, 0, 4, 0, 0, 0⟩,
  ⟨0x8000, 2, .enum, 1, 5, 0, 0, 255, 0⟩,
  ⟨0x8000, 3, .nat, 4, 5, 0, 0, objTop 4, 0⟩]

/-- Object 0x8001 (R419). -/
def objs8001 : List ObjDesc := [
  ⟨0x8001, 0, .nat, 1, 5, 0, 0, 255, 11⟩,
  ⟨0x8001, 1, .enum, 1, 5, 0, 0, 255, 0⟩,
  ⟨0x8001, 2, .enum, 1, 5, 0, 0, 255, 0⟩,
  ⟨0x8001, 3, .nat, 4, 5, 0, 0, objTop 4, 0⟩,
  ⟨0x8001, 4, .oct, 64, 5, 0, 0, objTop 64, 0⟩,
  ⟨0x8001, 5, .enum, 1, 5, 0, 0, 255, 0⟩,
  ⟨0x8001, 6, .nat, 4, 5, 0, 0, objTop 4, 0⟩,
  ⟨0x8001, 7, .oct, 64, 5, 0, 0, objTop 64, 0⟩,
  ⟨0x8001, 8, .nat, 1, 0, 4, 0, 255, 0⟩,
  ⟨0x8001, 9, .nat, 1, 0, 5, 0, 255, 0⟩,
  ⟨0x8001, 10, .nat, 1, 5, 0, 0, 255, 0⟩,
  ⟨0x8001, 11, .enum, 1, 5, 0, 0, 255, 255⟩]

/-- Every subindex of the dictionary. DESIGN CHOICE, unsafe, log entry 15. -/
def objTable : List ObjDesc :=
  objs1000 ++ objs1001 ++ objs1100 ++ objs1101 ++ objs2000 ++ objs2001 ++ objs2010 ++ objs2011 ++ objs2020 ++
  objs2030 ++ objs2031 ++ objs2040 ++ objs2100 ++ objs2140 ++ objs3010 ++ objs3011 ++ objs301A ++ objs301B ++
  objs301C ++ objs301D ++ objs301E ++ objs301F ++ objs4000 ++ objs4100 ++ objs5000 ++ objs5001 ++ objs5002 ++
  objs5020 ++ objs5100 ++ objs6000 ++ objs6001 ++ objs6010 ++ objs7000 ++ objs7040 ++ objs7080 ++ objs8000 ++
  objs8001

/-- The class of an index and the cell, pin or kind it belongs to (R366). -/
def objClass (idx : Nat) : Nat × Nat :=
  if 0x3000 ≤ idx ∧ idx < 0x3800 then (0x3000 + idx % 0x20, (idx - 0x3000) / 0x20)
  else if 0x4000 ≤ idx ∧ idx < 0x4040 then (0x4000, idx - 0x4000)
  else if 0x5100 ≤ idx ∧ idx < 0x5140 then (0x5100, idx - 0x5100)
  else if 0x7000 ≤ idx ∧ idx < 0x7040 then (0x7000, idx - 0x7000)
  else if 0x7040 ≤ idx ∧ idx < 0x7080 then (0x7040, idx - 0x7040)
  else if 0x2100 ≤ idx ∧ idx < 0x2128 then (0x2100, idx - 0x2100)
  else if 0x8001 ≤ idx ∧ idx < 0x8004 then (0x8001, idx - 0x8001)
  else (idx, 0)

/-- The descriptor of a subindex. -/
def objDesc (idx sub : Nat) : Option ObjDesc :=
  let c := (objClass idx).1
  objTable.find? fun d => d.cls = c ∧ d.sub = sub

/-- Is there an object at this index? -/
def objExists (idx : Nat) : Bool := let c := (objClass idx).1; objTable.any fun d => d.cls = c

/-- One key for an index and a subindex. -/
def objKey (idx sub : Nat) : Nat := idx * 256 + sub

/-- What a subindex holds at reset. DESIGN CHOICE, unsafe, log entry 15. -/
def objDefault (key : Nat) : Nat := match objDesc (key / 256) (key % 256) with
  | some d => d.dflt
  | none => 0

end Sys2Proof.Machine
end

