-- ==== Sys2Proof/Machine/State.lean ====
section
/-! DEFINITION. The state of the device, its faults and refusals, and its state in reset. -/

namespace Sys2Proof.Machine

/-- Faults of the machine: none. Everything the spec calls a fault of a cell, a channel or the device has an effect that
the spec describes, and that effect is a next state. -/
inductive Fault where
  deriving DecidableEq, Repr

/-- Refusals of the model. -/
inductive Refusal where
  /-- A command whose meaning is not written; raised only by arms of `exec`. Safe: the run stops. -/
  | notModelled (mnemonic : String)
  deriving DecidableEq, Repr

/-- One SVT-L64 device with the commands that wait for it. -/
structure State where
  /-- Commands waiting, first in first out. -/
  pending : List Instr
  cells   : Vector Cell 64
  ridges  : Vector Ridge 16
  house   : House
  ring    : Ring
  mirrors : Vector Mirror 64
  net     : Net
  dict    : Dict
  keeper  : Keeper
  meters  : Vector Meter 64
  dbg     : Vector CellDbg 64
  port    : DbgPort
  /-- The four Tender cores and Keeper as the debug port reaches them. -/
  cores   : Vector DbgCore 5
  power   : Power
  pins    : Pins
  /-- Dictionary values: `objKey` to value, unlisted subindexes at their defaults. -/
  objs    : List (Nat × Nat)
  /-- What the device has sent, newest last. -/
  tx      : List Tx
  /-- Free values and TRNG draws taken so far (the model's own field, DESIGN CHOICE, safe, log entry 12). -/
  fresh   : Nat
  deriving DecidableEq, Repr

def House.reset : House where
  loop := .acquire
  refEdge := none
  good := 0
  missed := 0
  lastEdge := 0
  edges := 0
  time := 0
  ptp := false
  pps := false
  ppsNext := none
  syncPrev := none
  foreign := 0
  syncOut := false
  ppsOut := false

def Port.reset : Port := ⟨0, false, 0⟩

def Ring.reset : Ring where
  east := Port.reset
  west := Port.reset
  node := 0xFF
  order := []
  manager := 0xFF
  standby := 0xFF
  topo := 0
  down := []
  seq := Vector.replicate 7 0
  seen := []
  ctl := []
  crcFails := 0
  entries := []
  div := 0
  epoch := 0
  nextEpoch := none
  syncTime := 0
  syncLease := false
  peers := []
  lease := 0
  leaseAt := none
  takeover := 0
  underGrant := false
  armed := false
  join := none
  joining := none
  wantsJoin := false
  heardManager := false
  leaving := false

def Mirror.reset : Mirror := ⟨.idle, 0, 0, [], [], 0, none, none, false, false, false, none⟩

def Net.reset : Net := ⟨[], [], [], [], [], []⟩

def Dict.reset : Dict := ⟨[], 1, [], [], [], [], [], 1, [], []⟩

def Slot.empty : Slot := ⟨.empty, 0, 0, [], []⟩

/-- The slots of a kind in a device as delivered: slot A GOOD, slot B EMPTY (DESIGN CHOICE, unsafe, log entry 16). -/
def Slots.delivered (kind : Nat) : Slots where
  active := false
  a := ⟨.good, Config.flashVersion kind, 0, [], Config.flashImage kind⟩
  b := Slot.empty
  otpSvn := 0
  pending := false

def Counters.zero : Counters := ⟨0, 0, 0, 0, 0, 0, 0, 0, 0, 0⟩

def ProofAcc.zero : ProofAcc := ⟨0, 0, 0, 0, none, []⟩

def Meter.reset : Meter := ⟨0, Counters.zero, ProofAcc.zero, ProofAcc.zero, [], none, false⟩

/-- Keeper with an unburnt OTP (DESIGN CHOICE, unsafe, log entry 16). -/
def Keeper.reset : Keeper where
  lifecycle := 0
  huk := []
  seed := []
  certs := []
  roots := []
  nonce := []
  registry := []
  consents := []
  boot := 0
  recseq := 0
  prev := List.replicate 32 0
  tickets := []
  keys := []
  pairs := []
  records := []
  restarting := false
  handover := .none
  slots := Vector.ofFn fun k : Fin 3 => Slots.delivered (k.val + 1)
  download := none

def CellDbg.reset : CellDbg := ⟨0, [], [], 0, [], 0⟩

def DbgCore.reset : DbgCore := ⟨false, Vector.replicate 32 0, 0⟩

def DbgPort.reset : DbgPort where
  powered := false
  fault := 0
  crcErr := false
  busy := false
  result := 0
  level := 0
  request := 0
  challenge := []
  response := []
  used := true
  pending := none

def Ridge.reset : Ridge := ⟨false, false, false⟩

/-- In a COLD reset, held by the pins. DESIGN CHOICE, unsafe, log entry 6. -/
def Power.reset : Power where
  phase := .reset
  state := .idle
  moving := none
  queued := none
  waitDesc := []
  current := none
  pwrOk := false
  resetN := false
  kind := 0
  refclk := true
  sysclkSec := false
  hold := false
  rising := false
  rails := ⟨0, 0, 0, 0⟩
  coreMin := 0
  hot := false
  vrhot := false
  temp := 0
  tempMax := 0
  tempRead := false
  healthy := false
  withdrawn := false
  uplink := false
  dictPort := 31864
  stored := []
  twin := false
  speed := 0
  ddrGiB := 0
  ticket := 0

def Pins.reset : Pins where
  bypass := none
  roleStrap := false
  smbAlert := false
  gpio := Vector.replicate 40 none

/-- The device in reset, before its start-up sequence (R452, R455): no session, no channel, every register and object at
its reset value, no command waiting. -/
def State.reset : State where
  pending := []
  cells := Vector.replicate 64 Cell.reset
  ridges := Vector.replicate 16 Ridge.reset
  house := House.reset
  ring := Ring.reset
  mirrors := Vector.replicate 64 Mirror.reset
  net := Net.reset
  dict := Dict.reset
  keeper := Keeper.reset
  meters := Vector.replicate 64 Meter.reset
  dbg := Vector.replicate 64 CellDbg.reset
  port := DbgPort.reset
  cores := Vector.replicate 5 DbgCore.reset
  power := Power.reset
  pins := Pins.reset
  objs := []
  tx := []
  fresh := 0

end Sys2Proof.Machine
end

