-- ==== Sys2Proof/Machine/Ops.lean ====
section
/-! DEFINITION. The named operations over the device: dictionary values, ring frames, channel records and notifications
(R332 to R336, R343, R361 to R363, R368 to R380). -/

namespace Sys2Proof.Machine

/-! ## Dictionary values -/

/-- The stored value of a subindex. DESIGN CHOICE, unsafe, log entry 15. -/
def State.obj (s : State) (idx sub : Nat) : Nat := Sparse.get objDefault s.objs (objKey idx sub)

def State.setObj (s : State) (idx sub v : Nat) : State := { s with objs := Sparse.put objDefault s.objs (objKey idx sub) v }

/-- The largest number that a subindex holds. -/
def objMax (idx sub : Nat) : Nat := match objDesc idx sub with
  | some d => objTop d.size
  | none => 0

/-- Counts saturate; two counts that share a subindex do so each by itself (R270, R303). -/
def addCount (idx sub old n : Nat) : Nat :=
  if ((objClass idx).1 = 0x301E ∧ sub = 0x0D) ∨ ((objClass idx).1 = 0x301F ∧ sub = 0x05) then
    Nat.min (old / 2 ^ 32 + n / 2 ^ 32) 0xFFFFFFFF * 2 ^ 32 + Nat.min (old % 2 ^ 32 + n % 2 ^ 32) 0xFFFFFFFF
  else Nat.min (old + n) (objMax idx sub)

def State.addObj (s : State) (idx sub n : Nat) : State := s.setObj idx sub (addCount idx sub (s.obj idx sub) n)

def State.bumpObj (s : State) (idx sub : Nat) : State := s.addObj idx sub 1

/-- The index of object `o` (0x10 to 0x1F) of a cell (R366). -/
def cellObj (c : CellId) (o : Nat) : Nat := 0x3000 + 0x20 * c.val + o

/-- The frame-rate family in force (R381). -/
def State.family (s : State) : Nat := s.obj 0x2000 1

def State.cell (s : State) (c : CellId) : Cell := s.cells[c]

def State.setCell (s : State) (c : CellId) (v : Cell) : State := { s with cells := s.cells.set c.val v }

def State.send (s : State) (t : Tx) : State := { s with tx := s.tx ++ [t] }

def State.setHouse (s : State) (h : House) : State := { s with house := h }
def State.setRing (s : State) (r : Ring) : State := { s with ring := r }
def State.setNet (s : State) (n : Net) : State := { s with net := n }
def State.setDict (s : State) (d : Dict) : State := { s with dict := d }
def State.setKeeper (s : State) (k : Keeper) : State := { s with keeper := k }
def State.setPower (s : State) (p : Power) : State := { s with power := p }
def State.setPins (s : State) (p : Pins) : State := { s with pins := p }
def State.setPort (s : State) (p : DbgPort) : State := { s with port := p }
def State.setMirror (s : State) (c : CellId) (m : Mirror) : State := { s with mirrors := s.mirrors.set c.val m }
def State.setMeter (s : State) (c : CellId) (m : Meter) : State := { s with meters := s.meters.set c.val m }
def State.setDbg (s : State) (c : CellId) (d : CellDbg) : State := { s with dbg := s.dbg.set c.val d }
def State.setRidge (s : State) (r : RidgeId) (v : Ridge) : State := { s with ridges := s.ridges.set r.val v }

/-- Take a free value or a draw of the TRNG (DESIGN CHOICE, safe, log entry 12, DESIGN CHOICE, unsafe, log entry 16). -/
def State.draw (s : State) : Nat × State := (s.fresh, { s with fresh := s.fresh + 1 })

/-- Is the device running: its start-up is complete and no reset is in force? DESIGN CHOICE, safe, log entry 1. -/
def State.up (s : State) : Bool := s.power.phase == .running

/-- House time moves on to the time that an event names. DESIGN CHOICE, unsafe, log entry 88. -/
def State.at (s : State) (t : Nat) : State := if s.house.time < t then s.setHouse { s.house with time := t } else s

/-! ## Ring frames (R332 to R336, R343) -/

/-- Is this device the active manager of its ring? -/
def State.isManager (s : State) : Bool := s.ring.node != 0xFF && s.ring.manager == s.ring.node

/-- Code of a class (R333). -/
def classCode : RingClass → Fin 7
  | .sync => 0
  | .beacon => 1
  | .input => 2
  | .control => 3
  | .stream => 4
  | .dict => 5
  | .state => 6

/-- Does the device transmit on the ring: BYPASS_N is high and health has not been withdrawn (R337, R454)? -/
def State.onRing (s : State) : Bool := s.pins.bypass == some true && s.power.healthy

/-- A new frame of this node, with the next SEQ of its class (R332). -/
def State.newFrame (s : State) (cls : RingClass) (typ dst : Nat) (bcast : Bool) (payload : Bytes) : RingFrame × State :=
  let k := classCode cls
  let f : RingFrame := ⟨cls, typ, s.ring.node % 16, dst % 16, bcast, false, 0, s.ring.topo % 256, s.ring.seq[k], payload, true⟩
  (f, s.setRing { s.ring with seq := s.ring.seq.set k.val ((s.ring.seq[k] + 1) % 65536) })

def State.portOf (s : State) : PortSide → Port
  | .east => s.ring.east
  | .west => s.ring.west

/-- The other port of a device. -/
def otherSide : PortSide → PortSide
  | .east => .west
  | .west => .east

/-- Does a port's transmit direction fail: its receiver is not UP, or it receives RDI (R331, R343)? -/
def Port.failed (p : Port) : Bool := p.state != 2 || p.rdi

/-- A frame leaves on a port, or turns there when the port has failed (R343). -/
def State.emit (s : State) (p : PortSide) (f : RingFrame) : State :=
  if !s.onRing then s
  else if !(s.portOf p).failed then s.send (.ring p f)
  else if f.bcast || f.turned then s
  else if (s.portOf (otherSide p)).failed then s
  else s.send (.ring (otherSide p) { f with turned := true, hops := s.ring.order.length - f.hops })

/-- Distance eastward from the own node to another (R334). DEDUCED, safe, log entry 44. -/
def Ring.eastHops (r : Ring) (dst : Nat) : Nat :=
  let n := r.order.length
  (r.order.idxOf dst + n - r.order.idxOf r.node) % n

/-- Does the route of `k` hops from the own node cross a DOWN segment (R343)? -/
def Ring.crosses (r : Ring) (east : Bool) (k : Nat) : Bool :=
  let n := r.order.length
  let i := r.order.idxOf r.node
  (List.range k).any fun j =>
    let a := if east then (i + j) % n else (i + n - 1 - j % n) % n
    r.down.contains (r.order.getD a 0xFF, r.order.getD ((a + 1) % n) 0xFF)

/-- Send a unicast frame the shorter way, or the other way where that would cross a DOWN segment (R334, R343); a joiner is
reached by way of its western neighbour (R339). -/
def State.unicastFrame (s : State) (f : RingFrame) : State :=
  let r := s.ring
  if f.dst == r.node then s
  else if !(r.order.contains f.dst) then
    match r.join with
    | some j => match j.seg with
      | some (a, _) => if j.node = f.dst then s.emit .east { f with hops := r.eastHops a + 1 } else s
      | none => s
    | none => s
  else
    let e := r.eastHops f.dst
    let w := r.order.length - e
    let short := decide (e ≤ w)
    let east := if r.crosses short (if short then e else w) then !short else short
    s.emit (if east then .east else .west) { f with hops := if east then e else w }

/-- Send a broadcast both ways round (R334). DEDUCED, safe, log entry 44. -/
def State.broadcastFrame (s : State) (f : RingFrame) : State :=
  let g := { f with hops := s.ring.order.length - 1 }
  if s.ring.order.isEmpty then s else (s.emit .east g).emit .west g

def State.sendFrame (s : State) (f : RingFrame) : State := if f.bcast then s.broadcastFrame f else s.unicastFrame f

/-- Build and send a frame of a class that does not wait for a slot. -/
def State.ringSend (s : State) (cls : RingClass) (typ dst : Nat) (bcast : Bool) (payload : Bytes) : State :=
  let q := s.newFrame cls typ dst bcast payload
  q.2.sendFrame q.1

/-- A CONTROL frame waits for the node's next slot (R336). -/
def State.control (s : State) (typ dst : Nat) (bcast : Bool) (payload : Bytes) : State :=
  if s.ring.order.isEmpty then s
  else
    let q := s.newFrame .control typ dst bcast payload
    q.2.setRing { q.2.ring with ctl := q.2.ring.ctl ++ [q.1] }

/-- The CONTROL type that carries a message (R333). -/
def RingMsg.typ : RingMsg → Nat
  | .topo _ _ _ => 0
  | .leave _ => 4
  | .promoted _ _ _ => 5
  | .epoch _ _ => 6
  | .active _ _ _ => 7
  | .resync _ _ => 8
  | .switch _ _ => 9
  | .stamp _ _ _ _ => 10
  | .role _ _ => 12

/-- Broadcast a CONTROL message, or send it to one node. -/
def State.tell (s : State) (m : RingMsg) (dst : Option Nat) : State :=
  s.control m.typ (dst.getD 0) dst.isNone (Config.ringBuild m)

/-- Send a STATE message to a node. -/
def State.tellState (s : State) (dst : Nat) (m : StateMsg) : State := s.ringSend .state 0 dst false (Config.stateBuild m)

/-! ## Records and messages of channels (R368, R369, R373, R376) -/

/-- The bytes of a message. -/
def msgBytes (m : DictMsg) : Bytes :=
  [BitVec.ofNat 8 m.mtype, BitVec.ofNat 8 m.node] ++ beBytes 2 m.tid ++ beBytes 2 m.index ++
    [BitVec.ofNat 8 m.sub, BitVec.ofNat 8 m.flags] ++ beBytes 4 m.data.length ++ beBytes 4 m.aux ++ m.data

/-- The sixteen bytes before the body of a record. -/
def recordHead (rtype len chan rseq : Nat) : Bytes :=
  [1, BitVec.ofNat 8 rtype] ++ beBytes 2 len ++ beBytes 4 chan ++ beBytes 8 rseq

def State.setChannel (s : State) (c : Channel) : State :=
  s.setDict { s.dict with channels := s.dict.channels.map fun d => if d.id = c.id then c else d }

def State.channel (s : State) (id : Nat) : Option Channel := s.dict.channels.find? fun c => c.id = id

/-- A channel goes, and what waits on it (R372). -/
def State.dropChannel (s : State) (id : Nat) : State :=
  let d := s.dict
  s.setDict { d with
    channels := d.channels.filter fun c => c.id ≠ id
    forwards := d.forwards.filter fun f => f.channel ≠ id
    nonces := d.nonces.filter fun q => q.1 ≠ id
    results := d.results.filter fun q => q.1 ≠ id }

/-- A protected record of a channel (R369); a direction that reaches RSEQ 2^32 closes the channel. -/
def State.record (s : State) (c : Channel) (rtype : Nat) (plain : Bytes) : State :=
  let key := slice c.keys 32 32
  let salt := slice c.keys 76 12
  let iv := (salt.zip (beBytes 12 c.txSeq)).map fun q => q.1 ^^^ q.2
  let h := recordHead rtype (plain.length + 16) c.id c.txSeq
  let body := fitBytes (plain.length + 16) (Config.gcmSeal key iv h plain)
  let s1 := (s.setChannel { c with txSeq := c.txSeq + 1 }).send (.udp c.service c.addr (h ++ body))
  if c.txSeq + 1 < 2 ^ 32 then s1 else s1.dropChannel c.id

/-- Send a message on a channel. -/
def State.sendMsg (s : State) (id : Nat) (m : DictMsg) : State := match s.channel id with
  | some c => s.record c 5 (msgBytes m)
  | none => s

/-- A number for each client: its channel, with the node that carries for it. -/
def Client.key (c : Client) : Nat := c.channel + (match c.node with
  | some n => 2 ^ 40 * (n + 1)
  | none => 0)

/-- The 12-byte prefix of a DICT frame. -/
def Client.prefixBytes (c : Client) : Bytes := [BitVec.ofNat 8 c.role, 0] ++ beBytes 2 c.channel ++ beBytes 8 c.session

/-- Keep a reply among the last 64 of a channel (R375). -/
def Channel.keepReply (c : Channel) (m : DictMsg) : Channel :=
  { c with replies := ((c.replies.filter fun q => q.1 ≠ m.tid) ++ [(m.tid, m)]).reverse.take 64 |>.reverse }

/-- Send a message to a client; `reply` keeps it for its TID. -/
def State.answer (s : State) (c : Client) (reply : Bool) (m : DictMsg) : State :=
  let m1 := { m with node := s.ring.node % 256 }
  match c.node with
  | some n => s.ringSend .dict 0 n false (c.prefixBytes ++ (msgBytes m1))
  | none =>
    let s1 := match s.channel c.channel with
      | some ch => if reply then s.setChannel (ch.keepReply m1) else s
      | none => s
    s1.sendMsg c.channel m1

/-! ## Notifications (R379, R380) -/

/-- A notification queue serves the channels of its role, for TENANT those of its session. -/
def NoteQueue.serves (q : NoteQueue) (c : Channel) : Bool := c.isOpen && c.role == q.role && (q.role != 2 || c.session == q.session)

/-- Send queued notifications that a channel has not been sent yet, in order. -/
def State.pump (s : State) (q : NoteQueue) (id : Nat) : State :=
  q.notes.foldl (fun s n => match s.channel id with
    | none => s
    | some c =>
      if !(q.serves c) || n.done.contains id || c.sent.any (fun x => x.note = n.num) then s
      else
        let k := c.nseq + 1
        let m : DictMsg := ⟨0x10, s.ring.node % 256, 0, field n.data 2 2, field n.data 4 1, 0, k, n.data⟩
        (s.setChannel { c with nseq := k, sent := c.sent ++ [⟨k, n.num, 0⟩] }).sendMsg id m) s

/-- Send everything that waits for the open channels. -/
def State.pumpAll (s : State) : State :=
  s.dict.queues.foldl (fun s q => (s.dict.channels.map Channel.id).foldl (fun s id => s.pump q id) s) s

/-- The common fields of a notification's DATA. -/
def noteData (code node idx sub time : Nat) (data : Bytes) : Bytes :=
  [BitVec.ofNat 8 code, BitVec.ofNat 8 node] ++ beBytes 2 idx ++ [BitVec.ofNat 8 sub, 0, 0, 0] ++ beBytes 8 time ++ data

/-- The queue of a role, for TENANT of a session. -/
def State.queueOf (s : State) (role session : Nat) : NoteQueue :=
  (s.dict.queues.find? fun q => q.role = role ∧ q.session = session).getD ⟨role, session, [], 0⟩

/-- Replace a queue and advance the number of the next notification. -/
def State.setQueue (s : State) (q : NoteQueue) (next : Nat) : State :=
  s.setDict { s.dict with
    queues := (s.dict.queues.filter fun r => ¬ (r.role = q.role ∧ r.session = q.session)) ++ [q], nextNote := next }

/-- Put a notification into the queue of a role; a full queue loses its oldest entry. -/
def State.enqueueNote (s : State) (role session code : Nat) (data : Bytes) : State :=
  let q := s.queueOf role session
  let full := decide (256 ≤ q.notes.length)
  let notes := if full then q.notes.drop 1 else q.notes
  let n := s.dict.nextNote
  let s1 := s.setQueue { q with notes := notes ++ [⟨n, code, data, []⟩], lost := q.lost + b2n full } (n + 1)
  (if full then s1.bumpObj 0x1101 2 else s1).pumpAll

/-- The OVERFLOW of a queue that lost notifications takes a place that is free. DEDUCED, unsafe, log entry 76. -/
def State.overflowNote (s : State) (q : NoteQueue) : State :=
  if q.lost = 0 ∨ 256 ≤ q.notes.length then s
  else
    let n := s.dict.nextNote
    let data := noteData 0x10 (s.ring.node % 256) 0x1101 0x02 s.house.time (beBytes 4 q.lost)
    if bit (s.obj 0x1101 1) 0x10 then s.setQueue { q with notes := q.notes ++ [⟨n, 0x10, data, []⟩], lost := 0 } (n + 1)
    else s.setQueue { q with lost := 0 } n

/-- Remove the entries that every channel their queue serves has settled; entries wait while it serves none. -/
def State.settleNotes (s : State) : State :=
  let s1 := s.setDict { s.dict with queues := s.dict.queues.map fun q =>
    let ids := (s.dict.channels.filter q.serves).map Channel.id
    { q with notes := q.notes.filter fun n => ids.isEmpty || !(ids.all fun i => n.done.contains i) } }
  (s1.dict.queues.foldl State.overflowNote s1).pumpAll

/-- Hand a notification to the active manager (R376). -/
def State.relayNote (s : State) (role session : Nat) (data : Bytes) : State :=
  if s.isManager || s.ring.manager == 0xFF then s
  else
    let m : DictMsg := ⟨0x10, s.ring.node % 256, 0, field data 2 2, field data 4 1, 0, 0, data⟩
    s.ringSend .dict 0 s.ring.manager false ((⟨role, session, 0, none⟩ : Client).prefixBytes ++ (msgBytes m))

/-- Raise a notification for the OPERATOR role, and for the TENANT role of a session when one is named (R379, R380). -/
def State.notify (s : State) (code : Nat) (tenant : Option Nat) (idx sub : Nat) (data : Bytes) : State :=
  if !(bit (s.obj 0x1101 1) code) then s
  else
    let d := noteData code (s.ring.node % 256) idx sub s.house.time data
    let s1 := (s.enqueueNote 1 0 code d).relayNote 1 0 d
    match tenant with
    | some sess => (s1.enqueueNote 2 sess code d).relayNote 2 sess d
    | none => s1

/-! ## Mirror state (R57, R361) -/

def State.mirrorState (s : State) (c : CellId) : Nat := s.obj (cellObj c 0x11) 1

/-- Change the mirror state of a cell, with its notification. -/
def State.setMirrorState (s : State) (c : CellId) (v : Nat) : State :=
  if s.mirrorState c = v then s
  else (s.setObj (cellObj c 0x11) 1 v).notify 0x0D none (cellObj c 0x11) 1 [BitVec.ofNat 8 c.val, BitVec.ofNat 8 v]

/-- The level that the port has on cells and Tender cores: FULL without an unlock in BLANK and RETURNED (R427). -/
def State.portLevel (s : State) : Nat := if s.keeper.lifecycle = 0 ∨ s.keeper.lifecycle = 3 then 2 else s.port.level

/-- Effective level of a cell (R421). -/
def State.effLevel (s : State) (c : CellId) : Nat := Nat.max (s.dbg[c]).level s.portLevel

/-- Is FULL granted on the session of a cell (R421)? -/
def State.fullOn (s : State) (c : CellId) : Bool := s.effLevel c == 2 || (s.mirrors[c]).full

/-- Does a cell send its state to another: a primary, or the source of a migration (R349, R351)? -/
def Session.copies (x : Session) : Bool := x.role == .primary || x.state == .migrating

/-- Where a cell's state is copied: the migration target while one is named, otherwise the partner (R326, R349). -/
def State.copyTarget (s : State) (c : CellId) : Nat × Nat :=
  let x := (s.cell c).sess
  if x.state = .migrating then (s.obj (cellObj c 0x10) 4 / 256, s.obj (cellObj c 0x10) 4 % 256) else (x.partNode, x.partCell)

/-- Start a resync from the primary: its start frame is the first boundary at least 2 frames after the request (R349).
DEDUCED, unsafe, log entry 57. -/
def State.startResync (s : State) (c : CellId) : State :=
  let cell := s.cell c
  if cell.sess.copies = false ∨ s.mirrorState c = 0 ∨ s.fullOn c = true then s
  else
    let g := cell.beam.frame + 3
    let m := { s.mirrors[c] with phase := .idle, g := g, h := 0, toSend := [], credit := 0, record := none }
    (((s.setMirror c m).bumpObj (cellObj c 0x11) 4).setObj (cellObj c 0x11) 7 (g % 2 ^ 32 * 2 ^ 32)).tell
      (.resync cell.sessionId g) (some (s.copyTarget c).1)

/-- A divergence of a mirrored session, recorded here or learnt of: the mirror is DIVERGED until the resync that follows is
complete (R57, R349). -/
def State.mirrorDiverged (s : State) (c : CellId) : State :=
  let k := s.mirrorState c
  if k = 0 ∨ k = 5 then s else (s.setMirrorState c 2).startResync c

end Sys2Proof.Machine
end

