-- ==== Sys2Proof/Machine/Events.lean ====
section
/-! DEFINITION. What a cell's events do in the rest of the device: divergence records, notifications, metering counters, trace
buffers, reports and the writes that a resync copies (R56, R293, R349, R379, R401 to R405, R438 to R440). -/

namespace Sys2Proof.Machine

/-! ## Network answers in the layout of R285 -/

/-- Source address of what the device sends on an uplink interface (R385). -/
def State.uplinkAddr (s : State) (i : Nat) : UplinkAddr :=
  ⟨s.obj 0x2010 (2 + i), s.obj 0x2010 (4 + i), s.obj 0x2010 (6 + i)⟩

/-- The IV of R286. -/
def inputIv (salt : Bytes) (dir player seq : Nat) : Bytes :=
  (salt.zip ([BitVec.ofNat 8 dir, 0, 0, BitVec.ofNat 8 player, 0, 0, 0, 0] ++ beBytes 4 seq)).map fun q => q.1 ^^^ q.2

/-- An acknowledgement or a report (R286, R288, R293). -/
def protectedMsg (key salt : Bytes) (typ dir player session seq : Nat) (payload : Bytes) : Bytes :=
  let head := [1, BitVec.ofNat 8 typ, BitVec.ofNat 8 player, BitVec.ofNat 8 payload.length] ++ beBytes 8 session ++ beBytes 4 seq
  head ++ fitBytes (payload.length + 16) (Config.gcmSeal key (inputIv salt dir player seq) head payload)

/-- The keys of the session in a cell (R388). -/
def State.keysOf (s : State) (c : CellId) : Option SessKeys := (s.keeper.keys.find? fun q => q.1 = c.val).map Prod.snd

/-- The cell of this device that holds a session in one of its live states, if any. -/
def State.cellOf (s : State) (session : Nat) : Option CellId :=
  (List.finRange 64).find? fun c =>
    let x := (s.cell c).sess
    x.state != .free && x.state != .ended && x.state != .loading && (s.cell c).sessionId == session

/-- Codes of the session states and roles (R312). -/
def SessState.code : SessState → Nat
  | .free => 0
  | .loading => 1
  | .admitted => 2
  | .running => 3
  | .parked => 4
  | .migrating => 5
  | .ended => 6

def SessRole.code : SessRole → Nat
  | .none => 0
  | .primary => 1
  | .shadow => 2

/-- What the active manager must know of the session in a cell of this device. -/
def State.ownSession (s : State) (c : CellId) : RingSession :=
  let x := s.cell c
  { session := x.sessionId, node := s.ring.node, cell := c.val, state := x.sess.state.code, role := x.sess.role.code
    desc := x.sess.desc, delay := x.sess.delay, phase := x.sess.phase, vtotal := x.vtotal, cpl := x.cpl
    key := ((s.keysOf c).map SessKeys.input).getD [], salt := ((s.keysOf c).map SessKeys.isalt).getD [] }

/-- The cells of the ring that are not FREE, as far as this device knows them. -/
def State.hosts (s : State) : List RingSession :=
  ((List.finRange 64).filter fun c => (s.cell c).sess.state != .free).map s.ownSession ++ s.net.remote

/-- A session by its ID, its primary first. -/
def State.sessionInfo (s : State) (session : Nat) : Option RingSession :=
  let l := s.hosts.filter fun h => decide (h.session = session)
  (l.find? fun h => h.role = 1).or l.head?

/-- Is a session admitted on the ring (R323)? -/
def RingSession.admitted (h : RingSession) : Bool := decide (2 ≤ h.state ∧ h.state ≤ 5)

/-- What the manager keeps for a session (R287). -/
def State.inputOf (s : State) (session : Nat) : SessInput :=
  (s.net.inputs.find? fun i => i.session = session).getD ⟨session, [], [], 0, 0, none, 0⟩

def State.setInput (s : State) (i : SessInput) : State :=
  s.setNet { s.net with inputs := (s.net.inputs.filter fun j => j.session ≠ i.session) ++ [i] }

/-- A message of the input port to a player as an Ethernet frame on the session's uplink interface, with DSCPI
(R272, R273, R288, R293). -/
def State.toPlayer (s : State) (h : RingSession) (dst : NetAddr) (payload : Bytes) : State :=
  let i := field h.desc 112 1
  let a := s.uplinkAddr i
  let f : FrameCfg := ⟨field h.desc 130 6, a.mac, field h.desc 114 2, field h.desc 116 1, dst.v6, field h.desc 119 1,
    field h.desc 120 1, if dst.v6 then a.ip6 else a.ip4, dst.addr⟩
  s.send (.uplink i (udpFrame f (s.obj 0x2010 9) dst.port payload))

/-- A report taken from a cell: a shadow discards it, a worker hands it to the active manager (R293).
DESIGN CHOICE, safe, log entry 54. -/
def State.takeReport (s0 : State) (c : CellId) (r : Report) : State :=
  let s := s0.bumpObj (cellObj c 0x1F) 0x07
  let cell := s.cell c
  if cell.sess.role ≠ .primary then s
  else if s.isManager then s.setNet { s.net with reports := s.net.reports ++ [(cell.sessionId, r)] }
  else s.tellState s.ring.manager (.report cell.sessionId r.player r.seq r.payload)

/-! ## IDR requests (R253) -/

/-- Frames counted by the manager for a session at its last house-frame edge. -/
def State.edgeFrame (s : State) (session : Nat) : Nat :=
  match (s.inputOf session).base with
  | some b => ((s.house.edges : Int) - b).toNat
  | none => 0

/-- Place an IDR stamp in every cell of this device that holds a session (R254). -/
def State.stampIdrHere (s : State) (session frame : Nat) : State :=
  { s with cells := s.cells.map fun x =>
    if x.sess.state != .free && x.sess.state != .ended && x.sessionId == session then x.stampIdr frame else x }

/-- The active manager stamps an IDR request, for a frame at least 2 frames ahead, and tells every hosting device. -/
def State.stampIdrFor (s : State) (h : RingSession) : State :=
  let now := match s.cellOf h.session with
    | some c => (s.cell c).beam.frame
    | none => s.edgeFrame h.session
  (s.stampIdrHere h.session (now + 2)).tell (.stamp .idr h.session h.node (now + 2)) none

/-- An IDR request of a session hosted here; the active manager stamps those of a mirrored session. -/
def State.askIdr (s : State) (c : CellId) : State :=
  let x := s.cell c
  if s.mirrorState c = 0 then s.setCell c x.requestIdr
  else if s.isManager then s.stampIdrFor (s.ownSession c)
  else s.tellState s.ring.manager (.idr x.sessionId)

/-! ## Divergence, trace, metering -/

/-- The divergence record, its notification, the beacon flag and the mirror (R56, R57, R61).
DEDUCED, unsafe, log entry 76. -/
def State.divergeEvent (s : State) (c : CellId) (code frame line : Nat) : State :=
  let o := cellObj c 0x1A
  let s1 := (((s.bumpObj o 1).setObj o 2 code).setObj o 3 (frame % 2 ^ 32)).setObj o 4 (line % 65536)
  let data := [BitVec.ofNat 8 c.val, BitVec.ofNat 8 code] ++ beBytes 4 (frame % 2 ^ 32) ++ beBytes 2 line
  let s2 := if bit (s1.obj o 5) (code - 1) then s1.notify 0x01 (some (s.cell c).sessionId) o 0 data else s1
  if s2.mirrorState c = 0 then s2
  else
    (s2.setRing { s2.ring with div := if bit s2.ring.div c.val then s2.ring.div else s2.ring.div + 2 ^ c.val }).mirrorDiverged c

/-- A packet reaches the cell's trace buffer (R421, R438, R440). -/
def State.tracePush (s : State) (c : CellId) (p : Bytes) : State :=
  let d := s.dbg[c]
  if s.effLevel c = 0 ∨ (s.cell c).sess.role = .shadow then s
  else if 4096 ≤ d.trace.length then (s.setDbg c { d with lost := d.lost + 1, lastLost := p }).bumpObj (0x7040 + c.val) 4
  else s.setDbg c { d with trace := d.trace ++ [p] }

/-- Remove the `n` oldest packets; when a place frees after a loss, an OVERFLOW packet takes it with the count and the
position of the last lost packet (R440). -/
def CellDbg.remove (d : CellDbg) (n : Nat) : CellDbg :=
  let rest := d.trace.drop n
  if d.lost = 0 ∨ 4096 ≤ rest.length then { d with trace := rest, word := 0 }
  else
    let o := [0x05, 0x00] ++ slice d.lastLost 2 10 ++ beBytes 4 d.lost
    { d with trace := rest ++ [o], lost := 0, lastLost := [], word := 0 }

/-- Park and supply marks of the minute aside, what a frame adds when it ends (R402). -/
def Meter.frame (m : Meter) (primary quiet : Bool) (cycles vbytes abytes inputs : Nat) : Meter :=
  let l := m.live
  { m with live := { l with
    aframes := l.aframes + b2n !quiet, qframes := l.qframes + b2n quiet, vbytes := l.vbytes + vbytes
    abytes := l.abytes + abytes, inputs := l.inputs + inputs, cycles := l.cycles + cycles
    mirframes := l.mirframes + b2n (primary && m.inStep), frames := l.frames + 1 } }

/-- Move the live counters into a latched set (R403). -/
def Meter.latch (m : Meter) (role : Nat) : Meter :=
  { m with
    latched := m.latched ++ [⟨m.minute, m.live, m.proof6, m.proof7, role⟩], live := Counters.zero
    proof6 := ProofAcc.zero, proof7 := ProofAcc.zero, minute := m.due.getD m.minute, due := none }

/-- One frame of a signed region (R405). -/
def ProofAcc.add (a : ProofAcc) (frame : Nat) (res exp : Word) (cmp : Bool) : ProofAcc :=
  { frames := a.frames + 1, matched := a.matched + b2n (cmp && res == exp), mism := a.mism + b2n (cmp && res != exp)
    expected := exp, first := some (a.first.getD (frame % 2 ^ 32))
    digestIn := a.digestIn ++ beBytes 4 frame ++ beBytes 4 res.toNat ++ beBytes 4 exp.toNat }

def Meter.proof (m : Meter) (region frame : Nat) (res exp : Word) (cmp : Bool) : Meter :=
  if region = 6 then { m with proof6 := m.proof6.add frame res exp cmp } else { m with proof7 := m.proof7.add frame res exp cmp }

/-- Supply events in force (R406). -/
def State.supplyNow (s : State) : Nat :=
  b2n s.power.hold + 2 * b2n (decide (s.house.loop = .holdover)) + 4 * b2n (s.power.hot || s.power.vrhot)

/-- Latch the counters of a cell; the minute that begins starts with the supply events in force. -/
def State.latchMeter (s : State) (c : CellId) : State :=
  let m := (s.meters[c]).latch (s.cell c).sess.role.code
  s.setMeter c { m with live := { m.live with supply := s.supplyNow } }

/-- Set bits of a cell's SUPPLY or FLAGS for the minute (R406). -/
def Meter.mark (m : Meter) (supply flags : Nat) : Meter :=
  { m with live := { m.live with supply := m.live.supply ||| supply, flags := m.live.flags ||| flags } }

/-- A supply event begins: it is flagged in the live counters of every running cell. -/
def State.markSupply (s : State) (k : Nat) : State :=
  { s with meters := Vector.ofFn fun c : CellId =>
    let x := (s.cell c).sess.state
    if x = .running ∨ x = .migrating then (s.meters[c]).mark k 0 else s.meters[c] }

/-- SESSION_STATE (R379) for what a cell holds or held; a worker tells the active manager too (DESIGN CHOICE, safe, log entry 23). -/
def State.noteSessionAs (s0 : State) (c : CellId) (h : RingSession) : State :=
  let s := if s0.isManager || s0.ring.manager == 0xFF then s0 else s0.tellState s0.ring.manager (.hosted h)
  s.notify 0x04 (some h.session) (cellObj c 0x10) 5
    [BitVec.ofNat 8 c.val, BitVec.ofNat 8 h.state, BitVec.ofNat 8 (s.obj (cellObj c 0x10) 0x0B)]

def State.noteSession (s : State) (c : CellId) : State := s.noteSessionAs c (s.ownSession c)

/-- Hand one event of a cell on. -/
def State.cellEvent (s : State) (c : CellId) (e : CellEvent) : State := match e with
  | .diverge code frame line => s.divergeEvent c code frame line
  | .bump o sub => s.bumpObj (cellObj c o) sub
  | .add o sub n => s.addObj (cellObj c o) sub n
  | .put o sub v => s.setObj (cellObj c o) sub v
  | .regionMismatch r =>
    s.notify 0x08 none (cellObj c 0x1D) (r + 3) ([BitVec.ofNat 8 c.val, BitVec.ofNat 8 r] ++ beBytes 4 (s.cell c).frameNo)
  | .bite ends => s.notify 0x02 (some (s.cell c).sessionId) 0 0 [BitVec.ofNat 8 c.val, BitVec.ofNat 8 (b2n ends)]
  | .withheld kind index frame =>
    (s.bumpObj (cellObj c 0x1F) 0x09).notify 0x09 none (cellObj c 0x1F) 0x09
      ([BitVec.ofNat 8 c.val, BitVec.ofNat 8 kind] ++ beBytes 2 index ++ beBytes 4 frame)
  | .report r => s.takeReport c r
  | .trace p => s.tracePush c p
  | .frameEnd quiet cycles v a i =>
    let m := (s.meters[c]).frame ((s.cell c).sess.role == .primary) quiet cycles v a i
    let s1 := s.setMeter c m
    let s2 := if m.due.isSome then s1.latchMeter c else s1
    s2.setMeter c { s2.meters[c] with inStep := s.mirrorState c == 1 }
  | .proof r frame res exp cmp => s.setMeter c ((s.meters[c]).proof r frame res exp cmp)
  | .sessState => s.noteSession c
  | .idr => s.askIdr c

/-! ## Writes that a resync copies (R349) -/

/-- Addresses at which two memories differ, with the later byte. DESIGN CHOICE, safe, log entry 53. -/
def memChanges (old new : Memory) : List (Nat × Byte) :=
  if old = new then []
  else ((old.map Prod.fst ++ new.map Prod.fst).eraseDups.filter fun a => old.read a != new.read a).map fun a => (a, new.read a)

/-- Registers in which two register files differ, with the later value. -/
def regChanges (old new : List (Nat × Word)) : List (Nat × Word) :=
  if old = new then []
  else ((old.map Prod.fst ++ new.map Prod.fst).eraseDups.filter fun a =>
    Sparse.get regReset old a != Sparse.get regReset new a).map fun a => (a, Sparse.get regReset new a)

/-- The memories of a cell in the order of a STATE message's region numbers. -/
def Store.regions (m : Store) : List Memory := [m.pram, m.wram, m.vram, m.asset, m.ovA, m.ovB]

/-- STATE messages for what changed between two states of a cell. -/
def copyMsgs (cell : Nat) (old new : Cell) : List StateMsg :=
  ((old.mem.regions.zip new.mem.regions).zipIdx.flatMap fun q =>
    (memChanges q.1.1 q.1.2).map fun w => StateMsg.write cell q.2 w.1 [w.2]) ++
    (regChanges old.regs new.regs).map fun w => StateMsg.regWrite cell w.1 w.2

/-- Bytes that an item of a copy takes. -/
def CopyItem.size : CopyItem → Nat
  | .page _ _ => 65536
  | .msg (.write _ _ _ bs) => bs.length
  | .msg (.record _ _ bs) => bs.length
  | .msg _ => 4

/-- Bytes of writes, pages left out, that wait to be sent. -/
def Mirror.waiting (m : Mirror) : Nat :=
  (m.toSend.map fun i => match i with
    | .page _ _ => 0
    | .msg x => (CopyItem.msg x).size).sum

/-- The map of written asset-window pages, and the copying of a primary's writes; with more than 4 MiB of them waiting the
resync is abandoned and starts anew (R349). DESIGN CHOICE, safe, log entry 53. -/
def State.noteWrites (s : State) (c : CellId) (old new : Cell) : State :=
  let m := s.mirrors[c]
  let pages := ((memChanges old.mem.asset new.mem.asset).map fun w => w.1 / 65536).eraseDups
  let m1 : Mirror := { m with pages := m.pages ++ pages.filter fun p => !(m.pages.contains p) }
  if new.sess.copies = true ∧ m.phase = .copy then
    let m2 : Mirror := { m1 with toSend := m1.toSend ++ (copyMsgs (s.copyTarget c).2 old new).map CopyItem.msg }
    if 4 * 2 ^ 20 < m2.waiting then (s.setMirror c m1).startResync c else s.setMirror c m2
  else s.setMirror c m1

/-- Run a function of one cell and hand on the events it raised. -/
def State.onCell (s : State) (c : CellId) (f : Cell → Cell) : State :=
  let old := s.cell c
  let new := f old
  let s1 := (s.setCell c { new with outbox := [] }).noteWrites c old new
  new.outbox.foldl (fun s e => s.cellEvent c e) s1

end Sys2Proof.Machine
end

