-- ==== Sys2Proof/Machine/DebugOps.lean ====
section
/-! DEFINITION. The debug unit of a cell: accesses, halts and injections, in the order in which requests reach it (R420,
R421, R426, R429 to R437). -/

namespace Sys2Proof.Machine

/-- An answer: ACK code (1 OK, 4 FAULT) and DATA (R422). -/
abbrev DbgAnswer := Nat × Word

def dbgOk (v : Word) : DbgAnswer := (1, v)

/-- FAULT with a code of R426. -/
def dbgFault (code : Nat) : DbgAnswer := (4, BitVec.ofNat 32 code)

/-- The routes of operations that a line reset has cut off from the port, and of the release of R421. -/
def releaseRoute : Nat := 2 ^ 32
def lostRoute : Nat := 2 ^ 33

/-- The level that a route has on a cell (R421, R436). -/
def State.routeLevel (s : State) (c : CellId) (route : Nat) : Nat :=
  if route = releaseRoute then 2
  else if route = 0 ∨ route = lostRoute then s.effLevel c
  else (s.dbg[c]).level

/-- DBG_STATUS (R430). -/
def State.dbgStatus (s : State) (c : CellId) : Word :=
  let d := (s.cell c).cpu.dbg
  let wait := d.halted && (match (s.cell c).cpu.wait with
    | .line _ _ => true
    | _ => false)
  BitVec.ofNat 32 (d.injCause % 256 * 256 + b2n d.injExc * 128 + b2n wait * 64 + d.cause * 16 + s.effLevel c * 4 +
    b2n d.halted)

/-- A port read of the trace word: the packet goes after its fourth word (R440). -/
def State.traceWord (s : State) (c : CellId) : State × Word :=
  let d := s.dbg[c]
  match d.trace with
  | [] => (s, 0)
  | p :: _ =>
    let v := BitVec.ofNat 32 (field p (4 * d.word) 4)
    (s.setDbg c (if d.word = 3 then d.remove 1 else { d with word := d.word + 1 }), v)

/-- Does a counted cycle of the cell pass: outside the porch and before the frame's end? -/
def Cell.counting (c : Cell) : Bool := c.running && !c.beam.inPorch && decide (c.beam.fpos < c.counted)

/-- The region of an address that the debugger reaches (R429). -/
inductive DbgPlace where
  | block (off : Nat)
  | mem (r : Region) (off : Nat)
  | gpr (r : Reg)
  | pc
  | status
  | ctrl
  | trace
  | range
  deriving DecidableEq, Repr

def dbgPlace (a : Nat) : DbgPlace :=
  if 0x40000000 ≤ a ∧ a < 0x40010000 then .block (a - 0x40000000)
  else if a < 0xC0000000 then match locate a with
    | some (.asset, _) => .range
    | some (r, off) => .mem r off
    | none => .range
  else if a < 0xC0000080 then .gpr ⟨(a - 0xC0000000) / 4 % 32, by omega⟩
  else if a = 0xC0000080 then .pc
  else if a = 0xC0000100 then .status
  else if a = 0xC0000104 then .ctrl
  else if a = 0xC0000200 then .trace
  else .range

/-- May the access be made at level OBSERVE (R420)? -/
def DbgPlace.observe (p : DbgPlace) (wr : Bool) : Bool := match p with
  | .block _ => !wr
  | .status => !wr
  | .ctrl => !wr
  | .trace => !wr
  | _ => false

/-- A debug read (R429, R430). -/
def State.dbgRead (s : State) (c : CellId) (p : DbgPlace) : State × DbgAnswer :=
  let x := s.cell c
  let halted := x.cpu.dbg.halted
  match p with
  | .block off => (s, dbgOk (x.readReg off (if x.beam.inPorch then 0 else x.beam.fpos)))
  | .mem r off =>
    (s, if !halted then dbgFault 0x04
      else if x.fenced r off (off + 4) then dbgFault 0x06
      else dbgOk ((x.mem.region r).read32 off))
  | .gpr r => (s, if halted then dbgOk (x.x r) else dbgFault 0x04)
  | .pc => (s, if halted then dbgOk x.cpu.pc else dbgFault 0x04)
  | .status => (s, dbgOk (s.dbgStatus c))
  | .ctrl => (s, dbgOk (BitVec.ofNat 32 (b2n x.cpu.dbg.ebrkHalt)))
  | .trace => let q := s.traceWord c; (q.1, dbgOk q.2)
  | .range => (s, dbgFault 0x05)

/-- A debug write to a place: the fault that refuses it (R426, R429, R430). -/
def Cell.dbgWriteFault (x : Cell) (p : DbgPlace) (v : Word) : Option Nat :=
  let halted := x.cpu.dbg.halted
  match p with
  | .block _ => if halted then none else some 0x04
  | .mem r off => if !halted then some 0x04 else if x.fenced r off (off + 4) then some 0x06 else none
  | .gpr _ => if halted then none else some 0x04
  | .pc => if !halted then some 0x04 else if v.getLsbD 0 then some 0x09 else if 0x80000 ≤ v.toNat then some 0x05 else none
  | .ctrl => none
  | _ => some 0x05

/-- The effect of a debug write, in one counted cycle (R430). -/
def Cell.dbgWrite (x : Cell) (p : DbgPlace) (v : Word) : Cell := match p with
  | .block off => (x.storeReg off v x.beam.fpos).advance 1
  | .mem r off => x.debugStore r off v
  | .gpr r => (x.setX r v).advance 1
  | .pc => { x with cpu := { x.cpu with pc := v } }.advance 1
  | .ctrl => { x with cpu := { x.cpu with dbg := { x.cpu.dbg with ebrkHalt := v.getLsbD 0 } } }
  | _ => x

/-- READ and WRITE of a cell target: none while a write waits for a counted cycle.
DESIGN CHOICE, unsafe, log entry 58. DEDUCED, unsafe, log entry 90. -/
def State.dbgAccess (s : State) (c : CellId) (level : Nat) (wr : Bool) (a v : Word) : State × Option DbgAnswer :=
  let x := s.cell c
  let p := dbgPlace a.toNat
  if level < (if p.observe wr then 1 else 2) then (s, some (dbgFault 0x03))
  else if !x.running && p != .status && p != .trace then (s, some (dbgFault 0x0A))
  else if a.toNat % 4 ≠ 0 then (s, some (dbgFault 0x09))
  else if !wr then let q := s.dbgRead c p; (q.1, some q.2)
  else match x.dbgWriteFault p v with
    | some k => (s, some (dbgFault k))
    | none =>
      if p != .ctrl && !x.counting then (s, none)
      else (s.onCell c fun y => y.dbgWrite p v, some (dbgOk 0))

/-- HALT, RESUME, STEP and INJECT of a cell target, at level FULL: none while the result is not ready (R431 to R434).
DESIGN CHOICE, unsafe, log entry 58. -/
def State.dbgControl (s : State) (c : CellId) (op : Nat) (v : Word) : State × Option DbgAnswer :=
  let x := s.cell c
  let halted := x.cpu.dbg.halted
  if op = 3 then
    if halted then (s, some (dbgOk 0))
    else (s.onCell c fun y => { y with cpu := { y.cpu with dbg := { y.cpu.dbg with haltReq := true } } }, none)
  else if !halted then (s, some (if op = 4 then dbgOk 0 else dbgFault 0x04))
  else if op = 6 ∧ injectBad (rvDecode v) = true then (s, some (dbgFault 0x07))
  else if !x.counting then (s, none)
  else if op = 6 then
    let s1 := s.onCell c fun y => y.inject (rvDecode v)
    let d := (s1.cell c).cpu.dbg
    (s1, some (if d.injExc then dbgFault (d.injCause % 256 * 256 + 0x08) else dbgOk 0))
  else (s.onCell c fun y => y.release (op == 5), some (dbgOk 0))

/-- One operation on a cell: its answer, or none where it waits. DESIGN CHOICE, unsafe, log entry 58. -/
def State.dbgRun (s : State) (c : CellId) (o : DbgOp) : State × Option DbgAnswer :=
  let level := s.routeLevel c o.route
  if o.op = 0 ∨ 6 < o.op then (s, some (dbgFault 0x01))
  else if o.op ≤ 2 then s.dbgAccess c level (o.op == 2) o.addr o.data
  else if level < 2 then (s, some (dbgFault 0x03))
  else if !(s.cell c).running then (s, some (dbgFault 0x0A))
  else s.dbgControl c o.op o.data

/-- Bytes of a result as the dictionary holds it (R436). -/
def resultBytes (r : Option DbgAnswer) : Bytes := match r with
  | some (k, v) => BitVec.ofNat 8 k :: beBytes 4 v.toNat
  | none => [2, 0, 0, 0, 0]

/-- Keep a result for the client of a route (R436). -/
def State.keepResult (s : State) (c : CellId) (route : Nat) (r : Option DbgAnswer) : State :=
  if route = releaseRoute ∨ route = lostRoute then s
  else s.setDict { s.dict with
    results := (s.dict.results.filter fun q => ¬ (q.1 = route ∧ q.2.1 = c.val)) ++ [(route, c.val, resultBytes r)] }

/-- Hand an answer to the route its operation came by. -/
def State.deliverDbg (s : State) (c : CellId) (route : Nat) (r : DbgAnswer) : State :=
  if route = 0 then
    match s.port.pending with
    | some p => s.setPort { s.port with pending := some { p with answer := some r } }
    | none => s
  else s.keepResult c route (some r)

/-- Run waiting operations in order until one has to wait (R437). -/
def State.pumpDbg (s : State) (c : CellId) : State :=
  ((List.range (s.dbg[c]).waiting.length).foldl (fun (q : State × Bool) _ =>
    if q.2 then q
    else match (q.1.dbg[c]).waiting with
      | [] => q
      | o :: rest =>
        let r := q.1.dbgRun c o
        match r.2 with
        | none => (r.1, true)
        | some a => ((r.1.setDbg c { r.1.dbg[c] with waiting := rest }).deliverDbg c o.route a, false)) (s, false)).1

/-- Take an operation to the end of a cell's queue and run what can run. -/
def State.takeDbg (s : State) (c : CellId) (o : DbgOp) : State :=
  let d := s.dbg[c]
  (s.setDbg c { d with waiting := d.waiting ++ [o] }).pumpDbg c

/-- The effective level of a cell has changed: below FULL a halt ends and EBRKHALT clears; mirroring is suspended while
FULL is granted on the session, and a resync follows (R59, R421). -/
def State.levelChanged (s : State) (c : CellId) : State :=
  let full := s.effLevel c == 2
  let s1 := if full then s
    else
      let s2 := s.onCell c fun x => { x with cpu := { x.cpu with dbg := { x.cpu.dbg with ebrkHalt := false, haltReq := false } } }
      if (s2.cell c).cpu.dbg.halted then s2.takeDbg c ⟨releaseRoute, 4, 0, 0⟩ else s2.pumpDbg c
  let k := s1.mirrorState c
  if k = 0 then s1
  else
    let s3 := s1.tellState (s1.cell c).sess.partNode (.full (s1.cell c).sess.partCell full)
    if s3.fullOn c then s3.setMirrorState c 5
    else if k = 5 then (s3.setMirrorState c 2).startResync c else s3

end Sys2Proof.Machine
end

