-- ==== Sys2Proof/Machine/MirrorOps.lean ====
section
/-! DEFINITION. The phases of a resync in the cells of this device (R349, R350). -/

namespace Sys2Proof.Config

/-- The boundary record of R349, whose layout the spec does not give: the complete state of a cell as bytes, and back
(DESIGN CHOICE, safe, log entry 19). -/
opaque boundaryBytes : Sys2Proof.Machine.Cell → Bytes
opaque boundaryCell : Bytes → Option Sys2Proof.Machine.Cell

end Sys2Proof.Config

namespace Sys2Proof.Machine

/-- The pages of a region of `n` bytes. -/
def pagesOf (region n : Nat) : List CopyItem := (List.range ((n + 65535) / 65536)).map fun p => .page region p

/-- What COPY sends beside writes: PRAM, WRAM, VRAM, both overlay buffers and the written asset pages; the reference store
travels in the boundary record (DESIGN CHOICE, safe, log entry 19). -/
def Cell.copyPages (c : Cell) (asset : List Nat) : List CopyItem :=
  let ov := 4 * c.pic.overlay.maxW * c.pic.overlay.maxH
  pagesOf 0 (Region.size .pram) ++ pagesOf 1 (Region.size .wram) ++ pagesOf 2 (Region.size .vram) ++
    asset.map (fun p => .page 3 p) ++ pagesOf 4 ov ++ pagesOf 5 ov

/-- An item as the STATE message that carries it; a page is read as it stands. -/
def Cell.copyMsg (c : Cell) (target : Nat) (i : CopyItem) : StateMsg := match i with
  | .page r p => .write target r (p * 65536) ((c.mem.regions.getD r []).readBytes (p * 65536) 65536)
  | .msg m => m

/-- Send the first item that waits. -/
def State.copyOne (s : State) (c : CellId) : State :=
  let m := s.mirrors[c]
  match m.toSend with
  | [] => s
  | i :: rest =>
    (s.setMirror c { m with toSend := rest, credit := m.credit - i.size }).tellState (s.copyTarget c).1
      ((s.cell c).copyMsg (s.copyTarget c).2 i)

/-- A line passes in COPY: the traffic limit of 20,000 Mb/s gives its bytes, and items leave while they fit (R349). -/
def State.copyDrain (s : State) (c : CellId) : State :=
  let m := s.mirrors[c]
  if m.phase ≠ .copy ∨ (s.cell c).sess.copies = false then s
  else
    let s1 := s.setMirror c { m with credit := m.credit + (s.cell c).cpl * 25 / 6 }
    (List.range m.toSend.length).foldl (fun s _ =>
      match (s.mirrors[c]).toSend with
      | [] => s
      | i :: _ => if i.size ≤ (s.mirrors[c]).credit then s.copyOne c else s) s1

/-- The primary's boundary G: COPY begins. -/
def State.copyStart (s : State) (c : CellId) : State :=
  let m := s.mirrors[c]
  (s.setMirror c { m with phase := .copy, toSend := (s.cell c).copyPages m.pages, credit := 0 }).setMirrorState c 3

/-- The primary's first boundary H after the last page has been sent: the writes that wait and the boundary record follow.
DEDUCED, unsafe, log entry 57. -/
def State.copyEnd (s : State) (c : CellId) : State :=
  let m := s.mirrors[c]
  let x := s.cell c
  let h := x.beam.frame
  let s1 := (List.range m.toSend.length).foldl (fun s _ => s.copyOne c) s
  let s2 := (s1.setMirror c { s1.mirrors[c] with phase := .switchP, h := h }).setObj (cellObj c 0x11) 7
    (m.g % 2 ^ 32 * 2 ^ 32 + h % 2 ^ 32)
  (s2.tell (.switch x.sessionId h) (some (s.copyTarget c).1)).tellState (s.copyTarget c).1
    (.record (s.copyTarget c).2 h (Config.boundaryBytes { x with outbox := [] }))

/-- Does the last page of a copy lie behind? -/
def Mirror.pagesSent (m : Mirror) : Bool := m.toSend.all fun i => match i with
  | .page _ _ => false
  | .msg _ => true

/-- A shadow's boundary G: it is held at line 0, cycle 0, counting and producing nothing.
DEDUCED, unsafe, log entry 57. -/
def State.holdShadow (s : State) (c : CellId) : State :=
  let s1 := s.onCell c fun x =>
    let y := x.frameEnd.wrapFrame
    { y with beam := { y.beam with held := true } }
  (s1.setMirror c { s1.mirrors[c] with phase := .hold }).setMirrorState c 3

/-- What a primary does for its mirror at the boundary of the frame that begins. -/
def State.mirrorBoundary (s : State) (c : CellId) : State :=
  let m := s.mirrors[c]
  let x := s.cell c
  if x.sess.copies = false ∨ s.mirrorState c = 0 then s
  else if m.phase = .idle ∧ m.g = x.beam.frame ∧ m.g ≠ 0 then s.copyStart c
  else if m.phase = .copy ∧ m.pagesSent = true then s.copyEnd c
  else s

/-- A shadow after its boundary record: the primary's state at H, with this device's memories, session and egress.
DEDUCED, unsafe, log entry 57. -/
def Cell.applyRecord (own rec : Cell) : Cell :=
  { rec with
    mem := { own.mem with fences := rec.mem.fences }
    regs := Sparse.normal regReset rec.regs
    sess := own.sess
    beam := { rec.beam with held := false }
    cpu := { rec.cpu with dbg := own.cpu.dbg }
    str := { rec.str with queue := [], sent := 0, egress := false }
    outbox := [] }

/-- The shadow is in step again: its slip is gone; the primary's device is told (DESIGN CHOICE, safe, log entry 23). -/
def State.inStep (s : State) (c : CellId) : State :=
  let x := s.cell c
  ((s.setMirror c { s.mirrors[c] with phase := .idle }).setMirrorState c 1).tell
    (.switch x.sessionId (s.mirrors[c]).h) (some x.sess.partNode)

end Sys2Proof.Machine
end

