-- ==== Sys2Proof/Machine/ExecCpu.lean ====
section
/-! DEFINITION. The commands of the cell processor (02_cell_processor_and_beam_time.md): one meaning each. -/

namespace Sys2Proof.Machine

/-- The outcome of every command: the device goes on. -/
abbrev Out := Host.Outcome State Fault Refusal

/-- Run an instruction of a cell's processor (R27, R28). DESIGN CHOICE, safe, log entry 4. -/
def State.instr (s : State) (c : CellId) (short : Bool) (body : Cell → Word → Cell) : Out :=
  .next (s.onCell c fun x => x.instr short body)

/-- ALU_INSTRUCTION (R27). -/
def execAluInstruction (c : CellId) (i : AluInstr) (short : Bool) (s : State) : Out :=
  s.instr c short fun x n => x.execAlu i n

/-- MUL (R27). -/
def execMul (c : CellId) (op : MulOp) (rd rs1 rs2 : Reg) (s : State) : Out :=
  s.instr c false fun x n => x.execMulI op rd rs1 rs2 n

/-- DIV (R27). -/
def execDiv (c : CellId) (op : DivOp) (rd rs1 rs2 : Reg) (s : State) : Out :=
  s.instr c false fun x n => x.execDivI op rd rs1 rs2 n

/-- BRANCH (R27). -/
def execBranch (c : CellId) (op : BranchOp) (rs1 rs2 : Reg) (off : BitVec 13) (short : Bool) (s : State) : Out :=
  s.instr c short fun x n => x.execBranchI op rs1 rs2 off n

/-- JAL_JALR (R27). -/
def execJalJalr (c : CellId) (i : JumpInstr) (short : Bool) (s : State) : Out := s.instr c short fun x n => x.execJump i n

/-- LOAD (R27, R34 to R38, R49). -/
def execLoad (c : CellId) (op : LoadOp) (rd rs1 : Reg) (off : BitVec 12) (short : Bool) (s : State) : Out :=
  s.instr c short fun x n => x.execLoadI op rd rs1 off n

/-- STORE (R27, R34 to R38, R49). -/
def execStore (c : CellId) (op : StoreOp) (rs1 rs2 : Reg) (off : BitVec 12) (short : Bool) (s : State) : Out :=
  s.instr c short fun x n => x.execStoreI op rs1 rs2 off n

/-- CSR_INSTRUCTION (R32, R33); one that names mlwait is MLWAIT_WRITE's when it writes, and reads it here. -/
def execCsrInstruction (c : CellId) (op : CsrOp) (csr : BitVec 12) (rd : Reg) (src : CsrSrc) (s : State) : Out :=
  s.instr c false fun x n => if csr = 0x7C0 then x.execMlwait op rd src n else x.execCsr op csr rd src n

/-- MLWAIT_WRITE (R39, R40). -/
def execMlwaitWrite (c : CellId) (op : CsrOp) (rd : Reg) (src : CsrSrc) (s : State) : Out :=
  s.instr c false fun x n => x.execMlwait op rd src n

/-- FENCE: one cycle, no operation (R27). -/
def execFence (c : CellId) (s : State) : Out := s.instr c false fun x n => x.retire 1 n

/-- WFI (R27). -/
def execWfi (c : CellId) (s : State) : Out := s.instr c false fun x n => x.execWfiI n

/-- ECALL: the environment-call exception from machine mode, whose mtval is 0 (R27). -/
def execEcall (c : CellId) (s : State) : Out := s.instr c false fun x _ => x.except 11 0

/-- EBREAK (R435); a halt lets operations that waited for it run. -/
def execEbreak (c : CellId) (short : Bool) (s : State) : Out :=
  .next ((s.onCell c fun y => y.instr short fun x n => x.execEbreakI n).pumpDbg c)

/-- MRET (R27). -/
def execMret (c : CellId) (s : State) : Out := s.instr c false fun x n => x.execMretI n

/-- ILLEGAL_INSTRUCTION (R26); `bits` are the instruction's, a compressed one in bits 15:0. -/
def execIllegalInstruction (c : CellId) (bits : Word) (s : State) : Out :=
  s.instr c (bits.toNat % 4 != 3) fun x _ => x.except 2 (illegalTval bits)

/-- WAIT_TARGET_REACHED (R39). -/
def execWaitTargetReached (c : CellId) (s : State) : Out := .next (s.onCell c Cell.waitReached)

/-- WFI_WAKE (R27). -/
def execWfiWake (c : CellId) (s : State) : Out := .next (s.onCell c Cell.wfiWake)

/-- INTERRUPT_TAKEN (R41 to R43). -/
def execInterruptTaken (c : CellId) (s : State) : Out := .next (s.onCell c Cell.takeInterrupt)

/-! ## Register writes that are commands of their own -/

/-- A word store with the tenant program's rights to a register of a running cell (R8, R37). -/
def Cell.busWrite (c : Cell) (off : Nat) (v : Word) : Cell :=
  if c.running then c.flush.storeReg off v c.flush.beam.fpos else c

/-- REGISTER_WRITE (R8 to R11). -/
def execRegisterWrite (c : CellId) (off : BitVec 16) (v : Word) (s : State) : Out :=
  .next (s.onCell c fun x => x.busWrite (off.toNat / 4 * 4) v)

/-- COMMIT_GO (R74, R76). -/
def execCommitGo (c : CellId) (s : State) : Out := .next (s.onCell c fun x => x.busWrite Reg.RST_COMMIT 1)

/-- CMP_PALDATA_WRITE (R140). -/
def execCmpPaldataWrite (c : CellId) (v : Word) (s : State) : Out :=
  .next (s.onCell c fun x => x.busWrite Reg.CMP_PALDATA v)

/-- SCL_CDATA_WRITE (R155). -/
def execSclCdataWrite (c : CellId) (v : Word) (s : State) : Out := .next (s.onCell c fun x => x.busWrite Reg.SCL_CDATA v)

/-- BLT_SUBMIT (R173 to R176). -/
def execBltSubmit (c : CellId) (v : Word) (s : State) : Out := .next (s.onCell c fun x => x.busWrite Reg.BLT_SUBMIT v)

/-- DMA_START (R183). -/
def execDmaStart (c : CellId) (ch : Fin 8) (s : State) : Out :=
  .next (s.onCell c fun x => x.busWrite (chReg Reg.DMA_CHCTL ch) 1)

/-- DMA_STOP (R183). -/
def execDmaStop (c : CellId) (ch : Fin 8) (s : State) : Out :=
  .next (s.onCell c fun x => x.busWrite (chReg Reg.DMA_CHCTL ch) 2)

/-- DMA_EVTSET_WRITE (R185). -/
def execDmaEvtsetWrite (c : CellId) (v : Word) (s : State) : Out :=
  .next (s.onCell c fun x => x.busWrite Reg.DMA_EVTSET v)

/-- TMR_GO (R204). -/
def execTmrGo (c : CellId) (v : Word) (s : State) : Out := .next (s.onCell c fun x => x.busWrite Reg.TMR_GO v)

/-- TIMER_CNT_WRITE (R199). -/
def execTimerCntWrite (c : CellId) (n : Fin 8) (v : Word) (s : State) : Out :=
  .next (s.onCell c fun x => x.busWrite (Cell.tmrCnt n.val) v)

/-- TIMER_CNT_READ: the latch of a processor read (R203). -/
def execTimerCntRead (c : CellId) (n : Fin 8) (s : State) : Out :=
  .next (s.onCell c fun x => if x.running then x.flush.cntReadEffect n else x)

/-- WDG_FEED (R207). -/
def execWdgFeed (c : CellId) (v : Word) (s : State) : Out := .next (s.onCell c fun x => x.busWrite Reg.WDG_FEED v)

/-- WDG_KEY (R208). -/
def execWdgKey (c : CellId) (v : Word) (s : State) : Out := .next (s.onCell c fun x => x.busWrite Reg.WDG_KEY v)

/-- WDG_VALUE_STORE (R208). -/
def execWdgValueStore (c : CellId) (r : WdgValueReg) (v : Word) (s : State) : Out :=
  .next (s.onCell c fun x => x.busWrite (match r with
    | .cfg => Reg.WDG_CFG
    | .load => Reg.WDG_LOAD) v)

/-- AUD_PDATA_WRITE (R229). -/
def execAudPdataWrite (c : CellId) (v : Word) (s : State) : Out := .next (s.onCell c fun x => x.busWrite Reg.AUD_PDATA v)

/-- AUD_SWAP_GO (R229). -/
def execAudSwapGo (c : CellId) (s : State) : Out := .next (s.onCell c fun x => x.busWrite Reg.AUD_SWAP 1)

/-- SAMPLE_VOICE_TRIG (R219, R234). -/
def execSampleVoiceTrig (c : CellId) (n : Fin 32) (v : Word) (s : State) : Out :=
  .next (s.onCell c fun x => x.busWrite (svReg Reg.AUD_SVCTL n.val) v)

/-- WAVE_VOICE_TRIG (R224). -/
def execWaveVoiceTrig (c : CellId) (w : Fin 8) (v : Word) (s : State) : Out :=
  .next (s.onCell c fun x => x.busWrite (wvReg Reg.AUD_WVCTL w.val) v)

/-- AUD_POS_WRITE (R222). -/
def execAudPosWrite (c : CellId) (n : Fin 32) (v : Word) (s : State) : Out :=
  .next (s.onCell c fun x => x.busWrite (svReg Reg.AUD_SVPOS n.val) v)

/-- INP_POP (R295). -/
def execInpPop (c : CellId) (s : State) : Out := .next (s.onCell c fun x => x.busWrite Reg.INP_POP 1)

/-- INP_RPTSEND (R292). -/
def execInpRptsend (c : CellId) (v : Word) (s : State) : Out := .next (s.onCell c fun x => x.busWrite Reg.INP_RPTSEND v)

/-- STIM_PORT_WRITE (R438). -/
def execStimPortWrite (c : CellId) (k : Fin 32) (v : Word) (s : State) : Out :=
  .next (s.onCell c fun x => x.busWrite (Reg.STIM_PORT + 4 * k.val) v)

/-- ID_LO_READ: the latch of a processor read of a LO register (R408). -/
def execIdLoRead (c : CellId) (k : IdCounter) (s : State) : Out :=
  .next (s.onCell c fun x => if x.running then x.flush.idLatch k else x)

end Sys2Proof.Machine
end

