-- ==== Sys2Proof/Machine/House.lean ====
section
/-! DEFINITION. House time and the house-lock loop (R65 to R72): SYNC_IN, house-frame edges, PPS, PTP. -/

namespace Sys2Proof.Machine

/-! ## Periods and sources -/

/-- Three times the family's period in nanoseconds (R64, R67). -/
def period3 (family : Nat) : Nat := if family = 0 then 50000000 else if family = 1 then 50050000 else 60000000

/-- Is `d` within 50 ppm and 200 ns of `k` periods (R69)? -/
def nearPeriods (family : Nat) (d k : Nat) : Bool :=
  let e : Int := 3 * (d : Int) - (k * period3 family : Nat)
  decide (e.natAbs * 1000000 ≤ 50 * k * period3 family + 600 * 1000000)

/-- Is `d` within 2 µs of `k` periods? DEDUCED, safe, log entry 56. -/
def nearPredicted (family : Nat) (d k : Nat) : Bool :=
  decide ((3 * (d : Int) - (k * period3 family : Nat)).natAbs ≤ 6000)

/-- The time source in use (R65, R384): 0 PTP, 1 PPS_IN, 2 free running, 3 SYNC frames.
DEDUCED, unsafe, log entry 22. -/
def State.timeSource (s : State) : Nat :=
  if s.ring.manager ≠ 0xFF ∧ !s.isManager then 3 else if s.house.ptp then 0 else if s.house.pps then 1 else 2

/-- House-frame edges come from house time and not from SYNC_IN (R67). -/
def State.timeFrames (s : State) : Bool := s.obj 0x2000 2 == 1

def LockState.code : LockState → Nat
  | .acquire => 0
  | .pullin => 1
  | .locked => 2
  | .holdover => 3

/-- The loop enters a state, with its notification (R69, R379). -/
def State.setLoop (s : State) (l : LockState) : State :=
  if s.house.loop = l then s
  else
    let h := { s.house with loop := l, good := 0, missed := 0 }
    let s1 := if l = .holdover then (s.setHouse h).markSupply 2 else s.setHouse h
    s1.notify 0x07 none 0x2000 3 [BitVec.ofNat 8 l.code]

/-- The loop returns to ACQUIRE: at reset, or when source or family is changed. -/
def State.acquire (s : State) : State :=
  let s1 := s.setLoop .acquire
  s1.setHouse { s1.house with refEdge := none, good := 0, missed := 0, foreign := 0, syncOut := false }

/-! ## Edges (R69) -/

/-- The period count, 1 to 3, with which an edge `d` after the reference edge qualifies, if it does.
DEDUCED, safe, log entry 56. -/
def State.qualifies (s : State) (d : Nat) : Option Nat :=
  let tracking := s.house.loop == .locked || s.house.loop == .pullin
  [1, 2, 3].find? fun k => nearPeriods s.family d k && (!tracking || nearPredicted s.family d k)

/-- After a qualifying edge the loop may change its state. -/
def State.loopStep (s : State) (phaseError : Int) : State :=
  let h := s.house
  match h.loop with
  | .acquire => if 8 ≤ h.good then s.setLoop .pullin else s
  | .holdover => if 8 ≤ h.good then s.setLoop .pullin else s
  | .pullin => if phaseError.natAbs ≤ 32 then s.setLoop .locked else s
  | .locked => if 64 < phaseError.natAbs then s.setLoop .pullin else s

/-- A qualifying edge: the new reference edge; consecutive ones have k = 1. -/
def State.goodEdge (s : State) (t k : Nat) (phaseError : Int) : State :=
  let h := { s.house with refEdge := some t, missed := 0, good := if k = 1 then s.house.good + 1 else 0 }
  (s.setHouse h).loopStep phaseError

/-- A stray edge: counted; in ACQUIRE and HOLDOVER the new reference edge. -/
def State.strayEdge (s : State) (t : Nat) : State :=
  let s1 := s.bumpObj 0x2000 4
  if s.house.loop = .acquire ∨ s.house.loop = .holdover then
    s1.setHouse { s1.house with refEdge := some t, good := 0 }
  else s1

/-- Follow SYNC_IN edges that come at the period of another family (R71). -/
def State.watchForeign (s : State) (t : Nat) : State :=
  let other := match s.house.syncPrev with
    | some p => [0, 1, 2].any fun f => f != s.family && nearPeriods f (t - p) 1
    | none => false
  s.setHouse { s.house with syncPrev := some t, foreign := if other then s.house.foreign + 1 else 0 }

/-- SYNC_IN_EDGE. -/
def execSyncInEdge (t : Nat) (phaseError : Int) (s0 : State) : Out :=
  let s := s0.at t
  if !s.up || s.timeFrames then .next s
  else
    let s1 := s.watchForeign t
    .next (match s1.house.refEdge with
      | none => s1.setHouse { s1.house with refEdge := some t, good := 0 }
      | some r => match s1.qualifies (t - r) with
        | some k => s1.goodEdge t k phaseError
        | none => s1.strayEdge t)

/-- Is `t` a house-frame instant of the TIME source (R67)? -/
def timeInstant (family t : Nat) : Bool :=
  let k := (3 * t + 2) / period3 family
  k * period3 family / 3 == t

/-- HOUSE_FRAME_EDGE: the device's own edge (R67), from which a new fence epoch is in use (R353); with TIME it drives the loop, every edge qualifying while house time
follows a source (DEDUCED, unsafe, log entry 22). -/
def execHouseFrameEdge (t : Nat) (phaseError : Int) (s0 : State) : Out :=
  let s := s0.at t
  if !s.up then .next s
  else if s.timeFrames && !timeInstant s.family t then .next s
  else
    let free := s.timeSource == 2
    let tracking := s.house.loop == .locked || s.house.loop == .pullin
    let s1 := if !s.timeFrames then (if tracking then s.loopStep phaseError else s)
      else if free && tracking then s.setLoop .holdover
      else if free && s.house.loop == .holdover then s
      else match s.house.refEdge with
        | none => s.setHouse { s.house with refEdge := some t, good := 0 }
        | some _ => s.goodEdge t 1 phaseError
    let s2 := s1.setHouse { s1.house with lastEdge := t, edges := s1.house.edges + 1, syncOut := s1.house.loop != .acquire }
    .next (match s2.ring.nextEpoch with
      | some (v, at') => if at' ≤ t then s2.setRing { s2.ring with epoch := v, nextEpoch := none } else s2
      | none => s2)

/-- PREDICTED_EDGE: a predicted edge of SYNC_IN passes with no qualifying edge (R69, R71).
DEDUCED, safe, log entry 56. -/
def execPredictedEdge (t : Nat) (s0 : State) : Out :=
  let s := s0.at t
  let tracking := s.house.loop == .locked || s.house.loop == .pullin
  if !s.up || s.timeFrames || !tracking then .next s
  else
    let n := s.house.missed + 1
    let s1 := s.setHouse { s.house with missed := n, good := 0 }
    if n < 3 then .next s1
    else
      let s2 := s1.setLoop .holdover
      .next (if s1.house.foreign = 0 then s2
        else
          let ns := match s.house.syncPrev, s.house.refEdge with
            | some p, some r => (p - r) / (s.house.foreign + 1)
            | _, _ => 0
          s2.notify 0x06 none 0x2000 1 (beBytes 4 ns))

/-- SYNC_OUT_END (R72). -/
def execSyncOutEnd (s : State) : Out := .next (s.setHouse { s.house with syncOut := false })

/-! ## House time (R65, R66, R72) -/

/-- PPS_IN_EDGE: a whole TAI second, whose count the operator has given (R65). -/
def execPpsInEdge (t : Nat) (s0 : State) : Out :=
  let s := s0.at t
  if !s.up || s.house.ptp || s.obj 0x2000 8 == 0 || s.timeSource == 3 then .next s
  else match s.house.ppsNext with
    | none => .next s
    | some sec => .next (s.setHouse { s.house with time := sec * 1000000000, ppsNext := some (sec + 1), pps := true })

/-- HOUSE_SECOND: PPS_OUT goes high, but not while house time runs free (R72). -/
def execHouseSecond (t : Nat) (s0 : State) : Out :=
  let s := s0.at t
  .next (s.setHouse { s.house with ppsOut := s.up && s.timeSource != 2 && t % 1000000000 == 0 })

/-- PPS_OUT_END (R72). -/
def execPpsOutEnd (s : State) : Out := .next (s.setHouse { s.house with ppsOut := false })

/-- PTP_MESSAGE: the ordinary clock of the active and of the standby manager (R66).
DESIGN CHOICE, unsafe, log entry 89. -/
def execPtpMessage (m : PtpMsg) (s : State) : Out :=
  let mine := s.up && s.obj 0x2001 1 == 1 && (s.isManager || (s.ring.standby == s.ring.node && s.ring.node != 0xFF)) &&
    m.transport == s.obj 0x2001 2 && m.domain == s.obj 0x2001 3
  if !mine then .next s
  else match m.event with
    | .unsupported => .next s
    | .announce id sel => .next (if sel then (s.setObj 0x2001 4 (id % 2 ^ 64)).setObj 0x2001 7
        (if s.obj 0x2001 7 = 3 ∧ s.obj 0x2001 4 = id % 2 ^ 64 then 3 else 2) else s)
    | .measured off delay =>
      if s.obj 0x2001 7 < 2 then .next s
      else
        let s1 := ((s.setObj 0x2001 5 (wrap 64 off)).setObj 0x2001 6 (delay % 2 ^ 32)).setObj 0x2001 7 3
        .next (if s.isManager then
          s1.setHouse { s1.house with ptp := true, time := ((s.house.time : Int) - off).toNat } else s1)

/-- HOUSE_TIME_SOURCE_LOSS: house time falls back to the next source of R65. -/
def execHouseTimeSourceLoss (s : State) : Out :=
  if s.house.ptp then .next ((s.setObj 0x2001 7 (s.obj 0x2001 1)).setHouse { s.house with ptp := false })
  else .next (s.setHouse { s.house with pps := false })

end Sys2Proof.Machine
end

