-- ==== Sys2Proof/Machine/Net.lean ====
section
/-! DEFINITION. Packets, uplink frames and input messages (11_streams_input_packet_engine.md): egress, ARP and neighbour
discovery, viewer requests, stamping and reports. -/

namespace Sys2Proof.Machine

/-! ## Egress (R272, R333, R345, R352, R355) -/

/-- FENCED: the manager without a lease that lets it egress, any other device without a recent SYNC that carries LEASE HELD
(R346, R352). -/
def State.fenced (s : State) : Bool :=
  if s.isManager then !(s.ring.lease == 1 || s.ring.underGrant) else !s.ring.syncLease

/-- A unit whose packets have all left enters the beacon of a mirrored primary (R345). -/
def State.enterUnit (s : State) (c : CellId) (u : EUnit) : State :=
  if s.mirrorState c = 0 ∨ (s.cell c).sess.role ≠ .primary ∨ u.kind = .keepalive then s
  else s.setRing { s.ring with
    entries := s.ring.entries ++ [⟨c.val, u.isAudio, u.stripe, u.frame % 2 ^ 32, u.check⟩] }

/-- A built packet leaves: on the manager's uplink, or round the ring to the active manager (R272, R333). -/
def State.sendPacket (s : State) (iface : Nat) (first : Bool) (frame : Bytes) : State :=
  if s.isManager then s.send (.uplink iface frame)
  else s.ringSend .stream (8 * b2n first + iface) s.ring.manager false frame

/-- The next step of a cell's egress: one packet, or a unit that is withheld or discarded whole (R275, R301, R355). -/
def State.egress (s : State) (c : CellId) : State :=
  let x := s.cell c
  match x.str.queue with
  | [] => s
  | u :: _ =>
    if !x.str.egress then s
    else if !u.intact then (s.setCell c x.dropUnit).enterUnit c u
    else if s.fenced || (s.mirrors[c]).reopen then
      (s.setCell c x.dropUnit).setMirror c { s.mirrors[c] with reopen := true }
    else match s.keysOf c with
      | none => s
      | some k => match x.nextPacket (s.uplinkAddr x.uplinkIf) k.master k.salt with
        | none => s
        | some (f, audio, y) =>
          let first := u.kind == .video && x.str.sent == 0
          let s1 := ((s.setCell c y).sendPacket x.uplinkIf first f).bumpObj (cellObj c 0x1F) (if audio then 3 else 2)
          if y.str.sent = 0 then s1.enterUnit c u else s1

/-- Everything that waits leaves, before a boundary at which egress stops (R325, R327, R351). -/
def State.flushEgress (s : State) (c : CellId) : State :=
  let x := s.cell c
  (List.range ((x.str.queue.map fun u => (x.unitPayloads u).length + 1).sum)).foldl (fun s _ => s.egress c) s

/-- STREAM_PACKET_EGRESS (R272 to R282, R301). -/
def execStreamPacketEgress (c : CellId) (s : State) : Out :=
  let st := (s.cell c).sess.state
  .next (if s.up && !s.power.withdrawn && (st == .running || st == .migrating) then s.egress c else s)

/-! ## Frames on the uplink (R283) -/

/-- An Ethernet frame's type, payload and tag, when it matches the receive VLAN. -/
def vlanView (vid : Nat) (f : Bytes) : Option (Nat × Bytes) :=
  let t := field f 12 2
  if vid = 0 then (if t = 0x8100 then none else some (t, f.drop 14))
  else if t = 0x8100 ∧ field f 14 2 % 4096 = vid ∧ field f 16 2 ≠ 0x8100 then some (field f 16 2, f.drop 18)
  else none

/-- A reply frame to the source of a frame, under the receive VLAN. DESIGN CHOICE, unsafe, log entry 24. -/
def State.uplinkReply (s : State) (iface dst typ : Nat) (payload : Bytes) : State :=
  s.send (.uplink iface (ethernet dst (s.uplinkAddr iface).mac (s.obj 0x2010 8) 0 typ payload))

/-- An ARP request for an address of the interface. -/
def isArp (a : UplinkAddr) (p : Bytes) : Bool :=
  field p 0 8 == 0x0001080006040001 && a.ip4 != 0 && field p 24 4 == a.ip4 && decide (28 ≤ p.length)

/-- The answer to an ARP request. -/
def arpReply (a : UplinkAddr) (p : Bytes) : Bytes :=
  [0, 1, 8, 0, 6, 4, 0, 2] ++ beBytes 6 a.mac ++ beBytes 4 a.ip4 ++ slice p 8 10

/-- An IPv6 neighbour solicitation for an address of the interface. DESIGN CHOICE, unsafe, log entry 24. -/
def isSolicit (a : UplinkAddr) (p : Bytes) : Bool :=
  field p 6 1 == 58 && field p 7 1 == 255 && field p 40 2 == 0x8700 && a.ip6 != 0 && field p 48 16 == a.ip6

/-- The neighbour advertisement that answers it, with its destination address (DESIGN CHOICE, unsafe, log entry 24). -/
def advert (a : UplinkAddr) (p : Bytes) : Bytes :=
  let src := field p 8 16
  let dst := if src = 0 then 0xFF020000000000000000000000000001 else src
  let body := fun sum : Nat => [136, 0] ++ beBytes 2 sum ++ [if src = 0 then 0x20 else 0x60, 0, 0, 0] ++ beBytes 16 a.ip6 ++
    [2, 1] ++ beBytes 6 a.mac
  let pseudo := beBytes 16 a.ip6 ++ beBytes 16 dst ++ [0, 0, 0, 32, 0, 0, 0, 58]
  [0x60, 0, 0, 0, 0, 32, 58, 255] ++ beBytes 16 a.ip6 ++ beBytes 16 dst ++ body (checksum (pseudo ++ body 0))

/-- UDP ports that the device serves: PTP, the dictionary and, on the active manager, the input port and SRTCP.
DEDUCED, unsafe, log entry 55. -/
def State.udpServed (s : State) (src dport : Nat) : Bool :=
  dport == 319 || dport == 320 || dport == s.power.dictPort ||
    (s.isManager && (dport == s.obj 0x2010 9 ||
      s.hosts.any fun h => field h.desc 138 2 + 1 == dport && field h.desc 164 16 == src))

/-- Is a frame handed on to a protocol of its own? DEDUCED, unsafe, log entry 55. -/
def State.uplinkServed (s : State) (iface typ : Nat) (p : Bytes) : Bool :=
  let a := s.uplinkAddr iface
  if typ = 0x88F7 then true
  else if typ = 0x0800 then
    let dst := field p 16 4
    field p 0 1 == 0x45 && field p 6 2 % 0x4000 == 0 && field p 9 1 == 17 &&
      ((a.ip4 != 0 && dst == a.ip4) || dst == 0xE0000181 || dst == 0xE000006B) && s.udpServed (field p 12 4) (field p 22 2)
  else if typ = 0x86DD then
    let dst := field p 24 16
    field p 6 1 == 17 && ((a.ip6 != 0 && dst == a.ip6) || dst / 2 ^ 120 == 0xFF) && s.udpServed (field p 8 16) (field p 42 2)
  else false

/-- A frame that passed its FCS. DEDUCED, unsafe, log entry 55. -/
def State.uplinkFrame (s : State) (iface : Nat) (f : Bytes) : State :=
  let a := s.uplinkAddr iface
  let drop := s.bumpObj 0x2011 3
  if 1518 < f.length then drop
  else match vlanView (s.obj 0x2010 8) f with
    | none => drop
    | some (typ, p) =>
      if typ = 0x0806 then
        if isArp a p then s.uplinkReply iface (field p 8 6) 0x0806 (arpReply a p) else drop
      else if typ = 0x86DD ∧ isSolicit a p = true then
        s.uplinkReply iface (if field p 8 16 = 0 then 0x333300000001 else field f 6 6) 0x86DD (advert a p)
      else if s.uplinkServed iface typ p then s
      else drop

/-- UPLINK_FRAME_RECEIVE; what the frame carries for PTP, the dictionary, input or SRTCP is a command of its own. -/
def execUplinkFrameReceive (iface : Fin 2) (frame : Bytes) (fcsOk : Bool) (s : State) : Out :=
  if !s.up || !s.power.uplink then .next s
  else
    let s1 := s.bumpObj 0x2011 1
    .next (if fcsOk then s1.uplinkFrame iface.val frame else s1.bumpObj 0x2011 2)

/-! ## Viewer requests (R284, R287) -/

/-- Add to a count of the stream record of a session's cell, wherever it is hosted (R303, DESIGN CHOICE, safe, log entry 23). -/
def State.countStream (s : State) (h : RingSession) (sub n : Nat) : State :=
  if h.node = s.ring.node then s.addObj (0x3000 + 0x20 * (h.cell % 64) + 0x1F) sub n
  else s.tellState h.node (.count h.cell sub n)

/-- A viewer's request for an IDR. -/
def State.viewerIdr (s : State) (h : RingSession) : State := (s.countStream h 6 1).stampIdrFor h

/-- An authenticated SRTCP packet with a request for the video stream, with an index above the last accepted. -/
def State.srtcp (s : State) (p : Srtcp) : State :=
  match s.hosts.find? fun h => decide (h.role = 1) && h.admitted && field h.desc 144 4 == p.ssrc.toNat &&
    field h.desc 138 2 + 1 == p.dstPort && field h.desc 164 16 == p.srcAddr with
  | none => s
  | some h =>
    let last := (s.net.srtcp.find? fun q => q.1 = h.session).map Prod.snd
    if !p.authentic || (match last with
      | some k => decide (p.index ≤ k)
      | none => false) then s
    else (s.setNet { s.net with
      srtcp := (s.net.srtcp.filter fun q => q.1 ≠ h.session) ++ [(h.session, p.index)] }).viewerIdr h

/-- PLI (R284). -/
def execPli (p : Srtcp) (s : State) : Out := .next (if s.up && s.isManager then s.srtcp p else s)

/-- FIR (R284). -/
def execFir (p : Srtcp) (s : State) : Out := .next (if s.up && s.isManager then s.srtcp p else s)

/-! ## Stamping (R289) -/

/-- A phase offset in nanoseconds (R68). -/
def phaseNs (family φ : Nat) : Nat := if family = 1 then φ * 1001 / 600 else φ * 5 / 3

/-- Whole CELL cycles in a time, at the family's nominal frequency. -/
def cyclesIn (family ns : Nat) : Nat := if family = 1 then ns * 600 / 1001 else ns * 3 / 5

/-- beam_line: the absolute line of a session's beam at house time `t`. -/
def State.beamLine (s : State) (h : RingSession) (i : SessInput) (t : Nat) : Nat :=
  match i.base with
  | none => 0
  | some b =>
    let e := s.house.lastEdge + phaseNs s.family h.phase
    let n : Int := (s.house.edges : Int) - b
    let at' := if e ≤ t then (e, n) else (e - period3 s.family / 3, n - 1)
    at'.2.toNat * h.vtotal + Nat.min (cyclesIn s.family (t - at'.1) / h.cpl) (h.vtotal - 1)

/-- Stamps of line `a`. -/
def SessInput.count (i : SessInput) (a : Nat) : Nat := Sparse.get (fun _ => 0) i.stamped a

/-- The first line from `a` on with room for a stamp, among the next `fuel`. -/
def SessInput.room (i : SessInput) : Nat → Nat → Nat
  | 0, a => a
  | fuel + 1, a => if 8 ≤ i.count a then SessInput.room i fuel (a + 1) else a

/-- Stamp an INPUT at line `now` of its session's beam: the line and the record after it, none for OVERLOAD. -/
def SessInput.stamp (i : SessInput) (now delay : Nat) : Option (Nat × SessInput) :=
  let live := i.stamped.filter fun q => decide (now + 1 ≤ q.1 + delay)
  if 120 ≤ (live.map Prod.snd).sum then none
  else
    let j := { i with stamped := live }
    let a := j.room 16 (Nat.max (now + delay) i.lastA)
    some (a, { j with
      stamped := Sparse.put (fun _ => 0) live a (j.count a + 1), lastA := a, seq := (i.seq + 1) % 2 ^ 32 })

/-- The stamped message (R290). -/
def stampedBytes (session frame line player seq : Nat) (payload : Bytes) : Bytes :=
  let m := beBytes 8 session ++ beBytes 4 frame ++ beBytes 2 (line % 4096) ++
    [BitVec.ofNat 8 player, BitVec.ofNat 8 payload.length] ++ beBytes 4 seq ++ payload
  m ++ beBytes 4 (crc32c m).toNat

/-! ## Input messages (R285 to R288) -/

/-- Does the datagram pass step 1 of R287? -/
def inputFormed (u : Bytes) : Bool :=
  let len := field u 3 1
  let typ := field u 1 1
  decide (u.length = 32 + len ∧ 4 ≤ u.length ∧ field u 0 1 = 1 ∧ field u 2 1 ≤ 15) &&
    (decide (typ = 1 ∧ len ≤ 48) || decide (typ = 2 ∧ len = 0))

/-- Record a player's SEQ, and its address when one is given. -/
def SessInput.note (i : SessInput) (player seq : Nat) (addr : Option NetAddr) : SessInput :=
  let old := (i.players.find? fun p => p.player = player).bind Player.addr
  { i with players := (i.players.filter fun p => p.player ≠ player) ++ [⟨player, seq, addr.or old⟩] }

/-- The acknowledgement of a message (R288). -/
def State.ackInput (s : State) (h : RingSession) (dst : NetAddr) (player seq result line frame num : Nat) : State :=
  if field h.desc 129 1 ≠ 1 then s
  else s.toPlayer h dst (protectedMsg h.key h.salt 0x81 1 player h.session seq
    ([BitVec.ofNat 8 result, 0] ++ beBytes 2 (line % 65536) ++ beBytes 4 frame ++ beBytes 4 num))

/-- Step 6 for an INPUT: stamped, or OVERLOAD. -/
def State.inputStamp (s : State) (h : RingSession) (t : Nat) (src : NetAddr) (player seq : Nat) (payload : Bytes) : State :=
  let i := (s.inputOf h.session).note player seq (some src)
  match i.stamp (s.beamLine h i t) h.delay with
  | none => (((s.setInput i).countStream h 0x0B 1)).ackInput h src player seq 3 0 0 0
  | some (a, j) =>
    let frame := a / h.vtotal % 2 ^ 32
    let line := a % h.vtotal
    let s1 := s.setInput j
    let s2 := s1.setNet { s1.net with inputQ := s1.net.inputQ ++ [stampedBytes h.session frame line player j.seq payload] }
    (s2.ackInput h src player seq 0 line frame j.seq)

/-- Steps 4 to 6 of R287 for an authentic message. -/
def State.inputTake (s : State) (h : RingSession) (t : Nat) (src : NetAddr) (loss : Bool) (player seq : Nat)
    (payload : Bytes) : State :=
  let i := s.inputOf h.session
  let replay := (i.players.find? fun p => p.player = player).any fun p => decide (seq ≤ p.seq)
  if replay then s.countStream h 5 (2 ^ 32)
  else if h.state ≠ 3 ∧ h.state ≠ 5 then
    ((s.setInput (i.note player seq none)).countStream h 5 1).ackInput h src player seq 2 0 0 0
  else if loss then
    ((s.setInput (i.note player seq (some src))).ackInput h src player seq 0 0 0 0).viewerIdr h
  else s.inputStamp h t src player seq payload

/-- The steps of R287. -/
def State.inputMsg (s : State) (t : Nat) (src : NetAddr) (u : Bytes) : State :=
  if !(inputFormed u) then s.bumpObj 0x2011 6
  else match (s.hosts.filter RingSession.admitted).find? fun h => decide (h.session = field u 4 8 ∧ h.role ≠ 2) with
    | none => s.bumpObj 0x2011 7
    | some h =>
      let player := field u 2 1
      let seq := field u 12 4
      match Config.gcmOpen h.key (inputIv h.salt 0 player seq) (u.take 16) (u.drop 16) with
      | none => s.bumpObj 0x2011 8
      | some payload => s.inputTake h t src (field u 1 1 == 2) player seq (fitBytes (field u 3 1) payload)

/-- INPUT_MESSAGE (R287 to R289). -/
def execInputMessage (t : Nat) (src : NetAddr) (udp : Bytes) (s0 : State) : Out :=
  let s := s0.at t
  .next (if s.up && s.isManager && !(inputFormed udp && field udp 1 1 == 2) then s.inputMsg t src udp else s)

/-- PICTURE_LOSS (R287). -/
def execPictureLoss (t : Nat) (src : NetAddr) (udp : Bytes) (s0 : State) : Out :=
  let s := s0.at t
  .next (if s.up && s.isManager && inputFormed udp && field udp 1 1 == 2 then s.inputMsg t src udp else s)

/-! ## Stamped messages (R290, R294) -/

/-- A stamped message reaches the cells of this device that hold its session; the standby follows the stamps (R341). -/
def State.stampedHere (s : State) (m : Bytes) : State :=
  let session := stampedSession m
  let s1 := (List.finRange 64).foldl (fun s c =>
    let x := s.cell c
    if decide (2 ≤ x.sess.state.code ∧ x.sess.state.code ≤ 5) && x.sessionId == session then
      let s1 := s.onCell c fun y => y.stampedReceive m
      s1.bumpObj (cellObj c 0x1F) 4
    else s) s
  if s.ring.standby = s.ring.node ∧ s.isManager = false then
    match parseStamped m, s.sessionInfo session with
    | some (_, x), some h =>
      let i := s1.inputOf session
      let a := x.frame * h.vtotal + x.line
      s1.setInput { i with stamped := Sparse.put (fun _ => 0) i.stamped a (i.count a + 1), lastA := a, seq := x.seq }
    | _, _ => s1
  else s1

/-- INPUT_FRAME_SEND: up to 4 stamped messages that wait leave in one INPUT frame, and reach the manager's own cells
(R290, R336). -/
def execInputFrameSend (s : State) : Out :=
  let ms := s.net.inputQ.take 4
  if !s.up || !s.isManager || ms.isEmpty then .next s
  else
    let s1 := s.setNet { s.net with inputQ := s.net.inputQ.drop 4 }
    .next (ms.foldl State.stampedHere (s1.ringSend .input 0 0 true ms.flatten))

/-- STAMPED_MESSAGE_RECEIVE (R294, R301). -/
def execStampedMessageReceive (msg : Bytes) (s : State) : Out := .next (if s.up then s.stampedHere msg else s)

/-- REPORT_SEND: the oldest report that waits at the active manager goes to its player, or is discarded and counted
(R293). -/
def execReportSend (s : State) : Out := match s.net.reports with
  | [] => .next s
  | (session, r) :: rest =>
    let s1 := s.setNet { s.net with reports := rest }
    .next (if !s.up || !s.isManager then s
      else match s1.sessionInfo session with
        | none => s1
        | some h =>
          match ((s1.inputOf session).players.find? fun p => p.player = r.player).bind Player.addr with
          | none => s1.countStream h 8 1
          | some dst => s1.toPlayer h dst (protectedMsg h.key h.salt 0x82 2 r.player session r.seq r.payload))

end Sys2Proof.Machine
end

