-- ==== Sys2Proof/Machine/KeeperOps.lean ====
section
/-! DEFINITION. Keeper's shared operations: signatures, session keys and their bundle, and the sealing of metering records
(R388, R393, R397, R398, R401 to R407). -/

namespace Sys2Proof.Machine

/-- The UTF-8 bytes of a context string. -/
def ctx (t : String) : Bytes := t.toList.map fun c => BitVec.ofNat 8 c.toNat

/-- A HashML-DSA-87 signature by the device identity key (R393). -/
def State.sign (s : State) (context : String) (m : Bytes) : Bytes :=
  fitBytes 4627 (Config.dsaSign s.keeper.seed (ctx context) true m)

def digest32 (bs : Bytes) : Bytes := fitBytes 32 (Config.sha3256 bs)

/-- `n` bytes from the TRNG. DESIGN CHOICE, safe, log entry 12. -/
def State.random (s : State) (n : Nat) : Bytes × State := (fitBytes n (Config.trng s.fresh n), { s with fresh := s.fresh + 1 })

/-- The start of the minute in which a house time falls (R401). -/
def minuteOf (t : Nat) : Nat := t / 60000000000 * 60000000000

/-! ## Session keys (R388, R397, R398) -/

/-- The delivery key of a tenant, or of TENANT 0. -/
def State.deliveryKey (s : State) (tenant : Nat) : Option RegKey :=
  let ok := fun (t : Nat) (k : RegKey) => decide (k.kind = 5 ∧ k.tenant = t ∧ s.house.time < k.notAfter)
  (s.keeper.registry.find? (ok tenant)).or (s.keeper.registry.find? (ok 0))

/-- A key bundle (R397). -/
def State.keyBundle (s : State) (session : Nat) (ticket : Bytes) (dk : RegKey) (k : SessKeys) (coins : Bytes) : Bytes :=
  let head := beBytes 8 session ++ ticket ++ dk.keyid
  let secret := Config.kemSecret dk.key coins
  let key := fitBytes 32 (Config.shake256 (secret ++ ctx "lyseo-keys") 32)
  let plain := fitBytes 32 k.master ++ k.salt ++ k.input ++ k.isalt
  let body := head ++ fitBytes 1568 (Config.kemCipher dk.key coins) ++
    fitBytes 88 (Config.gcmSeal key (List.replicate 12 0) head plain)
  body ++ s.sign "lyseo-bundle" body

/-- Write the key slots of a cell. -/
def State.setKeys (s : State) (c : CellId) (k : SessKeys) : State :=
  s.setKeeper { s.keeper with keys := (s.keeper.keys.filter fun q => q.1 ≠ c.val) ++ [(c.val, k)] }

/-- Destroy the keys of a cell, its key slot with them (R388). -/
def State.clearKeys (s : State) (c : CellId) : State :=
  s.setKeeper { s.keeper with keys := s.keeper.keys.filter fun q => q.1 ≠ c.val }

/-- Keep the digest of a cell's ticket. -/
def State.setTicket (s : State) (c : CellId) (session : Nat) (d : Bytes) : State :=
  s.setKeeper { s.keeper with tickets := (s.keeper.tickets.filter fun q => q.1 ≠ c.val) ++ [(c.val, session, d)] }

/-- The ticket digest kept for a cell. -/
def State.ticketDigest (s : State) (c : CellId) : Bytes :=
  ((s.keeper.tickets.find? fun q => q.1 = c.val).map fun q => q.2.2).getD (List.replicate 32 0)

/-- Draw the keys of the session in a cell and make their bundle; none where no delivery key applies (R397). -/
def State.issueKeys (s : State) (c : CellId) : Option State :=
  let x := s.cell c
  match s.deliveryKey (x.desc 12 8) with
  | none => none
  | some dk =>
    let m := s.random (if x.desc 127 1 = 0 then 16 else 32)
    let salt := m.2.random 12
    let input := salt.2.random 16
    let isalt := input.2.random 12
    let coins := isalt.2.random 32
    let k : SessKeys := ⟨m.1, salt.1, input.1, isalt.1, []⟩
    let b := s.keyBundle x.sessionId (s.ticketDigest c) dk k coins.1
    some (coins.2.setKeys c { k with bundle := b })

/-- The ring key of the pair with a node, with the count for its next IV; the handshake that makes it is uninterpreted
(DESIGN CHOICE, safe, log entry 8). -/
def State.pairKey (s : State) (node : Nat) : Bytes × Nat × State :=
  match s.keeper.pairs.find? fun q => q.1 = node with
  | some (_, k, n) =>
    (k, n, s.setKeeper { s.keeper with
      pairs := s.keeper.pairs.map fun q => if q.1 = node then (q.1, q.2.1, q.2.2 + 1) else q })
  | none =>
    let r := s.random 32
    (r.1, 0, (r.2.setKeeper { r.2.keeper with pairs := r.2.keeper.pairs ++ [(node, r.1, 1)] }).tellState node (.handshake r.1))

/-- The digest by which the two of a pair compare their tickets: that of the fields in which they agree (R320, R398).
DEDUCED, unsafe, log entry 65. -/
def pairDigest (t : Bytes) : Bytes := digest32 (pairTicket t)

/-- Send the keys of a cell's session to the Keeper of a node in a KEYX frame. -/
def State.sendKeyx (s : State) (c : CellId) (node : Nat) : State :=
  let x := s.cell c
  match s.keysOf c with
  | none => s
  | some k =>
    let q := s.pairKey node
    let iv := beBytes 12 q.2.1
    let plain := fitBytes 32 k.master ++ k.salt ++ k.input ++ k.isalt
    let payload := beBytes 8 x.sessionId ++ pairDigest x.sess.ticket ++ iv ++ fitBytes 88 (Config.gcmSeal q.1 iv [] plain)
    (q.2.2.setMirror c { q.2.2.mirrors[c] with keyx := true }).control 11 node false payload

/-! ## Metering records (R402 to R407) -/

/-- Bytes 84 to 143 of a METER record. -/
def counterBytes (family reserve : Nat) (n : Counters) : Bytes :=
  let r := framePeriod family
  beBytes 4 n.aframes ++ beBytes 4 n.qframes ++ beBytes 8 n.vbytes ++ beBytes 8 n.abytes ++ beBytes 4 n.inputs ++
    beBytes 8 n.cycles ++ beBytes 4 n.mirframes ++ beBytes 4 (n.mirframes * 1000 * r.1 / r.2) ++
    beBytes 8 (reserve * n.frames * r.1 / r.2) ++ beBytes 4 n.supply ++ beBytes 4 0

/-- Bytes 84 to 143 of an OVPROOF record (R405). -/
def proofBytes (region : Nat) (p : ProofAcc) : Bytes :=
  [BitVec.ofNat 8 region, 0, 0, 0] ++ beBytes 4 (p.first.getD 0) ++ beBytes 4 p.frames ++ beBytes 4 p.matched ++
    beBytes 4 p.mism ++ beBytes 4 p.expected.toNat ++ digest32 p.digestIn ++ List.replicate 4 0

/-- Seal one record of a cell and put it into the buffer, whose oldest record gives way when 4,096 are held (R404, R407). -/
def State.sealRecord (s : State) (c : CellId) (l : Latched) (kind flags t : Nat) (body : Bytes) : State :=
  let x := s.cell c
  let k := s.keeper
  let n := k.recseq + 1
  let f := flags + (if n = 1 then 0x20 else 0)
  let head := [1, BitVec.ofNat 8 kind] ++ beBytes 2 f ++ beBytes 4 k.boot ++ beBytes 4 n ++ beBytes 4 0 ++
    beBytes 8 Config.deviceId.toNat ++ beBytes 8 x.sessionId ++ beBytes 8 (x.desc 12 8) ++ beBytes 8 l.minute ++
    [BitVec.ofNat 8 c.val, BitVec.ofNat 8 s.ring.node, BitVec.ofNat 8 l.role, BitVec.ofNat 8 x.family] ++ s.ticketDigest c
  let m := head ++ fitBytes 60 body ++ k.prev ++ beBytes 8 t ++ beBytes 4 4627
  let r := m ++ s.sign (if kind = 1 then "lyseo-meter" else "lyseo-ovproof") m
  let full := decide (4096 ≤ k.records.length)
  let s1 := s.setKeeper { k with
    recseq := n, prev := digest32 r, records := (if full then k.records.drop 1 else k.records) ++ [(n, r)] }
  if full then s1.bumpObj 0x4100 6 else s1

/-- Seal a latched set: the METER record and a proof for each signed region with frames in the minute. -/
def State.sealSet (s : State) (c : CellId) (l : Latched) (t : Nat) : State :=
  let x := s.cell c
  let flags := l.cnt.flags % 32
  let s1 := s.sealRecord c l 1 flags t (counterBytes x.family (field x.sess.ticket 20 4) l.cnt)
  let s2 := if l.proof6.frames = 0 then s1 else s1.sealRecord c l 2 flags t (proofBytes 6 l.proof6)
  if l.proof7.frames = 0 then s2 else s2.sealRecord c l 2 flags t (proofBytes 7 l.proof7)

/-- Keeper seals the oldest latched set of a cell and frees it. -/
def State.sealOldest (s : State) (c : CellId) (t : Nat) : State :=
  match (s.meters[c]).latched with
  | [] => s
  | l :: rest => (s.setMeter c { s.meters[c] with latched := rest }).sealSet c l t

end Sys2Proof.Machine
end

