-- ==== Sys2Proof/Machine/SessionOps.lean ====
section
/-! DEFINITION. Shared operations of a session's life: ridges, refusal, loading, admission, stamps, the end (R313 to R327,
R443 to R445). -/

namespace Sys2Proof.Machine

/-! ## Ridges (R443, R457) -/

/-- Cell n belongs to RIDGE(n / 4), ridge k has the cells 4k to 4k + 3 (R15). -/
def ridgeOf (c : CellId) : RidgeId := ⟨c.val / 4, by omega⟩

/-- A ridge's four cells, in order. -/
def ridgeCells (r : RidgeId) : List CellId := (List.finRange 64).filter fun c => ridgeOf c == r

/-- Is a ridge ready to be loaded? -/
def State.ridgeReady (s : State) (c : CellId) : Bool := (s.ridges[ridgeOf c]).powered && (s.ridges[ridgeOf c]).locked

/-- Timers of a ridge without its PLLs run from the AON clock: TMR_STAT.LOWRES (R206). -/
def State.setLowres (s : State) (r : RidgeId) (on : Bool) : State :=
  (ridgeCells r).foldl (fun s c =>
    let x := s.cell c
    let v := (x.reg Reg.TMR_STAT).toNat
    s.setCell c (x.setReg Reg.TMR_STAT (BitVec.ofNat 32 (v % 2 ^ 31 + if on then 2 ^ 31 else 0)))) s

/-- The next ridge that is wanted powers up, when no other does and no hold is in force. -/
def State.startRidge (s : State) : State :=
  if s.power.current.isSome || s.power.hold then s
  else match (List.finRange 16).find? fun r => (s.ridges[r]).wanted && !(s.ridges[r]).powered with
    | none => s
    | some r => (s.setPower { s.power with current := some r, state := .active }).setLowres r true

/-- A cell of a ridge enters LOADING. -/
def State.ridgeWake (s : State) (c : CellId) : State :=
  let r := ridgeOf c
  (s.setRidge r { s.ridges[r] with wanted := true }).startRidge

/-- A ridge whose last cell is FREE powers down; without one the device is IDLE. -/
def State.ridgeRelease (s : State) (c : CellId) : State :=
  let r := ridgeOf c
  if (ridgeCells r).any (fun d => (s.cell d).sess.state != .free) then s
  else
    let s1 := s.setRidge r Ridge.reset
    let s2 := if s1.power.current = some r then s1.setPower { s1.power with current := none } else s1
    let s3 := s2.startRidge
    if s3.power.state = .active ∧ s3.power.current.isNone ∧ (List.finRange 16).all (fun k => !(s3.ridges[k]).powered) then
      s3.setPower { s3.power with state := .idle }
    else s3

/-! ## FREE and refusal (R313, R323, R453) -/

/-- Clear the stored values of a dictionary object. -/
def State.clearObj (s : State) (idx : Nat) : State := { s with objs := s.objs.filter fun q => decide (q.1 / 256 ≠ idx) }

/-- The notification queue of a session goes with its last cell on the device (R380). -/
def State.dropQueue (s : State) (session : Nat) : State :=
  if (List.finRange 64).any (fun c => (s.cell c).sess.state != .free && (s.cell c).sessionId == session) then s
  else s.setDict { s.dict with queues := s.dict.queues.filter fun q => ¬ (q.role = 2 ∧ q.session = session) }

/-- A cell returns to FREE: a cell reset, and what Keeper, the mirror and the ridge hold for it goes. -/
def State.toFree (s : State) (c : CellId) : State :=
  let h := { s.ownSession c with state := 0, role := 0 }
  let x := s.cell c
  let s0 := if x.sess.state = .free ∨ x.sess.state = .loading then s else s.setObj (cellObj c 0x1B) 4 x.sess.phase
  let s1 := ((s0.setCell c Cell.reset).clearKeys c).setMirror c Mirror.reset
  let k := s1.keeper
  let s2 := s1.setKeeper { k with tickets := k.tickets.filter fun q => q.1 ≠ c.val }
  (((s2.setObj (cellObj c 0x11) 1 0).ridgeRelease c).noteSessionAs c h).dropQueue h.session

/-- Record and report a refusal. -/
def State.noteRefusal (s : State) (c : CellId) (code detail : Nat) : State :=
  (s.setObj (cellObj c 0x10) 7 (code * 2 ^ 24 + detail % 2 ^ 24)).notify 0x03 none (cellObj c 0x10) 7
    ([BitVec.ofNat 8 c.val, BitVec.ofNat 8 code] ++ beBytes 3 detail)

/-- A refusal returns the cell to FREE. -/
def State.refuse (s : State) (c : CellId) (code detail : Nat) : State := (s.toFree c).noteRefusal c code detail

/-- A refusal of either cell of a pair refuses both: the other device is told. -/
def State.refusePair (s : State) (c : CellId) (code detail : Nat) : State :=
  let x := s.cell c
  let s1 := s.refuse c code detail
  if x.sess.role = .none ∨ x.sess.partNode = s.ring.node then s1
  else if x.sess.role = .primary then
    if x.mirrored then s1.tellState x.sess.partNode (.refuse x.sess.partCell code detail) else s1
  else s1.tellState x.sess.partNode (.refuse x.sess.partCell 0x30 code)

/-! ## The descriptor (R313, R320, R445) -/

/-- Put a cell into LOADING. -/
def State.load (s : State) (c : CellId) (desc : Bytes) (role : SessRole) (node cell : Nat) : State :=
  let sess := { Session.reset with state := .loading, role := role, desc := desc, partNode := node, partCell := cell }
  let s1 := (s.setCell c { Cell.reset with sess := sess }).ridgeWake c
  let s2 := if (s1.ridges[ridgeOf c]).locked then s1 else s1.setLowres (ridgeOf c) true
  s2.noteSession c

/-- Is a cell of the ring not FREE, as far as this device knows? -/
def State.notFree (s : State) (node cell : Nat) : Bool := s.hosts.any fun h => decide (h.node = node ∧ h.cell = cell ∧ h.state ≠ 0)

/-- Checks 0x01 to 0x03, then LOADING; the partner of a mirrored session is sent the descriptor. -/
def State.takeDescriptor (s : State) (c : CellId) (desc : Bytes) : State :=
  let node := field desc 2 1
  let cell := field desc 3 1
  let mir := decide (field desc 1 1 = 1)
  match descFault desc (!s.power.twin) with
  | some o => s.noteRefusal c 0x01 o
  | none =>
    if s.hosts.any fun h => decide (h.session = field desc 4 8 ∧ h.state ≠ 0) then s.noteRefusal c 0x02 0
    else if (s.cell c).sess.state ≠ .free then s.noteRefusal c 0x03 (s.ring.node % 256 * 256 + c.val)
    else if mir && s.notFree node cell then s.noteRefusal c 0x03 (node * 256 + cell)
    else
      let s1 := s.load c desc .primary (if mir then node else 0) (if mir then cell else 0)
      if mir then s1.tellState node (.descriptor cell c.val desc) else s1

/-- The descriptor of a shadow or of a migration target arrives from the other device. -/
def State.takePartner (s : State) (c : CellId) (src origin : Nat) (desc : Bytes) : State :=
  if (s.cell c).sess.state ≠ .free then s.tellState src (.refuse origin 0x03 (s.ring.node % 256 * 256 + c.val))
  else s.load c desc .shadow src origin

/-- Wake a parked device (R444, R445). -/
def State.wakeDevice (s : State) : State :=
  if s.power.moving = some .parked then s.setPower { s.power with queued := some .idle }
  else if s.power.state = .parked ∧ s.power.moving.isNone then s.setPower { s.power with moving := some .idle }
  else s

/-! ## Admission (R313 to R322) -/

/-- Does no Tender run: in a handover window, or with one of its cores halted by the debug port (R416, R427)?
DESIGN CHOICE, safe, log entry 30. -/
def State.noTender (s : State) : Bool :=
  s.keeper.handover == .opened || s.keeper.handover == .fallback || (s.cores.toList.take 4).any DbgCore.halted

/-- Must a START, RESUME or MIGRATE wait for the end of a hold, or of a window in which no Tender runs (R324, R416)? -/
def State.waits (s : State) : Bool := s.power.hold || s.noTender

def State.admitEnv (s : State) (c : CellId) (v : RingView) : AdmitEnv :=
  let rest := (List.finRange 64).filter fun d => d != c
  let mates := rest.filter fun d => ridgeOf d == ridgeOf c
  { family := s.family, acquire := decide (s.house.loop = .acquire), ddrGiB := s.power.ddrGiB, speed := s.power.speed
    others := rest.map fun d => (s.cell d).sess.reserve
    mates := mates.map fun d => (s.cell d).sess.reserve
    sharers := (rest.filter fun d => (s.cell d).sess.role == .primary && (s.cell d).uplinkIf == (s.cell c).uplinkIf).map
      fun d => (s.cell d).sess.reserve
    busy := mates.any fun d => (s.cell d).sess.state != .free
    granted := mates.any fun d => (s.cell d).sess.reserve.load != 0 && (s.cell d).wholeRidge
    mode400 := !s.power.twin, node := s.ring.node, order := s.ring.order, view := v }

/-- Clear the records of a cell, as an admission does (R61, R160, R303, R361). DEDUCED, unsafe, log entry 62. -/
def State.clearRecords (s : State) (c : CellId) : State :=
  ([0x11, 0x1A, 0x1B, 0x1C, 0x1D, 0x1E, 0x1F].foldl (fun s o => s.clearObj (cellObj c o)) s).clearObj (0x4000 + c.val)

/-- Replace a mirrored primary's state while it waits for its partner's KEYX (R398). -/
def Cell.holdAdmitted (c : Cell) : Cell := { c with sess := { c.sess with state := .loading }, outbox := [] }

/-- The settings of the encoder object (R270): subindexes 01 to 0B in order; most read 0 for NLC. -/
def Cell.encoderRecord (c : Cell) : List Nat :=
  let e := c.enc.cfg
  let unlessNlc := fun v : Nat => if c.nlc then 0 else v
  let profile := if e.codec = 1 then 1 else if e.profile = 1 then 101 else 100
  [e.codec, unlessNlc (profile * 256 + e.level), unlessNlc e.entropy, unlessNlc e.rate, e.ch * 65536 + e.cw,
    unlessNlc (b2n e.deblock), unlessNlc (e.qpmin * 256 + e.qpmax), e.cols * 65536 + e.rper, unlessNlc e.ltper, e.idrmin,
    e.qskip * 256 + e.kaint]

/-- Load the records of a cell with what the admission settles (R270, R303, R410). -/
def State.loadRecords (s : State) (c : CellId) (y : Cell) : State :=
  let s1 := y.encoderRecord.zipIdx.foldl (fun s q => s.setObj (cellObj c 0x1E) (q.2 + 1) q.1) s
  ((s1.setObj (cellObj c 0x1F) 1 y.sess.delay).setObj (0x4000 + c.val) 1 y.sessionId).setObj (cellObj c 0x11) 2
    (if y.mirrored then y.sess.partNode % 256 * 256 + y.sess.partCell % 256 else 0)

/-- Everything that an accepted session changes outside its cell. -/
def State.admitRest (s : State) (c : CellId) (y : Cell) : State :=
  let s1 := (s.clearRecords c).setTicket c y.sessionId (digest32 y.sess.ticket)
  let s2 := s1.loadRecords c y
  let s3 := (s2.setPower { s2.power with ticket := s2.power.ticket + 1 }).setObj (cellObj c 0x10) 0x0B 0
  (s3.setDbg c CellDbg.reset).setMeter c Meter.reset

/-- An accepted session: keys are drawn for a primary, and a mirrored one waits for its partner's Keeper. -/
def State.admitCell (s : State) (c : CellId) (y : Cell) : State :=
  if s.keeper.lifecycle ≠ 2 then s.refusePair c 0x36 0
  else
    let s1 := s.admitRest c y
    if y.sess.role = .shadow then s1.onCell c fun _ => y
    else
      let s2 := s1.setCell c y.holdAdmitted
      match s2.issueKeys c with
      | none => s.refusePair c 0x36 0
      | some s3 => if y.mirrored then s3.sendKeyx c y.sess.partNode else s3.onCell c fun _ => y

/-- The calculus on a cell whose image is whole; a refusal needs no key, an acceptance waits for a Keeper that restarts. -/
def State.calculate (s : State) (c : CellId) (v : RingView) : State :=
  let x := s.cell c
  match x.calculus (s.admitEnv c v) ⟨c.val, 0, s.house.time, s.power.ticket + 1⟩ with
  | .inl f => s.refusePair c f.1 f.2
  | .inr y =>
    if s.keeper.restarting then s.setCell c { x with sess := { x.sess with view := some v } } else s.admitCell c y

/-- May the calculus of a cell run: its image whole, its ridge ready, nothing to wait for? -/
def State.calcReady (s : State) (c : CellId) : Bool := !s.waits && s.keeper.handover != .preparing && s.ridgeReady c

/-! ## Stamps (R324) -/

/-- Ceiling of a division of integers by a positive number, at least 0. -/
def ceilInt (a : Int) (b : Nat) : Nat := ((a + (b : Int) - 1) / (b : Int)).toNat

/-- House time of the first house-frame edge plus φ at least 2 frames after the present.
DEDUCED, safe, log entry 63. -/
def State.stampTime (s : State) (φ : Nat) : Nat :=
  let p := period3 s.family
  let ph := phaseNs s.family φ
  let want : Int := 3 * (s.house.time : Int) + 2 * p - 3 * ph
  if s.timeFrames then
    let k := ceilInt want p
    let t := fun k : Nat => k * p / 3
    if want ≤ 3 * t k then t k + ph else t (k + 1) + ph
  else s.house.lastEdge + ceilInt (want - 3 * s.house.lastEdge) p * p / 3 + ph

/-- House-frame edges from the last one to the edge of a stamp. DEDUCED, safe, log entry 63. -/
def State.stampEdges (s : State) (t : Nat) : Nat := (3 * (t - s.house.lastEdge) + 2) / period3 s.family

/-- φ of a stamp, a multiple of 300 cycles, from its distance behind its edge (R317). DEDUCED, safe, log entry 63. -/
def State.stampPhase (s : State) (t : Nat) : Nat :=
  let d := t - s.house.lastEdge - s.stampEdges t * period3 s.family / 3
  let cyc := if s.family = 1 then d * 600 / 1001 else d * 3 / 5
  (cyc + 150) / 300 * 300

/-- Frames of a session that the manager and the standby count from its stamps (R287, R341). -/
def State.noteStamp (s : State) (kind : StampKind) (session t : Nat) : State :=
  let i := s.inputOf session
  let e : Int := (s.house.edges + s.stampEdges t : Nat)
  match kind with
  | .start => s.setInput { i with base := some e, after := 0 }
  | .park => s.setInput { i with after := match i.base with
      | some b => (e - b).toNat
      | none => 0 }
  | .resume => s.setInput { i with base := some (e - i.after) }
  | _ => s

/-- The session command that a stamp orders. -/
def StampKind.cmd : StampKind → Option SessCmd
  | .start => some .start
  | .park => some .park
  | .resume => some .resume
  | .endIt => some .endIt
  | .migrate => some .migrate
  | _ => none

def SessCmd.kind : SessCmd → StampKind
  | .start => .start
  | .park => .park
  | .resume => .resume
  | .endIt => .endIt
  | .migrate => .migrate

/-- Does a command apply in a state (R324)? DEDUCED, unsafe, log entry 80. -/
def SessCmd.applies (k : SessCmd) (st : SessState) : Bool := match k with
  | .start => st == .admitted
  | .park => st == .running
  | .resume => st == .parked
  | .migrate => st == .running
  | .endIt => st == .admitted || st == .running || st == .parked || st == .migrating

/-- A stamped command waits in a cell for its boundary; START puts the boundary into the ticket (R322). -/
def Cell.takeStamp (c : Cell) (k : SessCmd) (t φ : Nat) : Cell :=
  if !(k.applies c.sess.state) then c
  else
    let ticket := if k = .start then c.sess.ticket.take 144 ++ beBytes 8 t ++ c.sess.ticket.drop 152 else c.sess.ticket
    { c with sess := { c.sess with
      pending := some (k, t), ticket := ticket, view := none, phase := if k = .resume then φ else c.sess.phase } }

/-- The pending overlay set of a cell (R159, R160). -/
def State.pendingOverlay (s : State) (c : CellId) : OvSet :=
  let o := fun k => s.obj (cellObj c 0x1C) k
  let g := fun k => s.obj (cellObj c 0x1D) k
  let rgn := fun k : Nat => (⟨g k / 2 ^ 48 % 65536, g k / 2 ^ 32 % 65536, g k / 65536 % 65536, g k % 65536,
    BitVec.ofNat 32 (g (k + 1)), bit (g (k + 2)) 0, bit (g (k + 2)) 1, bit (g (k + 2)) 2⟩ : OpRegion)
  { en := o 1 == 1, fmt := o 2, x := o 3 % 65536, y := o 3 / 65536, w := o 4 % 65536, h := o 4 / 65536, alpha := o 5
    buf := o 6 == 1, ufcol := BitVec.ofNat 32 (o 0x0B), rgn6 := rgn 1, rgn7 := rgn 4 }

/-- Submit the pending set of a cell for a frame (R143). -/
def State.submitOverlay (s : State) (c : CellId) (frame : Nat) : State :=
  let x := s.cell c
  s.setCell c { x with pic := { x.pic with overlay := { x.pic.overlay with submitted := some (s.pendingOverlay c, frame) } } }

/-- Cells of this device that hold a session from LOADING to MIGRATING. -/
def State.cellsOf (s : State) (session : Nat) : List CellId :=
  (List.finRange 64).filter fun c =>
    let x := s.cell c
    x.sess.state != .free && x.sess.state != .ended && x.sessionId == session

/-- A stamp takes hold on this device. -/
def State.takeStamp (s : State) (kind : StampKind) (session node t : Nat) : State := match kind with
  | .idr => s.stampIdrHere session t
  | .overlay => (s.cellsOf session).foldl (fun s c => s.submitOverlay c t) s
  | .wake => if node = s.ring.node then s.wakeDevice else s
  | .swap => (s.cellsOf session).foldl (fun s c => s.setMirror c { s.mirrors[c] with swap := some t }) s
  | k =>
    let s1 := if s.isManager || s.ring.standby == s.ring.node then s.noteStamp k session t else s
    match k.cmd with
    | none => s1
    | some m => (s1.cellsOf session).foldl (fun s c => s.setCell c ((s.cell c).takeStamp m t (s1.stampPhase t))) s1

/-- The active manager stamps a command. -/
def State.stampNow (s : State) (session : Nat) (kind : StampKind) : State := match s.sessionInfo session with
  | none => s
  | some h =>
    let t := s.stampTime h.phase
    (s.takeStamp kind session h.node t).tell (.stamp kind session h.node t) none

/-- Commands that a brown-out hold delays. -/
def StampKind.held (k : StampKind) : Bool := k == .start || k == .resume || k == .migrate

/-- A command goes to the active manager for its stamp, or waits out a hold. DESIGN CHOICE, safe, log entry 23. -/
def State.order (s : State) (session : Nat) (kind : StampKind) : State :=
  if s.waits && kind.held then s.setNet { s.net with orders := s.net.orders ++ [(session, kind)] }
  else if s.isManager then s.stampNow session kind
  else s.tellState s.ring.manager (.order session kind)

/-! ## Commands (R324 to R326) -/

/-- The result of a command: 0 OK, 1 STATE, 2 PENDING. -/
def State.result (s : State) (c : CellId) (r : Nat) : State := s.setObj (cellObj c 0x10) 8 r

/-- A refusal that leaves the session as it is. DEDUCED, unsafe, log entry 80. -/
def State.commandRefused (s : State) (c : CellId) (code detail : Nat) : State :=
  let x := s.cell c
  (s.setCell c { x with sess := { x.sess with pending := none, view := none } }).noteRefusal c code detail

/-- RESUME repeats its checks and may choose a new φ; the resources are reserved again (R325). -/
def State.resumeGo (s : State) (c : CellId) (v : RingView) : State :=
  let x := s.cell c
  let e := s.admitEnv c v
  let φ := x.choosePhase e
  let t : TicketEnv := ⟨c.val, φ.getD 0, s.house.time, s.power.ticket⟩
  match firstRefusal ((x.admitChecks e t φ).filter fun q => resumeCode q.1) with
  | some f => s.commandRefused c f.1 f.2
  | none =>
    let sess := { x.sess with phase := φ.getD 0, reserve := x.reserves s.family (φ.getD 0), view := none }
    let s1 := s.setCell c { x with sess := sess }
    (if s1.isManager then s1 else s1.tellState s1.ring.manager (.hosted (s1.ownSession c))).order x.sessionId .resume

/-- Forward a whole image to a cell of another node (R320, R326). -/
def State.forwardImage (s : State) (node cell : Nat) (data : Bytes) : State :=
  (List.range ((data.length + 4095) / 4096)).foldl (fun s k => s.tellState node (.image cell (slice data (4096 * k) 4096))) s

/-- MIGRATE: the target is admitted as a shadow of this cell (R326). -/
def State.migrateGo (s : State) (c : CellId) (v : RingView) : State :=
  let x := s.cell c
  let node := s.obj (cellObj c 0x10) 4 / 256
  let cell := s.obj (cellObj c 0x10) 4 % 256
  if v.partnerCode ≠ 0 then s.commandRefused c v.partnerCode 0
  else
    let s1 := s.setCell c { x with sess := { x.sess with view := none } }
    let s2 := (s1.tellState node (.descriptor cell c.val x.sess.desc)).forwardImage node cell x.sess.image.data
    (s2.sendKeyx c node).order x.sessionId .migrate

/-- A command that is accepted. -/
def State.commandGo (s : State) (c : CellId) (k : SessCmd) : State := match k, (s.cell c).sess.view with
  | .resume, some v => if s.waits then s else s.resumeGo c v
  | .resume, none => s
  | .migrate, some v => if s.waits then s else s.migrateGo c v
  | .migrate, none => s
  | k, _ => s.order (s.cell c).sessionId k.kind

/-- A command on a cell: its result, and what it starts. A command that comes while another is pending takes PENDING
before its state is asked, END excepted (R324). DEDUCED, unsafe, log entry 80. -/
def State.command (s : State) (c : CellId) (k : SessCmd) (v : Option RingView) : State :=
  let x := s.cell c
  let again := x.sess.pending == some (k, 0) && x.sess.view.isNone && v.isSome
  if x.sess.pending.isSome && k != .endIt && !again then s.result c 2
  else if !(k.applies x.sess.state) || (k == .migrate && s.fullOn c) then s.result c 1
  else
    let y := { x with sess := { x.sess with pending := some (k, 0), view := v } }
    ((s.setCell c y).result c 0).commandGo c k

/-- What has waited for the end of a hold, a handover or a restart of Keeper goes on. -/
def State.resumeWaiting (s : State) : State :=
  if s.waits then s
  else
    let s1 := s.net.orders.foldl (fun s q => s.order q.1 q.2) (s.setNet { s.net with orders := [] })
    (List.finRange 64).foldl (fun s c =>
      match (s.cell c).sess.state, (s.cell c).sess.view, (s.cell c).sess.pending with
      | .loading, some v, _ => if s.calcReady c then s.calculate c v else s
      | _, some _, some (k, 0) => s.commandGo c k
      | _, _, _ => s) s1

/-! ## The end of a session (R327) -/

/-- Memories, overlay store and reference store are cleared, reservations released. DEDUCED, unsafe, log entry 62. -/
def Cell.ended (c : Cell) : Cell :=
  { c with
    mem := Store.reset, blt := Blt.reset, dma := Vector.replicate 8 DmaChan.reset
    cpu := Cpu.reset
    enc := { c.enc with refShort := [], refLong := none, cur := [], prevNlc := [] }
    str := { c.str with queue := [], egress := false, reports := [] }
    sess := { c.sess with state := .ended, pending := none, biteEnd := false, view := none, reserve := Reserve.reset } }.raise
      .sessState

/-- The live counters of a session that ends are latched with LAST, by its last frame where one runs (R403). -/
def State.lastLatch (s : State) (c : CellId) : State :=
  let m := (s.meters[c]).mark 0 2
  if (s.cell c).running then
    (s.setMeter c { m with due := some (m.due.getD m.minute) }).onCell c Cell.frameEnd
  else (s.setMeter c m).latchMeter c

/-- A session ends at the boundary of the frame that would begin; one that never ran has nothing to seal and is FREE at
once after ENDED. DEDUCED, unsafe, log entry 62. -/
def State.endNow (s : State) (c : CellId) (reason : Nat) : State :=
  let ran := (s.cell c).sess.state != .admitted
  let s1 := if ran then (s.flushEgress c).lastLatch c else s
  let s2 := ((s1.clearKeys c).setObj (cellObj c 0x10) 0x0B reason).setMirror c Mirror.reset
  let s3 := (s2.setMirrorState c 0).setDbg c { s2.dbg[c] with level := 0 }
  let s4 := s3.onCell c Cell.ended
  (if ran then s4 else s4.toFree c).pumpDbg c

end Sys2Proof.Machine
end

