-- ==== Sys2Proof/Machine/Session.lean ====
section
/-! DEFINITION. Frame boundaries and porches with what the device does at them, and the commands of a session's life
(R12, R45, R143, R253, R313, R324 to R327, R349, R350). -/

namespace Sys2Proof.Machine

/-! ## Frame boundaries (R12, R45, R327, R349, R356) -/

/-- The frame that begins is not quiet (R84): the first after a resync, a promotion or a migration. -/
def Cell.composeNext (c : Cell) : Cell := { c with pic := { c.pic with firstFrame := true } }

/-- Does a copy end at the boundary that comes? Then the frame that begins is H, the first after the resync on both devices
of the pair (R84, R349). -/
def State.copyEnds (s : State) (c : CellId) : Bool :=
  let m := s.mirrors[c]
  (s.cell c).sess.copies && s.mirrorState c != 0 && m.phase == .copy && m.pagesSent

/-- What the rest of the device does when a frame has begun: the mirror, a fence that has opened, the debug unit. -/
def State.afterBoundary (s : State) (c : CellId) : State :=
  let s1 := s.mirrorBoundary c
  let m := s1.mirrors[c]
  (if m.reopen && !s1.fenced then s1.setMirror c { m with reopen := false } else s1).pumpDbg c

/-- A boundary of a session that goes on. -/
def State.goOn (s : State) (c : CellId) : State :=
  let first := s.copyEnds c
  (s.onCell c fun x => (if first then x.composeNext else x).nextFrame).afterBoundary c

/-- Is the beam of a cell at the end of a porch? DEDUCED, safe, log entry 51. -/
def State.atBoundary (s : State) (c : CellId) : Bool :=
  s.up && (s.cell c).frameDone && (s.cell c).beam.inPorch

/-- A frame boundary: a bite may end the session, a shadow's boundary G holds it (R327, R349). -/
def State.boundary (s : State) (c : CellId) : State :=
  let x := s.cell c
  let m := s.mirrors[c]
  if x.sess.biteEnd then s.endNow c 2
  else if x.sess.copies = false ∧ m.phase = .idle ∧ m.g = x.beam.frame + 1 then s.holdShadow c
  else s.goOn c

/-- FRAME_BOUNDARY. -/
def execFrameBoundary (c : CellId) (s : State) : Out := .next (if s.atBoundary c then s.boundary c else s)

/-- The correction of a porch: at most 4 cycles, none in holdover (R45). -/
def State.porchDelta (s : State) (delta : Int) : Int :=
  if s.house.loop = .holdover then 0 else if delta < -4 then -4 else if 4 < delta then 4 else delta

/-- The slip that porches of a cell still have to absorb (R350). -/
def State.slipOf (s : State) (c : CellId) : Nat := if s.mirrorState c = 4 then s.obj (cellObj c 0x11) 3 else 0

/-- A porch begins; the slip falls by what it is shortened. -/
def State.porch (s : State) (c : CellId) (delta : Int) : State :=
  let d := s.porchDelta delta
  let slip := s.slipOf c
  let left := ((s.cell c).porchStart d slip).2
  let s1 := s.onCell c fun x => (x.porchStart d slip).1
  if slip = 0 then s1
  else
    let s2 := s1.setObj (cellObj c 0x11) 3 left
    if left = 0 then s2.inStep c else s2

/-- PORCH_START. -/
def execPorchStart (c : CellId) (delta : Int) (s : State) : Out := .next (if s.up then s.porch c delta else s)

/-! ## Overlay and IDR requests (R143, R253) -/

/-- Does the pending set keep OV inside the native picture and the admitted size (R159)?
DEDUCED, unsafe, log entry 47. -/
def State.overlayFits (s : State) (c : CellId) : Bool :=
  let o := s.pendingOverlay c
  let x := s.cell c
  let v := x.pic.overlay
  !o.en || decide (o.x + o.w ≤ x.hactive ∧ o.y + o.h ≤ x.vactive ∧ o.w ≤ v.maxW ∧ o.h ≤ v.maxH)

/-- Is a session admitted in a cell (R323)? -/
def State.admittedIn (s : State) (c : CellId) : Bool :=
  let st := (s.cell c).sess.state
  st == .admitted || st == .running || st == .parked || st == .migrating

/-- The pending set is submitted: for the frame that follows, or in a mirrored session for a frame that the active manager
stamps, at least 2 frames ahead. DEDUCED, unsafe, log entry 47. -/
def State.overlaySubmit (s : State) (c : CellId) : State :=
  let x := s.cell c
  if s.mirrorState c = 0 then s.submitOverlay c (if x.running then x.beam.frame + 1 else x.beam.frame)
  else if s.isManager then
    (s.takeStamp .overlay x.sessionId s.ring.node (x.beam.frame + 2)).tell
      (.stamp .overlay x.sessionId s.ring.node (x.beam.frame + 2)) none
  else s.tellState s.ring.manager (.order x.sessionId .overlay)

/-- OVERLAY_APPLY; a set that would not fit is refused (R159). -/
def execOverlayApply (c : CellId) (s : State) : Out :=
  .next (if s.up && s.admittedIn c && s.overlayFits c then s.overlaySubmit c else s)

/-- IDR_REQUEST; a viewer's request is counted (R303). -/
def execIdrRequest (c : CellId) (src : IdrSource) (s : State) : Out :=
  if !s.up || !s.admittedIn c then .next s
  else .next ((if src = .viewer then s.bumpObj (cellObj c 0x1F) 6 else s).askIdr c)

/-! ## Admission -/

/-- A descriptor on a device that is or becomes PARKED waits until the device has woken (R445). -/
def State.descriptorWritten (s : State) (c : CellId) (desc : Bytes) : State :=
  if s.power.state = .parked ∨ s.power.moving.isSome then
    let x := s.cell c
    if x.sess.state ≠ .free then s.noteRefusal c 0x03 (s.ring.node % 256 * 256 + c.val)
    else
      let s1 := s.setCell c { x with sess := { x.sess with desc := desc } }
      (s1.setPower { s1.power with waitDesc := s1.power.waitDesc ++ [c] }).wakeDevice
  else s.takeDescriptor c desc

/-- DESCRIPTOR_WRITE. -/
def execDescriptorWrite (c : CellId) (desc : Bytes) (s : State) : Out :=
  .next (if s.up then s.descriptorWritten c desc else s)

/-- ADMISSION_CALCULUS: due once the whole image of a LOADING cell is verified; it waits out a hold, a handover and a ridge
that powers up. -/
def execAdmissionCalculus (c : CellId) (v : RingView) (s : State) : Out :=
  let x := s.cell c
  if !s.up || x.sess.state != .loading || !x.sess.image.complete || (s.mirrors[c]).keyx then .next s
  else if s.calcReady c then .next (s.calculate c v)
  else .next (s.setCell c { x with sess := { x.sess with view := some v } })

/-! ## Commands (R324 to R327) -/

/-- START. -/
def execStart (c : CellId) (t : Nat) (s : State) : Out := .next (if s.up then (s.at t).command c .start none else s)

/-- PARK. -/
def execPark (c : CellId) (t : Nat) (s : State) : Out := .next (if s.up then (s.at t).command c .park none else s)

/-- RESUME. -/
def execResume (c : CellId) (t : Nat) (v : RingView) (s : State) : Out :=
  .next (if s.up then (s.at t).command c .resume (some v) else s)

/-- END. -/
def execEndSession (c : CellId) (t : Nat) (s : State) : Out := .next (if s.up then (s.at t).command c .endIt none else s)

/-- MIGRATE. -/
def execMigrate (c : CellId) (t : Nat) (v : RingView) (s : State) : Out :=
  .next (if s.up then (s.at t).command c .migrate (some v) else s)

/-! ## Stamped boundaries -/

/-- The house time of the boundary at which a command pends in a cell. DEDUCED, safe, log entry 63. -/
def State.stampOf (s : State) (c : CellId) (k : SessCmd) : Option Nat := match (s.cell c).sess.pending with
  | some (q, t) => if q = k ∧ t ≠ 0 then some t else none
  | none => none

/-- The meter of a session that starts. -/
def State.startMeter (s : State) (c : CellId) (t : Nat) : State :=
  s.setMeter c (({ Meter.reset with minute := minuteOf t, inStep := s.mirrorState c == 1 }).mark s.supplyNow 1)

/-- A cell's mirror as its session starts: in step, or suspended by FULL (R361). -/
def State.startMirror (s : State) (c : CellId) : State :=
  if (s.cell c).mirrored then s.setMirrorState c (if s.fullOn c then 5 else 1) else s

/-- START_APPLY (R29, R323). DEDUCED, safe, log entry 63. -/
def execStartApply (c : CellId) (s : State) : Out := match s.stampOf c .start with
  | none => .next s
  | some t =>
    if !s.up || (s.cell c).sess.state != .admitted then .next s
    else
      let s1 := s.at t
      let s2 := s1.onCell c fun x =>
        let y := x.startSession t
        { y with str := { y.str with egress := decide (y.sess.role = .primary), epoch := s1.ring.epoch } }
      .next ((s2.startMirror c).startMeter c t)

/-- The state of a parked cell. -/
def Cell.parked (c : Cell) (t : Nat) : Cell :=
  ({ c with sess := { c.sess with state := .parked, pending := none, first := t } }.releaseParked).raise .sessState

/-- PARK_APPLY: everything stops at the boundary (R325); a shadow held by a resync stays held, and a bite ends the
session instead (R327). DEDUCED, safe, log entry 61. -/
def execParkApply (c : CellId) (s : State) : Out := match s.stampOf c .park with
  | none => .next s
  | some t =>
    let s1 := s.at t
    if s.up && (s.cell c).beam.held && (s.cell c).sess.state == .running then .next (s1.onCell c fun x => x.parked t)
    else if !s.atBoundary c then .next s
    else if (s.cell c).sess.biteEnd then .next (s1.endNow c 2)
    else
      let s2 := (s1.flushEgress c).onCell c fun x => x.frameEnd.wrapFrame.parked t
      .next (((s2.setMeter c ((s2.meters[c]).mark 0 4)).setMirror c { s2.mirrors[c] with phase := .idle, toSend := [] }).pumpDbg c)

/-- Samples of `n` frames from frame `f` on (R325). -/
def parkedSamples (family f n : Nat) : Nat := ((List.range n).map fun j => samplesPerFrame family ((f + j) % 5)).sum

/-- A parked cell goes on with its next frame, `n` frame periods after its park: the frame is an IDR.
DEDUCED, unsafe, log entry 64. -/
def Cell.resumeFrame (c : Cell) (n t epoch : Nat) : Cell :=
  let f := c.beam.frame
  let c1 := { c with
    sess := { c.sess with state := .running, pending := none, first := t }
    enc := { c.enc with stamps := c.enc.stamps ++ [f], lastIdr := Nat.max c.enc.lastIdr f }
    str := { c.str with
      parkedFrames := c.str.parkedFrames + n, parkedSamples := c.str.parkedSamples + parkedSamples c.family f n
      epoch := epoch } }
  (c1.beginFrame.traceFrame.settle).raise .sessState

/-- A copy that a park interrupted starts again. DEDUCED, safe, log entry 61. -/
def State.resyncAfterPark (s : State) (c : CellId) : State :=
  let k := s.mirrorState c
  if k = 2 ∨ k = 3 ∨ k = 4 then s.startResync c else s

/-- RESUME_APPLY (R325). -/
def execResumeApply (c : CellId) (s : State) : Out := match s.stampOf c .resume with
  | none => .next s
  | some t =>
    let s1 := s.at t
    let p := period3 s.family
    let n := (6 * (t - (s.cell c).sess.first) + p) / (2 * p)
    if !s.up || (s.cell c).sess.state != .parked then .next s
    else if (s.cell c).beam.held then
      .next (s1.onCell c fun x => { x with sess := { x.sess with state := .running, pending := none } }.raise .sessState)
    else .next (((s1.onCell c fun x => x.resumeFrame n t s1.ring.epoch).afterBoundary c).resyncAfterPark c)

/-- MIGRATE_APPLY: the source enters MIGRATING and copying begins (R326, R351). -/
def execMigrateApply (c : CellId) (s : State) : Out := match s.stampOf c .migrate with
  | none => .next s
  | some t =>
    if !s.atBoundary c then .next s
    else if (s.cell c).sess.biteEnd then .next ((s.at t).endNow c 2)
    else
      let s1 := ((s.at t).onCell c fun x =>
        let y := x.nextFrame
        { y with sess := { y.sess with state := .migrating, pending := none } }.raise .sessState).afterBoundary c
      let y := (s1.cell c).sess
      let goal := s1.copyTarget c
      let role := y.role.code + 4 * b2n (s.mirrorState c != 0)
      let s2 := s1.setMirror c { s1.mirrors[c] with takes := some (role, y.partNode, y.partCell) }
      .next (((s2.tellState goal.1 (.takes goal.2 role y.partNode y.partCell)).setMirrorState c 2).startResync c)

/-- END_APPLY (R327). -/
def execEndApply (c : CellId) (s : State) : Out := match s.stampOf c .endIt with
  | none => .next s
  | some t =>
    let x := s.cell c
    let due := if x.running then s.atBoundary c else s.up && s.admittedIn c
    .next (if due then (s.at t).endNow c 1 else s)

end Sys2Proof.Machine
end

