-- ==== Sys2Proof/Machine/RingOps.lean ====
section
/-! DEFINITION. Ring frames as they arrive, topology, membership, beacons, promotion and managers: the shared operations of
the ring (R332 to R361). -/

namespace Sys2Proof.Machine

/-! ## Arrival (R332, R334) -/

/-- The first copy of a broadcast is taken, the second is not; entries of its source and class far behind it go.
DESIGN CHOICE, safe, log entry 43. -/
def Ring.firstCopy (r : Ring) (f : RingFrame) : Bool := !(r.seen.contains (f.src, f.cls, f.seq))

def Ring.noteCopy (r : Ring) (f : RingFrame) : Ring :=
  { r with seen := (r.seen.filter fun q =>
      decide (q.1 ≠ f.src ∨ q.2.1 ≠ f.cls ∨ (f.seq + 65536 - q.2.2) % 65536 ≤ 1024)) ++ [(f.src, f.cls, f.seq)] }

/-- What is known of a node's beacons. -/
def Ring.peer (r : Ring) (n : Nat) : Peer :=
  (r.peers.find? fun q => q.node = n).getD ⟨n, 0, false, false, false, false, false, 0, false, false⟩

def Ring.setPeer (r : Ring) (q : Peer) : Ring := { r with peers := (r.peers.filter fun x => x.node ≠ q.node) ++ [q] }

/-- A frame from a node has arrived (R346). -/
def Ring.hear (r : Ring) (n : Nat) : Ring := if n = r.node then r else r.setPeer { r.peer n with heard := true, lost := false }

/-- A frame of a class and type arrives on a port: it goes on while it has hops left, and the node takes it when it is
addressed to it, intact, and the first copy (R332, R334). DEDUCED, safe, log entry 44. -/
def State.receive (s : State) (p : PortSide) (f : RingFrame) (is : Bool) (onward : RingFrame → RingFrame)
    (act : State → State) : State :=
  if s.power.phase ≠ .running ∨ is = false then s
  else
    let mine := f.bcast || f.dst == s.ring.node
    let s1 := s.setRing (s.ring.hear f.src)
    let s2 := if 1 < f.hops ∧ (f.bcast || !mine) then s1.emit (otherSide p) (onward { f with hops := f.hops - 1 }) else s1
    if !mine then s2
    else if !f.crcOk then s2.setRing { s2.ring with crcFails := s2.ring.crcFails + 1 }
    else if !f.bcast then act s2
    else if s2.ring.firstCopy f then act (s2.setRing (s2.ring.noteCopy f)) else s2

/-- A CONTROL frame of a type. -/
def isCtl (f : RingFrame) (typ : Nat) : Bool := f.cls == .control && f.typ == typ

/-- A CONTROL frame of type `typ` whose payload is a message. -/
def State.receiveMsg (s : State) (p : PortSide) (f : RingFrame) (typ : Nat) (act : State → RingMsg → State) : State :=
  s.receive p f (isCtl f typ) id fun s => match Config.ringParse typ f.payload with
    | some m => act s m
    | none => s

/-! ## Topology (R343) -/

/-- The segment at a port: the node on its west side and the one on its east side. -/
def Ring.segment (r : Ring) (p : PortSide) : Nat × Nat :=
  let n := r.order.length
  let i := r.order.idxOf r.node
  match p with
  | .east => (r.node, r.order.getD ((i + 1) % n) r.node)
  | .west => (r.order.getD ((i + n - 1) % n) r.node, r.node)

/-- Is the node in the ring order? -/
def Ring.member (r : Ring) : Bool := r.order.contains r.node

/-- Segments of the node's own failed ports. -/
def Ring.ownDown (r : Ring) : List (Nat × Nat) :=
  if !r.member then []
  else (if r.east.failed then [r.segment .east] else []) ++ (if r.west.failed then [r.segment .west] else [])

def State.setPortOf (s : State) (p : PortSide) (v : Port) : State := match p with
  | .east => s.setRing { s.ring with east := v }
  | .west => s.setRing { s.ring with west := v }

/-- Does a node stand opposite the manager, as a standby must when it is armed (R341)? -/
def Ring.opposite (r : Ring) (node : Nat) : Bool :=
  let n := r.order.length
  let d := (r.order.idxOf node + n - r.order.idxOf r.manager) % n
  r.order.contains node && (d == n / 2 || d == (n + 1) / 2)

/-- A change in N leaves the standby armed and is reported (R341). -/
def State.checkStandby (s : State) (old : Nat) : State :=
  let r := s.ring
  if s.isManager && r.standby != 0xFF && r.order.length != old && !(r.opposite r.standby) then
    s.notify 0x0C none 0x6000 4 [BitVec.ofNat 8 r.standby, BitVec.ofNat 8 r.order.length]
  else s

/-- Broadcast the topology as it now is, with the next generation. -/
def State.sendTopo (s : State) : State :=
  let r := { s.ring with topo := (s.ring.topo + 1) % 2 ^ 32 }
  (s.setRing r).tell (.topo r.order r.down r.topo) none

/-- MEMBERSHIP with its result (R339, R340, R359). -/
def State.membership (s : State) (result node device : Nat) : State :=
  (s.setObj 0x6001 5 result).notify 0x0F none 0x6001 5
    ([BitVec.ofNat 8 result, BitVec.ofNat 8 node] ++ beBytes 8 device)

/-- A join follows the reports of the two neighbours; with both of their segments UP the joiner is probed (R339). -/
def State.joinReport (s : State) (src : Nat) (down : List (Nat × Nat)) : State := match s.ring.join with
  | none => s
  | some j =>
    if !s.isManager || j.probed then s
    else match j.seg with
      | none => match down with
        | [] => s
        | d :: _ => s.setRing { s.ring with join := some { j with seg := some d } }
      | some (a, b) =>
        if (src ≠ a ∧ src ≠ b) ∨ down.contains (a, b) then s
        else
          let up := if j.up.contains src then j.up else j.up ++ [src]
          let ready := up.contains a && up.contains b
          let s1 := s.setRing { s.ring with join := some { j with up := up, probed := ready } }
          if ready then s1.control 1 j.node false [] else s1

/-- A TOPO arrives. -/
def State.takeTopo (s : State) (src : Nat) (order : List Nat) (down : List (Nat × Nat)) (gen : Nat) : State :=
  let r := s.ring
  if gen < r.topo then s
  else
    let r1 := { r with order := order, topo := gen }
    let merged := ((if gen = r.topo then r.down ++ down else down) ++ r1.ownDown).eraseDups
    let joined := order.contains r.node && r.joining.isSome
    let r2 := { r1 with
      down := merged, joining := if joined then none else r.joining, wantsJoin := r.wantsJoin && !joined }
    ((s.setRing r2).checkStandby r.order.length).joinReport src down

/-- A neighbour that has fallen silent has left the order once its segment is bridged (R340, R348).
DESIGN CHOICE, unsafe, log entry 59. -/
def Ring.dropLost (r : Ring) (p : PortSide) : Ring :=
  let d := r.segment p
  let other := if p = .east then d.2 else d.1
  if other ≠ r.node ∧ (r.peer other).lost = true then
    { r with order := r.order.filter (fun n => n ≠ other), down := r.down.filter fun q => decide (q.1 ≠ other ∧ q.2 ≠ other) }
  else r

/-- A port comes UP: routes return, and the node broadcasts TOPO (R339, R343). -/
def State.portUp (s : State) (p : PortSide) : State :=
  let s1 := s.setPortOf p { s.portOf p with state := 2, rdi := false }
  if !s1.onRing || !s1.ring.member then s1
  else
    let seg := s1.ring.segment p
    let r := s1.ring.dropLost p
    let s2 := s1.setRing { r with down := r.down.filter fun q => q ≠ seg }
    ((s2.sendTopo).checkStandby s1.ring.order.length).joinReport s2.ring.node s2.ring.down

/-- A port fails: its node wraps it and broadcasts TOPO (R331, R343). -/
def State.portDown (s : State) (p : PortSide) (rdi : Bool) : State :=
  let v := s.portOf p
  let on := s.onRing && s.ring.member
  let s1 := if rdi then s.setPortOf p { v with rdi := true }
    else (s.setPortOf p { v with state := if on then 3 else 0 }).bumpObj 0x6000 0x0B
  if !on then s1
  else
    let seg := s1.ring.segment p
    let down := if s1.ring.down.contains seg then s1.ring.down else s1.ring.down ++ [seg]
    ((s1.setRing { s1.ring with down := down }).sendTopo).joinReport s1.ring.node down

/-! ## Leaving, managers (R337 to R341, R352 to R356) -/

/-- The device lowers BYPASS_N and holds no place in the ring. -/
def State.leaveRing (s : State) : State :=
  let r := { Ring.reset with epoch := s.ring.epoch, crcFails := s.ring.crcFails, seq := s.ring.seq }
  (s.setRing r).setPins { s.pins with bypass := some false }

/-- A node leaves the order. -/
def State.takeLeave (s : State) (node : Nat) : State :=
  if node = s.ring.node then s.leaveRing
  else
    let r := s.ring
    (s.setRing { r with
      order := r.order.filter (fun n => n ≠ node), down := r.down.filter fun q => decide (q.1 ≠ node ∧ q.2 ≠ node)
      peers := r.peers.filter fun q => q.node ≠ node
      standby := if r.standby = node then 0xFF else r.standby }).checkStandby r.order.length

/-- Tell the active manager of every session hosted here. DESIGN CHOICE, safe, log entry 23. -/
def State.tellHosted (s : State) : State :=
  if s.isManager || s.ring.manager == 0xFF then s
  else ((List.finRange 64).filter fun c => (s.cell c).sess.state != .free).foldl (fun s c =>
    s.tellState s.ring.manager (.hosted (s.ownSession c))) s

/-- The device becomes the active manager (R354). -/
def State.becomeManager (s : State) : State :=
  let r := s.ring
  (s.setRing { r with manager := r.node, standby := 0xFF, armed := false }).tell
    (.active r.node r.epoch Config.deviceId.toNat) none

/-- The takeover notification (R354, R360). -/
def State.noteTakeover (s : State) : State :=
  let s1 := s.setRing { s.ring with takeover := s.house.time }
  s1.notify 0x0B none 0x6010 4 (BitVec.ofNat 8 s.ring.node :: beBytes 4 s.ring.epoch)

/-- Is every node of the order other than the manager reachable (R354)? -/
def Ring.allReachable (r : Ring) : Bool :=
  (r.order.filter fun n => n ≠ r.manager).all fun n => n == r.node || !(r.peer n).lost

/-- The standby acts on the loss of the manager: at once under its grant, otherwise with a notification alone.
DEDUCED, unsafe, log entry 60. -/
def State.standbyActs (s : State) : State :=
  if s.ring.lease = 3 ∧ s.ring.allReachable = true then
    (s.setRing { s.ring with underGrant := true }).becomeManager.noteTakeover
  else s.noteTakeover

/-- Of two active managers the one with the lower epoch gives way (R356). -/
def State.stepDown (s : State) (other : Nat) : State :=
  let r := s.ring
  let standby := s.obj 0x6001 4 == r.node
  let s1 := s.tell (.role r.node (if standby then 2 else 0)) none
  (s1.setRing { s1.ring with
    manager := other, standby := if standby then r.node else 0xFF, armed := standby, lease := 0, underGrant := false
    join := none }).tellHosted

/-- An ACTIVE arrives (R338, R354, R356). -/
def State.takeActive (s : State) (node epoch device : Nat) : State :=
  if s.isManager then
    if node = s.ring.node then
      if device < Config.deviceId.toNat then
        let s1 := s.leaveRing
        s1.setRing { s1.ring with wantsJoin := true }
      else s
    else if s.ring.epoch < epoch then s.stepDown node else s
  else if s.ring.member then (s.setRing { s.ring with manager := node, heardManager := true }).tellHosted
  else s.setRing { s.ring with heardManager := true }

/-- A ROLE arrives: a node becomes standby or worker; a manager that gave way leaves this one the only manager (R341,
R356). DESIGN CHOICE, unsafe, log entry 59. -/
def State.takeRole (s : State) (src node role : Nat) : State :=
  let r := s.ring
  if role = 2 then
    if node = r.node ∧ s.power.uplink = false then s.tell (.role node 0) none
    else
      let s1 := s.setRing { r with standby := node, armed := r.armed || node == r.node }
      if s.isManager && src == node then s1.tell (.active r.node r.epoch Config.deviceId.toNat) none else s1
  else
    let s1 := s.setRing { r with standby := if r.standby = node then 0xFF else r.standby }
    if s.isManager && src == node then
      (if r.standby = node then s1.setObj 0x6001 5 2 else s1).tell (.active r.node r.epoch Config.deviceId.toNat) none
    else s1

/-! ## Promotion and demotion (R346, R347, R356) -/

/-- A cell without a partner, in the primary role: its session is PLAIN from now on. -/
def Cell.promoted (c : Cell) : Cell :=
  { c with
    sess := { c.sess with role := .primary, partNode := 0, partCell := 0 }, str := { c.str with egress := true } }.composeNext

/-- Promote the shadow in a cell. -/
def State.promote (s : State) (c : CellId) : State :=
  let x := s.cell c
  let s1 := ((s.setCell c x.promoted).setMirrorState c 0).setMirror c Mirror.reset
  let s2 := (s1.bumpObj (cellObj c 0x11) 5).setObj (cellObj c 0x11) 2 0
  (s2.setMeter c ((s2.meters[c]).mark 0 16)).tell (.promoted x.sessionId s.ring.node c.val) none

/-- May the shadow in a cell take over from a node (R346)? -/
def State.mayPromote (s : State) (c : CellId) (node : Nat) : Bool :=
  let x := s.cell c
  x.running && x.sess.role == .shadow && x.sess.partNode == node && s.mirrorState c == 1 && !s.fullOn c && !s.fenced

/-- A primary gives way to the one that was promoted while this part of the ring was FENCED (R356). -/
def State.demote (s : State) (c : CellId) (node cell : Nat) : State :=
  let x := s.cell c
  let y := { x with
    sess := { x.sess with role := .shadow, partNode := node, partCell := cell }
    str := { x.str with queue := [], sent := 0, egress := false } }
  let s1 := ((s.setCell c y).setMirror c { Mirror.reset with pages := (s.mirrors[c]).pages }).setMirrorState c 2
  let s2 := s1.setObj (cellObj c 0x11) 2 (node % 256 * 256 + cell % 256)
  (s2.setMeter c ((s2.meters[c]).mark 0 16)).tellState node (.resyncAsk cell c.val)

/-- PROMOTED: the active manager gives the cell the primary role; another primary of the session gives way. -/
def State.takePromoted (s : State) (session node cell : Nat) : State :=
  let remote := s.net.remote.filterMap fun h =>
    if h.session ≠ session then some h
    else if h.node = node ∧ h.cell = cell then some { h with role := 1 }
    else if h.role = 1 then none else some h
  (s.cellsOf session).foldl (fun s c =>
    let x := s.cell c
    if (node = s.ring.node ∧ cell = c.val) ∨ x.sess.role ≠ .primary ∨ x.running = false then s else s.demote c node cell)
    (s.setNet { s.net with remote := remote })

/-! ## Beacons (R344, R345) -/

/-- Does an entry name a unit? -/
def BeaconEntry.names (e : BeaconEntry) (u : EUnit) : Bool :=
  u.kind != .keepalive && u.isAudio == e.audio && u.stripe == e.index && u.frame % 2 ^ 32 == e.frame

/-- A unit leaves the queue wherever it stands, its numbers used and nothing sent. -/
def Cell.discard (c : Cell) (i : Nat) : Cell := match c.str.queue[i]? with
  | none => c
  | some u =>
    let c1 := c.useNumbers u.isAudio (c.unitPayloads u).length
    { c1 with str := { c1.str with queue := c1.str.queue.eraseIdx i } }

/-- Keep-alives are no units of R345: a shadow holds none back for an entry. DEDUCED, unsafe, log entry 64. -/
def Cell.dropKeepalives (c : Cell) : Cell :=
  c.str.queue.foldl (fun c _ => match c.str.queue with
    | u :: _ => if u.kind = .keepalive then c.dropUnit else c
    | [] => c) c

/-- The shadow compares an entry with its own unit and discards the unit (R345). -/
def Cell.takeEntry (c0 : Cell) (e : BeaconEntry) : Cell :=
  let c := c0.dropKeepalives
  match c.str.queue.findIdx? e.names with
  | none => c
  | some i =>
    let bad := match c.str.queue[i]? with
      | some u => if u.check = e.check then none else some u.line
      | none => none
    let c1 := c.discard i
    match bad with
    | some line => c1.diverge 0x09 line
    | none => c1

/-- The entries of a beacon's payload. -/
def beaconEntries (p : Bytes) : List BeaconEntry :=
  (List.range (field p 13 1)).map fun k =>
    let o := 24 + 12 * k
    ⟨field p o 1, field p (o + 1) 1 == 1, field p (o + 2) 2, field p (o + 4) 4, BitVec.ofNat 32 (field p (o + 8) 4)⟩

/-- The cells of this device whose partner is a cell of another node. -/
def State.partnersOf (s : State) (node cell : Nat) : List CellId :=
  (List.finRange 64).filter fun c =>
    let x := (s.cell c).sess
    x.state != .free && x.state != .ended && x.role != .none && s.mirrorState c != 0 && x.partNode == node && x.partCell == cell

/-- A device learns of a divergence from a beacon; one already DIVERGED knows (R57, R344). -/
def State.learnDivergence (s : State) (c : CellId) : State :=
  if s.mirrorState c = 2 then s
  else
    let r := s.ring
    (s.setRing { r with div := if bit r.div c.val then r.div else r.div + 2 ^ c.val }).mirrorDiverged c

/-- A beacon arrives from a node. -/
def State.takeBeacon (s : State) (src : Nat) (p : Bytes) : State :=
  let flags := field p 12 1
  let q := s.ring.peer src
  let s1 := s.setRing (s.ring.setPeer { q with
    missed := 0, warn := bit flags 7, manager := bit flags 5, standby := bit flags 4, epoch := field p 8 4
    fenced := bit flags 2 })
  let s2 := if bit flags 5 then
      let s := s1.setRing { s1.ring with heardManager := true }
      if s.isManager && src != s.ring.node && decide (s.ring.epoch < field p 8 4) then s.stepDown src else s
    else s1
  let s3 := ((List.range 64).filter fun n => bit (field p 16 8) n).foldl (fun s n =>
    (s.partnersOf src n).foldl State.learnDivergence s) s2
  (beaconEntries p).foldl (fun s e =>
    (s.partnersOf src e.cell).foldl (fun s c =>
      if (s.cell c).sess.role = .shadow then s.onCell c fun x => x.takeEntry e else s) s) s3

/-- The payload of the node's beacon at house time `t`, with up to 23 entries (R344, R357). -/
def State.beaconBytes (s : State) (t : Nat) : Bytes :=
  let r := s.ring
  let es := r.entries.take 23
  let held := decide (r.lease = 1) || r.underGrant
  let flags := 128 * b2n s.power.hold + 64 * b2n s.power.healthy + 32 * b2n s.isManager +
    16 * b2n (r.standby == r.node) + 8 * b2n (s.isManager && held) + 4 * b2n s.fenced
  beBytes 8 t ++ beBytes 4 r.epoch ++ [BitVec.ofNat 8 flags, BitVec.ofNat 8 es.length, 0, 0] ++ beBytes 8 r.div ++
    es.flatMap fun e => [BitVec.ofNat 8 e.cell, BitVec.ofNat 8 (b2n e.audio)] ++ beBytes 2 e.index ++ beBytes 4 e.frame ++
      beBytes 4 e.check.toNat

/-- The payload of a SYNC at house time `t` (R342). -/
def State.syncBytes (s : State) (t : Nat) : Bytes :=
  let r := s.ring
  let held := decide (r.lease = 1) || r.underGrant
  beBytes 8 t ++ beBytes 4 0 ++ beBytes 8 s.house.lastEdge ++ beBytes 4 r.epoch ++
    [BitVec.ofNat 8 (128 * b2n held + 64 * b2n (decide (r.lease = 3))), 0, 0, 0]

/-- The oldest CONTROL frame that waits leaves; a node that has announced its own departure then leaves (R336, R340). -/
def State.sendCtl (s : State) : State := match s.ring.ctl with
  | [] => s
  | f :: rest =>
    let s1 := (s.setRing { s.ring with ctl := rest }).sendFrame f
    if f.typ = 4 ∧ s1.ring.leaving = true then s1.leaveRing else s1

/-! ## SYNC (R342, R346) -/

/-- A forwarding node adds its delay and the latency of the link that the frame came by to ACCUM.
DESIGN CHOICE, safe, log entry 25. -/
def State.syncOnward (s : State) (p : PortSide) (f : RingFrame) : RingFrame :=
  let accum := (field f.payload 8 4 + Config.forwardDelay + (s.portOf p).latency) % 2 ^ 32
  { f with payload := f.payload.take 8 ++ beBytes 4 accum ++ f.payload.drop 12 }

/-- House time, edge offset and lease as the active manager's SYNC gives them. DEDUCED, unsafe, log entry 60. -/
def State.takeSync (s : State) (src : Nat) (p : Bytes) : State :=
  let r := s.ring
  if s.isManager then s
  else if src ≠ r.manager then s.setRing { r with heardManager := true }
  else
    let t := field p 0 8 + field p 8 4 / 16
    let s1 := s.setHouse { s.house with time := t }
    let s2 := s1.setRing { r with
      heardManager := true, syncTime := t, syncLease := bit (field p 24 1) 7
      epoch := if r.nextEpoch.isNone then Nat.max r.epoch (field p 20 4) else r.epoch }
    s2.setObj 0x6000 0x0C (wrap 32 ((s.house.lastEdge : Int) - (field p 12 8 : Nat)))

/-! ## Leases and epochs (R352, R353, R360) -/

/-- House time at which a new epoch starts: half a frame period after an edge, at least 2 ms ahead. -/
def State.epochTime (s : State) : Nat :=
  let p := period3 s.family
  let want : Int := 6 * (s.house.time + 2000000 : Nat) - 6 * (s.house.lastEdge : Nat) - p
  s.house.lastEdge + (2 * ceilInt want (2 * p) + 1) * p / 6

/-- A higher epoch is announced. -/
def State.announceEpoch (s : State) (v : Nat) : State :=
  if v ≤ s.ring.epoch then s
  else
    let t := s.epochTime
    (s.setRing { s.ring with nextEpoch := some (v, t) }).tell (.epoch v t) none

/-- May this device take a renewal: active manager or standby? -/
def State.leaseServed (s : State) : Bool := s.isManager || (s.ring.standby == s.ring.node && s.ring.node != 0xFF)

/-- A renewal with an epoch not below the one in use. DEDUCED, unsafe, log entry 60. -/
def State.renew (s : State) (epoch : Nat) : State :=
  let r := { s.ring with leaseAt := some s.house.time }
  if s.isManager then (s.setRing { r with lease := 1, underGrant := false }).announceEpoch epoch
  else if (r.peer r.manager).lost ∧ r.epoch < epoch then
    (s.setRing { r with lease := 1 }).becomeManager.announceEpoch epoch
  else s.setRing { r with lease := 3 }

/-- The lease, or a standby grant under which the device egresses, has lapsed. -/
def State.lapse (s : State) : State :=
  let r := s.ring
  let egress := decide (r.lease = 1) || r.underGrant
  let s1 := s.setRing { r with lease := 2, underGrant := false }
  if egress then s1.notify 0x0A none 0x6010 2 (beBytes 4 r.epoch) else s1

/-! ## Images of partners (R307, R320) -/

/-- The tenant image keys of a session's tenant in force, and whether its images must be signed (R307, R395). -/
def State.imageKeys (s : State) (c : CellId) : ImageKeys :=
  let ks := s.keeper.registry.filter fun k =>
    decide (k.kind = 4 ∧ k.tenant = (s.cell c).desc 12 8 ∧ s.house.time < k.notAfter)
  ⟨ks.map fun k => (k.keyid, k.key), ks.any fun k => bit k.flags 0⟩

/-- The next bytes of an image: Keeper checks what they complete (R307, R313). -/
def State.feedImage (s : State) (c : CellId) (bs : Bytes) : State × Bool :=
  let q := (s.cell c).imageFeed (s.imageKeys c) bs
  match q.2 with
  | none => (s.setCell c q.1, true)
  | some f => (s.refusePair c f.1 f.2, false)

/-- The next bytes of an image that a partner forwards; the last data block completes it. -/
def State.feedForwarded (s : State) (c : CellId) (bs : Bytes) : State :=
  let s1 := (s.feedImage c bs).1
  let x := s1.cell c
  let i := x.sess.image
  let p := imageParts i.data
  if x.sess.state = .loading ∧ i.stage = 3 ∧ i.data.length = p.dataAt + 4096 * p.blocks then
    let q := x.imageEnd
    match q.2 with
    | none => s1.setCell c q.1
    | some f => s1.refusePair c f.1 f.2
  else s1

/-! ## STATE frames -/

/-- A cell number of a message. -/
def toCell (n : Nat) : CellId := ⟨n % 64, by omega⟩

/-- Change one memory of a cell, numbered as in a STATE message. -/
def Store.mapRegion (m : Store) (k : Nat) (f : Memory → Memory) : Store := match k with
  | 0 => { m with pram := f m.pram }
  | 1 => { m with wram := f m.wram }
  | 2 => { m with vram := f m.vram }
  | 3 => { m with asset := f m.asset }
  | 4 => { m with ovA := f m.ovA }
  | 5 => { m with ovB := f m.ovB }
  | _ => m

/-- A page or write of a copy reaches a held shadow, or the overlay data of a shadow (R143, R349). -/
def State.copyWrite (s : State) (c : CellId) (region off : Nat) (bs : Bytes) : State :=
  let x := s.cell c
  if x.sess.role ≠ .shadow ∨ (x.beam.held = false ∧ region < 4) then s
  else
    let y := { x with mem := x.mem.mapRegion region fun m => m.writeBytes off bs }
    (s.setCell c y).noteWrites c x y

/-- The active manager learns of a session on another device; of two primaries the one that it knows already stays (R356). -/
def State.takeHosted (s : State) (src : Nat) (h0 : RingSession) : State :=
  let h := { h0 with node := src }
  let other := s.hosts.find? fun q => decide (q.session = h.session ∧ q.role = 1 ∧ (q.node ≠ h.node ∨ q.cell ≠ h.cell)) && q.admitted
  let rest := s.net.remote.filter fun q => decide (q.node ≠ h.node ∨ q.cell ≠ h.cell)
  let s1 := s.setNet { s.net with remote := if h.state = 0 then rest else rest ++ [h] }
  match other with
  | some q => if h.role = 1 ∧ h.admitted = true then s1.tell (.promoted h.session q.node q.cell) none else s1
  | none => s1

/-- A shadow asks its primary for a resync. -/
def State.askedResync (s : State) (c : CellId) (src origin : Nat) : State :=
  let x := s.cell c
  if !x.running || x.sess.role != .primary then s
  else
    let s1 := s.setCell c { x with sess := { x.sess with partNode := src, partCell := origin } }
    let s2 := s1.setObj (cellObj c 0x11) 2 (src % 256 * 256 + origin % 256)
    if s2.fullOn c then s2.setMirrorState c 5 else (s2.setMirrorState c 2).startResync c

/-- The other device of a pair, or a migration target, refuses or gives up (R313, R326, R351). -/
def State.partnerRefused (s : State) (c : CellId) (src code detail : Nat) : State :=
  let x := s.cell c
  if x.sess.state = .loading ∨ x.sess.state = .admitted then
    if x.sess.partNode = src then s.refuse c code detail else s
  else if x.sess.state = .migrating then
    let y := { x with sess := { x.sess with state := .running } }.raise .sessState
    ((s.setMirror c { Mirror.reset with pages := (s.mirrors[c]).pages }).onCell c fun _ => y).noteRefusal c code detail
  else if x.sess.role = .shadow ∧ x.sess.partNode = src then s.endNow c 4
  else s

/-- FULL on the other cell of a pair suspends mirroring; a resync follows when it is withdrawn (R59, R421). -/
def State.partnerFull (s : State) (c : CellId) (on : Bool) : State :=
  let s1 := s.setMirror c { s.mirrors[c] with full := on }
  if s1.mirrorState c = 0 then s1
  else if s1.fullOn c then s1.setMirrorState c 5
  else if s1.mirrorState c = 5 then (s1.setMirrorState c 2).startResync c
  else s1

/-- A STATE message from a node. DESIGN CHOICE, safe, log entry 23. -/
def State.takeState (s : State) (src : Nat) (m : StateMsg) : State := match m with
  | .image cell bs =>
    let x := (s.cell (toCell cell)).sess
    if x.state = .loading ∧ x.role = .shadow ∧ x.partNode = src then s.feedForwarded (toCell cell) bs else s
  | .descriptor cell origin bs => s.takePartner (toCell cell) src origin bs
  | .refuse cell code detail => s.partnerRefused (toCell cell) src code detail
  | .hosted h => if s.isManager then s.takeHosted src h else s
  | .write cell region off bs => s.copyWrite (toCell cell) region off bs
  | .regWrite cell off v =>
    let x := s.cell (toCell cell)
    if x.beam.held then s.setCell (toCell cell) (x.setReg off v) else s
  | .pages cell ps =>
    let r := s.mirrors[toCell cell]
    s.setMirror (toCell cell) { r with pages := r.pages ++ ps.filter fun p => !(r.pages.contains p) }
  | .record cell frame bs =>
    let r := s.mirrors[toCell cell]
    s.setMirror (toCell cell) { r with record := some (frame, bs), h := frame }
  | .standby i => if s.ring.standby = s.ring.node then s.setInput i else s
  | .report session player seq bs =>
    if s.isManager then s.setNet { s.net with reports := s.net.reports ++ [(session, ⟨player, seq, bs⟩)] } else s
  | .idr session => match s.isManager, s.sessionInfo session with
    | true, some h => s.stampIdrFor h
    | _, _ => s
  | .full cell on => s.partnerFull (toCell cell) on
  | .count cell sub n => s.addObj (cellObj (toCell cell) 0x1F) sub n
  | .order session kind =>
    if !s.isManager then s
    else if kind = .overlay then
      let f := s.edgeFrame session + 2
      (s.takeStamp .overlay session s.ring.node f).tell (.stamp .overlay session s.ring.node f) none
    else s.order session kind
  | .object cell o sub v => if o = 0x1C ∨ o = 0x1D then s.setObj (cellObj (toCell cell) o) sub v else s
  | .resyncAsk cell origin => s.askedResync (toCell cell) src origin
  | .pair cell origin =>
    let x := s.cell (toCell cell)
    (s.setCell (toCell cell) { x with sess := { x.sess with partNode := src, partCell := origin } }).setObj
      (cellObj (toCell cell) 0x11) 2 (src % 256 * 256 + origin % 256)
  | .takes cell role node partner =>
    s.setMirror (toCell cell) { s.mirrors[toCell cell] with takes := some (role, node, partner) }
  | .handshake bs => -- the counts for IVs of the two ends of a pair never meet
    s.setKeeper { s.keeper with pairs := (s.keeper.pairs.filter fun q => q.1 ≠ src) ++ [(src, bs, 2 ^ 88)] }

end Sys2Proof.Machine
end

