-- ==== Sys2Proof/Machine/UpdateOps.lean ====
section
/-! DEFINITION. Update images and their slots: the shared operations of downloads, activation and start-up (R365, R411 to
R415, R480). -/

namespace Sys2Proof.Machine

/-! ## Slots (R411, R414, R415) -/

/-- The active slot and the other one. -/
def Slots.act (k : Slots) : Slot := if k.active then k.b else k.a
def Slots.other (k : Slots) : Slot := if k.active then k.a else k.b

def Slots.setAct (k : Slots) (x : Slot) : Slots := if k.active then { k with b := x } else { k with a := x }
def Slots.setOther (k : Slots) (x : Slot) : Slots := if k.active then { k with a := x } else { k with b := x }

def kindIndex : ImageKind → Fin 3
  | .kfw => 0
  | .tfw => 1
  | .cfg => 2

def State.slots (s : State) (k : ImageKind) : Slots := s.keeper.slots[kindIndex k]

def State.setSlots (s : State) (k : ImageKind) (x : Slots) : State :=
  s.setKeeper { s.keeper with slots := s.keeper.slots.set (kindIndex k).val x }

/-- A download that ends without success leaves its slot EMPTY (R413). -/
def Slots.abandon (k : Slots) : Slots := if k.other.state = .writing then k.setOther Slot.empty else k

/-- The slot that a reset boots: a TRIAL slot gives way to the other, which is GOOD, and becomes BAD (R415); a pending CFG
slot takes effect and enters TRIAL (R414). -/
def Slots.boot (k : Slots) : Slots :=
  if k.act.state = .trial ∧ k.other.state = .good then
    { k.setAct { k.act with state := .bad } with active := !k.active, pending := false }
  else if k.pending ∧ k.other.state = .valid then
    { k.setOther { k.other with state := .trial } with active := !k.active, pending := false }
  else { k with pending := false }

/-! ## Configuration (R365, R412) -/

/-- Configuration or at-reset subindexes: those of the identity, communication and device-configuration objects that may be
written, neither volatile nor an order. DEDUCED, unsafe, log entry 41. -/
def isConfig (idx sub : Nat) : Bool := match objDesc idx sub with
  | none => false
  | some d => decide (0x1000 ≤ idx ∧ idx < 0x3000) && d.write != 0 && d.typ != .domain &&
      !(idx == 0x2000 && (sub == 5 || sub == 6)) && idx != 0x2030 && !((objClass idx).1 == 0x2100 && sub == 3)

/-- The at-reset subindexes. -/
def atReset (idx sub : Nat) : Bool :=
  (idx == 0x1001 && sub == 1) || (idx == 0x1100 && sub == 4) || (idx == 0x2010 && sub == 1)

/-- An entry of a CFG image. -/
structure CfgEntry where
  index : Nat
  sub   : Nat
  value : Bytes
  deriving DecidableEq, Repr

/-- The entries of a CFG image; none when one is invalid. The first argument bounds their number.
DESIGN CHOICE, unsafe, log entry 40. -/
def cfgEntries : Nat → Bytes → Option (List CfgEntry)
  | 0, _ => none
  | fuel + 1, bs =>
    let idx := field bs 0 2
    let sub := field bs 2 1
    let len := field bs 3 1
    if bs.length < 2 then none
    else if idx = 0 then some []
    else if bs.length < 4 + len then none
    else match objDesc idx sub with
      | none => none
      | some d =>
        if !(isConfig idx sub) || d.size != len then none
        else (cfgEntries fuel (bs.drop (4 + len))).map fun r => ⟨idx, sub, slice bs 4 len⟩ :: r

/-- May a GPIO pin take a function (R467)? -/
def gpioAllowed (p code : Nat) : Bool := match code with
  | 3 => p == 0 || p == 24
  | 4 => p == 1 || p == 25
  | 7 => decide (32 ≤ p)
  | n => decide (n ≤ 6)

/-- A GPIO options byte as it is stored: none with both pulls set; LVT exists in bank B only (R468). -/
def gpioOptions (p v : Nat) : Option Nat :=
  if bit v 2 && bit v 3 then none else some (if p < 24 then v % 128 else v % 256)

/-- The value that a write would store in a subindex, none where it lies outside its range (R362, R467, R468).
DESIGN CHOICE, unsafe, log entry 40. -/
def objAccept (idx sub : Nat) (value : Bytes) : Option Nat := match objDesc idx sub with
  | none => none
  | some d =>
    let v := beNat value
    if d.typ = .domain ∨ value.length ≠ d.size then none
    else if v < d.lo ∨ d.hi < v then none
    else if (objClass idx).1 = 0x2100 ∧ sub = 1 then (if gpioAllowed (idx - 0x2100) v then some v else none)
    else if (objClass idx).1 = 0x2100 ∧ sub = 2 then gpioOptions (idx - 0x2100) v
    else some v

/-- Tender applies the active configuration image (R455). DESIGN CHOICE, unsafe, log entry 40. -/
def State.applyCfg (s : State) : State :=
  let img := (s.slots .cfg).act.data
  match cfgEntries (img.length + 1) img with
  | none => s
  | some es => es.foldl (fun s e => match objAccept e.index e.sub e.value with
    | some v => s.setObj e.index e.sub v
    | none => s) s

/-! ## Downloads (R411 to R413) -/

/-- Result codes of R413. -/
def updFormat : Nat := 1
def updSlot : Nat := 9

structure UpdHead where
  kind  : Nat
  delta : Bool
  t     : Nat
  p     : Nat
  deriving DecidableEq, Repr

def updHead (bs : Bytes) : UpdHead := ⟨field bs 6 1, field bs 7 1 == 1, field bs 8 4, field bs 12 4⟩

/-- Where the parts of an image begin: op table, signature, payload, end. -/
def UpdHead.opsAt (h : UpdHead) : Nat := 4096 + blockUp (32 * h.t)
def UpdHead.sigAt (h : UpdHead) : Nat := h.opsAt + (if h.delta then blockUp (4 * h.t) else 0)
def UpdHead.payAt (h : UpdHead) : Nat := h.sigAt + 8192
def UpdHead.endAt (h : UpdHead) : Nat := h.payAt + 4096 * h.p

def updKind (k : Nat) : Option ImageKind := match k with
  | 1 => some .kfw
  | 2 => some .tfw
  | 3 => some .cfg
  | _ => none

/-- The most target blocks of a kind. -/
def updBlocks : ImageKind → Nat
  | .kfw => 64
  | .tfw => 16384
  | .cfg => 256

/-- Check 1: the header. DEDUCED, unsafe, log entry 67. -/
def State.updHeader (s : State) (bs : Bytes) (total : Nat) : Option Nat :=
  let h := updHead bs
  match updKind h.kind with
  | none => some updFormat
  | some k =>
    let key := digest32 (slice bs 256 2592)
    if field bs 0 4 ≠ 0x53565550 ∨ field bs 4 2 ≠ 1 ∨ 1 < field bs 7 1 then some updFormat
    else if h.t = 0 ∨ updBlocks k < h.t ∨ (h.delta = false ∧ h.p ≠ h.t) ∨ h.t < h.p ∨ total ≠ h.endAt then some 8
    else if slice bs 160 32 ≠ key ∨ !((if k = .cfg then s.keeper.roots else Config.firmwareKeys).contains key) then some 4
    else if s.keeper.lifecycle ≠ 2 ∧ (k = .cfg ∨ s.keeper.lifecycle ≠ 1) then some 10
    else if (s.slots k).act.state = .trial ∨ s.keeper.handover = .opened ∨ s.keeper.handover = .preparing ∨
        s.keeper.handover = .fallback ∨ s.keeper.restarting = true then some updSlot
    else none

/-- The digest that covers header, check table and op table (R411). -/
def updDigest (bs : Bytes) (h : UpdHead) : Bytes :=
  let ops := if h.delta then slice bs h.opsAt (4 * h.t) else []
  fitBytes 64 (Config.sha3512 (bs.take 192 ++ List.replicate 64 0 ++ slice bs 256 3840 ++ slice bs 4096 (32 * h.t) ++ ops))

/-- Check 2: DIGEST and TARGET. DEDUCED, unsafe, log entry 67. -/
def updTables (bs : Bytes) (h : UpdHead) : Option Nat :=
  if slice bs 192 64 ≠ updDigest bs h then some 2
  else if slice bs 96 64 ≠ fitBytes 64 (Config.sha3512 (slice bs 4096 (32 * h.t))) then some 2
  else none

/-- Is an op entry invalid (R412)? -/
def opBad (h : UpdHead) (base : Nat) (e : Nat) : Bool := match e / 2 ^ 30 with
  | 0 => decide (h.p ≤ e % 2 ^ 30)
  | 1 => decide (base ≤ e % 2 ^ 30)
  | 2 => false
  | _ => true

/-- Checks 3 to 5, and the op entries: signature, SVN, BASE. DEDUCED, unsafe, log entry 67. -/
def State.updSigned (s : State) (k : ImageKind) (bs : Bytes) (h : UpdHead) : Option Nat :=
  let base := (s.slots k).act
  if !(Config.dsaVerify (slice bs 256 2592) (ctx "lyseo-update") true (updDigest bs h) (slice bs h.sigAt 4627)) then some 3
  else if field bs 20 2 < (s.slots k).otpSvn then some 5
  else if h.delta && slice bs 32 64 != base.digest then some 6
  else if h.delta && (List.range h.t).any (fun b => opBad h (base.data.length / 4096) (field bs (h.opsAt + 4 * b) 4)) then
    some updFormat
  else none

/-- Target block `b`, when what makes it has arrived. -/
def updBlock (bs : Bytes) (h : UpdHead) (base : Bytes) (b : Nat) : Option Bytes :=
  let pay := fun k : Nat => if bs.length < h.payAt + 4096 * (k + 1) then none else some (slice bs (h.payAt + 4096 * k) 4096)
  if !h.delta then pay b
  else
    let e := field bs (h.opsAt + 4 * b) 4
    match e / 2 ^ 30 with
    | 0 => pay (e % 2 ^ 30)
    | 1 => some (slice base (4096 * (e % 2 ^ 30)) 4096)
    | _ => some (List.replicate 4096 0)

/-- Check 6: write the target blocks that can be made, at most `fuel`; none for the number of a block that fails. -/
def updWrite (bs : Bytes) (h : UpdHead) (base : Bytes) : Nat → Download → Nat ⊕ Download
  | 0, d => .inr d
  | fuel + 1, d =>
    if h.t ≤ d.block then .inr d
    else match updBlock bs h base d.block with
      | none => .inr d
      | some x =>
        if digest32 x ≠ slice bs (4096 + 32 * d.block) 32 then .inl d.block
        else updWrite bs h base fuel { d with block := d.block + 1, out := d.out ++ x }

/-- The outcome of bytes that arrive: more is wanted, a failure with its code and detail, or the image is whole. -/
inductive UpdOut where
  | more
  | fail (code detail : Nat)
  | done
  deriving DecidableEq, Repr

/-- Record a result (R413, R419). -/
def State.updResult (s : State) (code detail : Nat) : State := (s.setObj 0x8000 2 code).setObj 0x8000 3 detail

/-- A download ends without success. DEDUCED, unsafe, log entry 67. -/
def State.updFail (s : State) (code detail : Nat) : State :=
  let s1 := s.setKeeper { s.keeper with slots := s.keeper.slots.map Slots.abandon, download := none }
  s1.updResult code detail

/-- The checks that fall due when the bytes known grow from `old` to those of `bs`. DEDUCED, unsafe, log entry 67. -/
def State.updChecks (s : State) (bs : Bytes) (old total : Nat) : Option Nat :=
  let due := fun at' : Nat => decide (old < at' ∧ at' ≤ bs.length)
  let h := updHead bs
  let c1 := if due 4096 then s.updHeader bs total else none
  match c1, updKind h.kind with
  | some e, _ => some e
  | none, none => none
  | none, some k =>
    match (if due h.sigAt then updTables bs h else none) with
    | some e => some e
    | none => if due h.payAt then s.updSigned k bs h else none

/-- The inactive slot once its image is whole: VALID. -/
def updSlotOf (bs out : Bytes) : Slot := ⟨.valid, field bs 16 4, field bs 20 2, slice bs 96 64, out⟩

/-- Take bytes of an update image (R413); `total` is the length that the transfer announced. -/
def State.feedUpdate (s : State) (total : Nat) (new : Bytes) : State × UpdOut :=
  match s.keeper.download with
  | none => (s, .fail 11 0)
  | some d =>
    let bs := d.data ++ new
    match s.updChecks bs d.data.length total with
    | some e => (s.updFail e 0, .fail e 0)
    | none =>
      if bs.length < 4096 then
        let s1 := s.setKeeper { s.keeper with download := some { d with data := bs } }
        if total ≤ bs.length then (s1.updFail 8 0, .fail 8 0) else (s1, .more)
      else
        let h := updHead bs
        let k := (updKind h.kind).getD .cfg
        let x := s.slots k
        let s1 := if x.other.state = .writing then s
          else s.setSlots k { x.setOther { Slot.empty with state := .writing } with pending := false }
        if bs.length < h.payAt then (s1.setKeeper { s1.keeper with download := some { d with data := bs, kind := h.kind } }, .more)
        else match updWrite bs h x.act.data (h.t - d.block) { d with data := bs, kind := h.kind } with
          | .inl b => (s1.updFail 7 b, .fail 7 b)
          | .inr e =>
            if e.block < h.t then (s1.setKeeper { s1.keeper with download := some e }, .more)
            else if bs.length < h.endAt then (s1.setKeeper { s1.keeper with download := some e }, .more)
            else if k = .cfg ∧ (cfgEntries (e.out.length + 1) e.out).isNone then (s1.updFail updFormat 0, .fail updFormat 0)
            else
              let s2 := s1.setSlots k ((s1.slots k).setOther (updSlotOf bs e.out))
              ((s2.setKeeper { s2.keeper with download := none }).updResult 0 0, .done)

end Sys2Proof.Machine
end

