-- ==== Sys2Proof/Machine/PowerOps.lean ====
section
/-! DEFINITION. Device resets, start-up, power transitions, alerts and ridge faults: the shared operations of chapter 17
(R443 to R460). -/

namespace Sys2Proof.Machine

/-! ## Resets (R452) -/

/-- Is the device in a reset, or held by TEST_N (R464)? -/
def State.inReset (s : State) : Bool := s.power.phase == .reset || s.power.phase == .test

/-- What Keeper keeps through a device reset: fuses, and what the boot flash holds (R390, R396, R480). -/
def Keeper.afterReset (k : Keeper) : Keeper :=
  { Keeper.reset with
    lifecycle := k.lifecycle, huk := k.huk, seed := k.seed, certs := k.certs, roots := k.roots, registry := k.registry
    slots := k.slots.map Slots.abandon }

/-- What the AON island keeps of power and supply through a reset; a COLD reset clears the AON island too (R452).
DESIGN CHOICE, unsafe, log entry 39. -/
def Power.afterReset (p : Power) (kind : Nat) : Power :=
  { Power.reset with
    pwrOk := p.pwrOk, resetN := p.resetN, kind := kind, refclk := p.refclk, stored := p.stored
    sysclkSec := p.sysclkSec && kind != 0, temp := if kind = 0 then 0 else p.temp }

/-- A device reset of a kind: BYPASS_N is no longer driven, and everything is as in reset. -/
def State.deviceReset (s : State) (kind : Nat) : State :=
  { State.reset with
    pending := s.pending, tx := s.tx, fresh := s.fresh, keeper := s.keeper.afterReset, power := s.power.afterReset kind
    pins := { Pins.reset with smbAlert := s.pins.smbAlert && kind != 0 } }

/-- A fatal fault of a device that is not in reset already (R337). -/
def State.fatal (s : State) (kind : Nat) : State := if s.inReset then s else s.deviceReset kind

/-! ## Start-up (R455) -/

/-- Slots as ROM and Keeper firmware boot them. -/
def Keeper.boots (k : Keeper) : Keeper := { k with slots := k.slots.map Slots.boot }

/-- Does the KFW slot that boots pass its checks (R455)? -/
def State.kfwPasses (s : State) : Bool :=
  let st := (s.slots .kfw).act.state
  st == .good || st == .trial

/-- Written at-reset values take effect (R365). DESIGN CHOICE, unsafe, log entry 39. -/
def State.applyStored (s : State) : State :=
  let s1 := s.power.stored.foldl (fun s q => s.setObj (q.1 / 256) (q.1 % 256) q.2) s
  s1.setPower { s1.power with stored := [], dictPort := s1.obj 0x1100 4, twin := s1.obj 0x2010 1 == 1 }

/-- Reset is released: Keeper draws its nonce and BOOT (R392, R404), boots a slot of each kind, and Tender applies the
configuration; without a KFW slot that passes the device is in recovery. -/
def State.startUp (s : State) : State :=
  let n := s.random 32
  let b := n.2.random 4
  let s1 := b.2.setKeeper ({ b.2.keeper with nonce := n.1, boot := beNat b.1 }).boots
  if !s1.kfwPasses then s1.setPower { s1.power with phase := .recovery }
  else
    let s2 := s1.applyCfg.applyStored
    s2.setPower { s2.power with phase := .starting }

/-- The alert threshold in 0.1 °C. DEDUCED, unsafe, log entry 42. -/
def State.hotLevel (s : State) : Int := 10 * (s.obj 0x2031 8 : Nat)

/-- May an internal reset end (R451, R460)? DEDUCED, unsafe, log entry 42. -/
def State.resetMayEnd (s : State) : Bool :=
  s.power.pwrOk && s.power.resetN && s.power.refclk && (s.power.kind != 3 || decide (s.power.temp < s.hotLevel - 50))

/-! ## Roles (R17, R18, R464) -/

/-- Role in force: 0 worker, 1 active manager, 2 standby manager. -/
def State.roleInForce (s : State) : Nat :=
  if s.isManager then 1 else if s.ring.node ≠ 0xFF ∧ s.ring.standby = s.ring.node then 2 else 0

/-- ROLE is sampled and compared with the role object. -/
def State.sampleRole (s : State) (role : Bool) : State :=
  let obj := s.obj 0x1001 1
  let s1 := s.setPins { s.pins with roleStrap := role }
  if s1.power.phase ≠ .starting then s1
  else
    let s2 := s1.setPower { s1.power with phase := .training, uplink := role && obj == 1 }
    if b2n role = obj then s2
    else (s2.setObj 0x1001 3 1).notify 0x05 none 0x1001 3 [BitVec.ofNat 8 (b2n role), BitVec.ofNat 8 obj]

/-! ## DDR5 (R475) -/

/-- The speed that the population runs at, when it meets the rules. -/
def ddrSpeed (d : DdrReport) : Option Nat :=
  let v := Nat.min d.rating (if d.perChannel = 1 then 5600 else 4800)
  if d.equal ∧ d.allowed ∧ 1 ≤ d.perChannel ∧ d.perChannel ≤ 2 ∧ 16 ≤ d.densityGiB ∧ d.densityGiB ≤ 128 ∧ 4800 ≤ v ∧
    d.trained then some v
  else none

/-- DDR5 is trained, or PD_MEM stays off. -/
def State.ddrDone (s : State) (d : DdrReport) : State := match ddrSpeed d with
  | none => s.setPower { s.power with phase := .noMemory }
  | some v => s.setPower { s.power with
      phase := .running, state := .idle, speed := v, ddrGiB := 4 * d.perChannel * d.densityGiB }

/-! ## PARKED and IDLE (R444, R445) -/

/-- May a request for PARKED be accepted: on a worker with every cell FREE and none about to leave it? -/
def State.mayPark (s : State) : Bool :=
  !s.power.uplink && s.roleInForce == 0 && s.power.waitDesc.isEmpty &&
    (List.finRange 64).all fun c => (s.cell c).sess.state == .free

/-- Apply a request for a power state. -/
def State.requestPower (s : State) (p : PowerState) : State :=
  if s.power.moving.isSome then s.setPower { s.power with queued := some p }
  else if p = .parked then
    (if s.power.state = .idle then s.setPower { s.power with moving := some .parked } else s)
  else s.wakeDevice

/-- A request for PARKED: its effect and whether it is accepted. -/
def State.requestParked (s : State) : State × Bool := if s.mayPark then (s.requestPower .parked, true) else (s, false)

/-- Descriptors that waited for the wake. -/
def State.waitedDescriptors (s : State) : State :=
  let cs := s.power.waitDesc
  cs.foldl (fun s c =>
    let d := (s.cell c).sess.desc
    (s.setCell c Cell.reset).takeDescriptor c d) (s.setPower { s.power with waitDesc := [] })

/-- A transition is complete; what waited for it applies. -/
def State.powerMoved (s : State) (p : PowerState) : State :=
  let q := s.power.queued
  let s1 := s.setPower { s.power with state := p, moving := none, queued := none }
  let s2 := match q with
    | some .parked => s1.requestParked.1
    | some r => s1.requestPower r
    | none => s1
  if s2.power.state = .idle ∧ s2.power.moving.isNone then s2.waitedDescriptors else s2

/-! ## Ridges (R443, R450, R453, R454) -/

/-- Cells of a ridge whose sessions a ridge cannot lose quietly. -/
def State.ridgeLive (s : State) (r : RidgeId) : Bool := (ridgeCells r).any fun c =>
  let x := (s.cell c).sess.state
  x == .running || x == .parked || x == .migrating

/-- A ridge power-up completes: the next one starts, and calculi that waited for it run. -/
def State.ridgeUp (s : State) (r : RidgeId) : State :=
  let s1 := s.setRidge r { s.ridges[r] with powered := true }
  ((s1.setPower { s1.power with current := none }).startRidge).resumeWaiting

/-- A ridge is reset: its LOADING and ADMITTED cells are refused with RIDGE_RESET. -/
def State.ridgeReset (s : State) (r : RidgeId) : State :=
  let s1 := (s.setRidge r { s.ridges[r] with locked := false }).setLowres r true
  let s2 := (ridgeCells r).foldl (fun s c =>
    let x := (s.cell c).sess.state
    if x = .loading ∨ x = .admitted then s.refusePair c 0x0B r.val else s) s1
  if (ridgeCells r).all (fun c => (s2.cell c).sess.state == .free) then s2.setRidge r Ridge.reset else s2

/-- Keeper withdraws health: beacons, egress, ring transmission and health reports stop. -/
def State.withdraw (s : State) : State := s.setPower { s.power with healthy := false, withdrawn := true }

/-! ## Alerts and the hold (R457, R459, R473) -/

/-- Is a thermal alert in force? -/
def State.alert (s : State) : Bool := s.power.hot || s.power.vrhot

/-- SMB_ALERT_N goes low. -/
def State.smbRaise (s : State) : State := s.setPins { s.pins with smbAlert := true }

/-- Set the two sources of the thermal alert; where one begins the supply flag and SMB_ALERT_N follow. -/
def State.setAlert (s : State) (hot vrhot : Bool) : State :=
  let s1 := s.setPower { s.power with hot := hot, vrhot := vrhot }
  if !s.alert && (hot || vrhot) then (s1.markSupply 4).smbRaise else s1

/-- The lowest VDD_CORE since reset. -/
def Power.seeCore (p : Power) (mv : Nat) : Power := { p with coreMin := if p.coreMin = 0 then mv else Nat.min p.coreMin mv }

/-- A brown-out hold begins. -/
def State.holdBegin (s : State) : State :=
  let s1 := (s.setPower { s.power with hold := true, rising := false }).bumpObj 0x2031 6
  ((s1.markSupply 1).smbRaise).notify 0x0E none 0x2031 7 [1]

/-- A brown-out hold ends: what waited for it goes on. -/
def State.holdEnd (s : State) : State :=
  let s1 := (s.setPower { s.power with hold := false, rising := false }).notify 0x0E none 0x2031 7 [0]
  s1.startRidge.resumeWaiting

/-- The highest of some readings. -/
def hottest : List Int → Option Int
  | [] => none
  | t :: ts => some (match hottest ts with
      | some u => if t < u then u else t
      | none => t)

/-- A device temperature (R458 to R460). -/
def State.temperature (s : State) (t : Int) : State :=
  let p := s.power
  let s1 := s.setPower { p with
    temp := t, tempMax := if p.tempRead && decide (t < p.tempMax) then p.tempMax else t, tempRead := true }
  if p.phase = .reset then s1
  else if 1250 ≤ t then s1.deviceReset 3
  else s1.setAlert (if p.hot then decide (s.hotLevel - 50 ≤ t) else decide (s.hotLevel ≤ t)) p.vrhot

end Sys2Proof.Machine
end

