-- ==== Sys2Proof/Machine/ChannelOps.lean ====
section
/-! DEFINITION. Plain records, the end of transfers and the closing of channels (R368, R372, R377). -/

namespace Sys2Proof.Machine

/-! ## Plain records (R368) -/

/-- Send a message in plain records, in fragments of 1,200 bytes. -/
def State.sendPlain (s : State) (service : Bool) (dst : NetAddr) (rtype chan : Nat) (body : Bytes) : State :=
  let n := Nat.max 1 ((body.length + 1199) / 1200)
  (List.range n).foldl (fun s k =>
    let part := slice body (1200 * k) 1200
    s.send (.udp service dst
      (recordHead rtype part.length chan (k * 2 ^ 48 + n * 2 ^ 32 + body.length) ++ part))) s

/-! ## Transfers that end (R372, R377) -/

/-- Is an index the session object of a cell, and of which? -/
def sessionCell (idx : Nat) : Option CellId := if (objClass idx).1 = 0x3010 then some (toCell (objClass idx).2) else none

/-- What an aborted download leaves: an update slot EMPTY, or a refused session (R377, R413). -/
def State.abortXfer (s : State) (x : Xfer) : State :=
  let s1 := s.setDict { s.dict with xfers := s.dict.xfers.filter fun y => y != x }
  if !x.down then s1
  else if x.index = 0x8000 ∧ x.sub = 1 then s1.updFail 11 0
  else match sessionCell x.index with
    | some c =>
      if x.sub = 2 ∧ (s1.cell c).sess.state = .loading then s1.refusePair c 0x04 x.next else s1
    | none => s1

/-- A message for a client behind another node, or for a node that a client's transfer is carried to. -/
def State.carryTo (s : State) (node : Nat) (c : Client) (m : DictMsg) : State :=
  s.ringSend .dict 0 node false (c.prefixBytes ++ (msgBytes m))

/-- Transfers of channels that are gone are aborted, here and on the nodes that they were carried to. -/
def State.reap (s : State) : State :=
  let gone := fun id : Nat => (s.channel id).isNone
  let s1 := (s.dict.xfers.filter fun x => x.client.node.isNone && gone x.client.channel).foldl State.abortXfer s
  let lost := s1.dict.carried.filter fun k => gone k.channel
  let s2 := s1.setDict { s1.dict with carried := s1.dict.carried.filter fun k => !(gone k.channel) }
  lost.foldl (fun s k => s.carryTo k.node ⟨1, 0, k.channel, none⟩
    ⟨0x0A, k.node, k.tid, k.index, k.sub, 0, 0x0E, []⟩) s2

/-- A channel closes. -/
def State.closeChannel (s : State) (id : Nat) : State := ((s.dropChannel id).reap).settleNotes

/-- Every channel opened with a key closes (R396). -/
def State.closeKey (s : State) (keyid : Bytes) : State :=
  ((s.dict.channels.filter fun c => c.keyid = keyid).map Channel.id).foldl State.closeChannel s

end Sys2Proof.Machine
end

