-- ==== Sys2Proof/Machine/Keeper.lean ====
section
/-! DEFINITION. Keeper's commands: provisioning and lifecycle, the registry, restarts, the sealing of metering records, update
slots and the handover of Tender (R387 to R407, R414 to R417). -/

namespace Sys2Proof.Machine

/-! ## Provisioning (R391, R392) -/

/-- Does Tender serve the dictionary: the device runs, or serves its service port only (R455)? -/
def State.serves (s : State) : Bool := s.power.phase == .running || s.power.phase == .noMemory

/-- A new provisioning nonce. -/
def State.newNonce (s : State) : State :=
  let q := s.random 32
  q.2.setKeeper { q.2.keeper with nonce := q.1 }

/-- The step that the lifecycle state allows. -/
def Keeper.step (k : Keeper) : Nat :=
  if k.lifecycle = 0 then (if k.seed = [] then 1 else 2) else if k.lifecycle = 2 then 3 else 0

/-- The identity public key. -/
def Keeper.identity (k : Keeper) : Bytes := if k.seed = [] then [] else fitBytes 2592 (Config.dsaPublic k.seed)

/-- The DATA of a provisioning order. -/
def orderData (o : Bytes) : Bytes := slice o 48 (field o 44 4)

/-- The result code of an order, before a step-2 order's certificates are looked at: 0 when nothing refuses it.
DEDUCED, unsafe, log entry 66. -/
def State.orderCode (s : State) (o : Bytes) : Nat :=
  let n := 48 + field o 44 4
  let key := slice o n 2592
  let step := field o 1 1
  if o.length ≠ n + 7219 ∨ field o 0 1 ≠ 1 ∨ field o 2 2 ≠ 0 ∨ step = 0 ∨ 3 < step ∨ (step ≠ 2 ∧ n ≠ 48) ∨
      field o 4 8 ≠ Config.deviceId.toNat then 1
  else if !(Config.provisioningKeys.contains (digest32 key)) then 2
  else if !(Config.dsaVerify key (ctx "lyseo-provision") true (o.take (n + 2592)) (slice o (n + 2592) 4627)) then 3
  else if slice o 12 32 ≠ s.keeper.nonce then 4
  else if step ≠ s.keeper.step then 5
  else 0

/-- Step 1: HUK and identity seed are drawn and burnt. -/
def State.burnIdentity (s : State) : State :=
  let h := s.random 32
  let d := h.2.random 32
  d.2.setKeeper { d.2.keeper with huk := h.1, seed := d.1 }

/-- The effect of an order that reaches a BLANK device, and its result. DEDUCED, unsafe, log entry 66. -/
def State.provision (s : State) (o : Bytes) : State × Nat :=
  let code := s.orderCode o
  let chain := orderData o
  let r : State × Nat :=
    if code ≠ 0 then (s, code)
    else if s.keeper.step = 1 then (s.burnIdentity, 0)
    else if !(Config.chainNames chain Config.deviceId.toNat s.keeper.identity) then (s, 6)
    else (s.setKeeper { s.keeper with certs := chain, lifecycle := 1 }, 0)
  (r.1.newNonce, r.2)

/-- Take an order from the service port and answer it: an accepted order of step 1 adds the identity public key. -/
def State.takeOrder (s : State) (src : NetAddr) (o : Bytes) : State :=
  if !s.serves || s.keeper.lifecycle != 0 then s
  else
    let first := s.keeper.step == 1
    let r := s.provision o
    r.1.sendPlain true src 7 0
      ([4, BitVec.ofNat 8 r.2] ++ (if r.2 = 0 ∧ first = true then r.1.keeper.identity else []))

/-- NONCE_REQ. -/
def execNonceReq (src : NetAddr) (s : State) : Out :=
  .next (if s.serves && s.keeper.lifecycle == 0 then
    s.sendPlain true src 7 0 ([2] ++ beBytes 8 Config.deviceId.toNat ++ fitBytes 32 s.keeper.nonce) else s)

/-- PROVISION_IDENTITY: an order other than one of step 2. -/
def execProvisionIdentity (src : NetAddr) (order : Bytes) (s : State) : Out :=
  .next (if field order 1 1 = 2 then s else s.takeOrder src order)

/-- PROVISION_CERTIFICATES: an order of step 2. -/
def execProvisionCertificates (src : NetAddr) (order : Bytes) (s : State) : Out :=
  .next (if field order 1 1 = 2 then s.takeOrder src order else s)

/-! ## Lifecycle (R391, R395) -/

/-- Error codes of R378 that Keeper's objects give. -/
def errState : Nat := 8
def errRefused : Nat := 15

/-- Is a document signed by one of some operator roots? DESIGN CHOICE, safe, log entry 29. -/
def signedBy (roots : List Bytes) (context : String) (m sig : Bytes) : Bool :=
  roots.any fun r => Config.dsaVerify (Config.rootKey r) (ctx context) true m sig

/-- The operator root's key binds the device to its operator: PROVISIONED becomes PRODUCTION. -/
def State.bindRoot (s : State) (key : Bytes) : State × Nat :=
  if s.keeper.lifecycle ≠ 1 then (s, errState)
  else if key.length ≠ 2592 then (s, errRefused)
  else (s.setKeeper { s.keeper with lifecycle := 2, roots := [digest32 key] }, 0)

/-- Is a consent whole, for this device and signed by an operator root? -/
def State.consentGood (s : State) (d : Bytes) : Bool :=
  decide (d.length = 4647) && field d 0 1 == 1 && decide (1 ≤ field d 1 1 ∧ field d 1 1 ≤ 3) && field d 2 2 == 0 &&
    field d 4 8 == Config.deviceId.toNat && signedBy s.keeper.roots "lyseo-consent" (d.take 20) (slice d 20 4627)

/-- Has the NOTAFTER of a consent not passed? -/
def State.consentLive (s : State) (d : Bytes) : Bool := decide (s.house.time < field d 12 8)

/-- RETURNED: keys, retention memory and records are gone, and every channel closes. -/
def State.returnDevice (s : State) : State :=
  let k := s.keeper
  let s1 := s.setKeeper { k with
    lifecycle := 3, huk := [], seed := [], registry := [], consents := [], boot := 0, recseq := 0
    prev := List.replicate 32 0, tickets := [], keys := [], pairs := [], records := [] }
  (s1.dict.channels.map Channel.id).foldl State.closeChannel s1

/-- A lifecycle order: a provisioning order of step 3 followed by a consent with purpose RETURN. -/
def State.lifecycleOrder (s : State) (doc : Bytes) : State × Nat :=
  if s.keeper.lifecycle ≠ 2 then (s, errState)
  else
    let o := doc.take 7267
    let c := doc.drop 7267
    let good := s.orderCode o == 0 && s.consentGood c && field c 1 1 == 1 && s.consentLive c
    let s1 := s.newNonce
    if good then (s1.returnDevice, 0) else (s1, errRefused)

/-- OPERATOR_ROOT_BIND. -/
def execOperatorRootBind (key : Bytes) (s : State) : Out := .next (if s.serves then (s.bindRoot key).1 else s)

/-- LIFECYCLE_ORDER. -/
def execLifecycleOrder (doc : Bytes) (s : State) : Out := .next (if s.serves then (s.lifecycleOrder doc).1 else s)

/-! ## Registry (R395, R396) -/

/-- Is a registration well formed? -/
def registrationForm (d : Bytes) : Bool :=
  let kind := field d 1 1
  let len := field d 20 2
  decide (d.length = 24 + len + 4627) && field d 0 1 == 1 && decide (1 ≤ kind ∧ kind ≤ 6) && field d 3 1 == 0 &&
    field d 22 2 == 0 && len == (if kind = 5 then 1568 else 2592) &&
    (field d 4 8 == 0 || kind == 2 || kind == 4 || kind == 5)

/-- A registration: a key of the registry, or with kind 6 the next operator root, which the current root signs. -/
def State.register (s : State) (d : Bytes) : State × Nat :=
  let k := s.keeper
  let kind := field d 1 1
  let len := field d 20 2
  let key := slice d 24 len
  let id := digest32 key
  let roots := if kind = 6 then k.roots.getLast?.toList else k.roots
  if !(registrationForm d) || !(signedBy roots "lyseo-register" (d.take (24 + len)) (slice d (24 + len) 4627)) then
    (s, errRefused)
  else if field d 12 8 ≤ s.house.time then (s, errRefused)
  else if kind = 6 then
    (if 4 ≤ k.roots.length ∨ k.roots.contains id = true then (s, errRefused)
      else (s.setKeeper { k with roots := k.roots ++ [id] }, 0))
  else if 256 ≤ k.registry.length ∨ k.registry.any (fun q => q.keyid = id) = true then (s, errRefused)
  else (s.setKeeper { k with registry := k.registry ++ [⟨id, kind, field d 2 1, field d 4 8, field d 12 8, key⟩] }, 0)

/-- A revocation: the key goes, and the channels opened with it close. DESIGN CHOICE, unsafe, log entry 68. -/
def State.revoke (s : State) (d : Bytes) : State × Nat :=
  let id := slice d 4 32
  if d.length ≠ 4663 ∨ field d 0 1 ≠ 1 ∨ field d 1 3 ≠ 0 ∨
      signedBy s.keeper.roots "lyseo-revoke" (d.take 36) (slice d 36 4627) = false then (s, errRefused)
  else ((s.setKeeper { s.keeper with registry := s.keeper.registry.filter fun q => q.keyid ≠ id }).closeKey id, 0)

/-- A consent is kept, in place of one for the same purpose. DESIGN CHOICE, unsafe, log entry 68. -/
def State.takeConsent (s : State) (d : Bytes) : State × Nat :=
  if !(s.consentGood d) then (s, errRefused)
  else (s.setKeeper { s.keeper with
    consents := (s.keeper.consents.filter fun q => field q 1 1 ≠ field d 1 1) ++ [d] }, 0)

/-- REGISTRATION. -/
def execRegistration (doc : Bytes) (s : State) : Out := .next (if s.serves then (s.register doc).1 else s)

/-- REVOCATION. -/
def execRevocation (doc : Bytes) (s : State) : Out := .next (if s.serves then (s.revoke doc).1 else s)

/-- CONSENT. -/
def execConsent (doc : Bytes) (s : State) : Out := .next (if s.serves then (s.takeConsent doc).1 else s)

/-- KEY_EXPIRY: the NOTAFTER of a registered key passes. -/
def execKeyExpiry (keyid : Nat) (s : State) : Out :=
  match s.keeper.registry.find? fun k => beNat k.keyid = keyid with
  | none => .next s
  | some k => .next ((s.at k.notAfter).closeKey k.keyid)

/-! ## Health and restarts (R389, R394, R417) -/

/-- HEALTH_REPORT: none once health has been withdrawn. -/
def execHealthReport (s : State) : Out :=
  .next (if s.inReset || s.power.withdrawn then s else s.setPower { s.power with healthy := true })

/-- Keeper restarts; its count is at 0x5000:04. -/
def State.keeperRestart (s : State) : State :=
  if s.keeper.restarting then s
  else (s.setKeeper { s.keeper with restarting := true }).bumpObj 0x5000 4

/-- KEEPER_RESTART_REQUEST. -/
def execKeeperRestartRequest (s : State) : Out := .next (if s.serves then s.keeperRestart else s)

/-- KEEPER_FIRMWARE_WATCHDOG. -/
def execKeeperFirmwareWatchdog (s : State) : Out := .next (if s.inReset then s else s.keeperRestart)

/-- Latched sets that wait while Keeper is away are sealed with KRESTART. DESIGN CHOICE, unsafe, log entry 68. -/
def Meter.markRestart (m : Meter) : Meter :=
  { m with latched := m.latched.map fun l => { l with cnt := { l.cnt with flags := l.cnt.flags ||| 8 } } }

/-- Admissions that wait for Keeper are refused with KEYS when the restart takes longer than 40 ms. -/
def State.lateAdmissions (s : State) : State :=
  (List.finRange 64).foldl (fun s c =>
    let x := (s.cell c).sess
    if x.state = .loading ∧ x.view.isSome ∧ s.calcReady c = true then s.refusePair c 0x36 0 else s) s

/-! ## Metering (R401, R403, R407) -/

/-- A minute starts for a cell: its counters latch at its next boundary, or at once when it runs no frame.
DEDUCED, unsafe, log entry 69. -/
def State.minuteCell (s : State) (c : CellId) (t : Nat) : State :=
  let x := s.cell c
  let m := { s.meters[c] with due := some t }
  let frames := x.running && !x.beam.held
  if frames then s.setMeter c m
  else if x.running || x.sess.state == .parked then
    let s1 := (s.setMeter c m).latchMeter c
    if x.sess.state = .parked then s1.setMeter c ((s1.meters[c]).mark 0 4) else s1
  else s

/-- MINUTE_START. -/
def execMinuteStart (t : Nat) (s : State) : Out :=
  .next (if s.inReset then s else (List.finRange 64).foldl (fun s c => s.minuteCell c (minuteOf t)) (s.at t))

/-- A session that has ended leaves its cell FREE when its last set is sealed (R327).
DEDUCED, unsafe, log entry 62. -/
def State.freeSealed (s : State) (c : CellId) : State :=
  if (s.cell c).sess.state = .ended ∧ (s.meters[c]).latched = [] then s.toFree c else s

/-- METERING_SEAL. -/
def execMeteringSeal (c : CellId) (t : Nat) (s : State) : Out :=
  .next (if s.inReset || s.keeper.restarting || (s.meters[c]).latched.isEmpty then s
    else ((s.at t).sealOldest c t).freeSealed c)

/-- Records up to a RECSEQ are removed. -/
def State.meterAck (s : State) (recseq : Nat) : State :=
  s.setKeeper { s.keeper with records := s.keeper.records.filter fun q => decide (recseq < q.1) }

/-- METER_ACK. -/
def execMeterAck (recseq : Nat) (s : State) : Out := .next (if s.serves then s.meterAck recseq else s)

/-! ## Update slots (R414, R415) -/

/-- The firmware kind that must not be TRIAL. -/
def otherFirmware : ImageKind → Option ImageKind
  | .kfw => some .tfw
  | .tfw => some .kfw
  | .cfg => none

/-- Activate: a VALID slot becomes active and TRIAL, and takes effect; a CFG slot pends. -/
def State.activate (s : State) (k : ImageKind) : State × Nat :=
  let x := s.slots k
  let blocked := match otherFirmware k with
    | some o => (s.slots o).act.state == .trial
    | none => false
  if x.other.state ≠ .valid ∨ blocked = true then (s, errState)
  else
    let s1 := s.setSlots k { x.setOther { x.other with state := .trial } with active := !x.active }
    match k with
    | .cfg => (s.setSlots k { x with pending := true }, 0)
    | .kfw => (s1.keeperRestart, 0)
    | .tfw => (s1.setKeeper { s1.keeper with handover := .preparing }, 0)

/-- Commit: a TRIAL slot becomes GOOD, and OTP follows its SVN, which CFG does not have.
DESIGN CHOICE, unsafe, log entry 68. -/
def State.commit (s : State) (k : ImageKind) : State × Nat :=
  let x := s.slots k
  if x.act.state ≠ .trial then (s, errState)
  else
    let y := x.setAct { x.act with state := .good }
    (s.setSlots k { y with otpSvn := if k = .cfg then y.otpSvn else Nat.max y.otpSvn x.act.svn }, 0)

/-- ACTIVATE. -/
def execActivate (k : ImageKind) (s : State) : Out := .next (if s.serves then (s.activate k).1 else s)

/-- SLOT_COMMIT. -/
def execSlotCommit (k : ImageKind) (s : State) : Out := .next (if s.serves then (s.commit k).1 else s)

/-! ## The handover of Tender (R416) -/

/-- HANDOVER_WINDOW_OPEN. -/
def execHandoverWindowOpen (s : State) : Out :=
  .next (if s.keeper.handover = .preparing then s.setKeeper { s.keeper with handover := .opened } else s)

/-- Keeper falls back to the previous image, or without one withdraws health. -/
def State.handoverFails (s : State) : State :=
  if s.keeper.handover = .opened then
    let x := s.slots .tfw
    let y := { x.setAct { x.act with state := .bad } with active := !x.active }
    (s.setSlots .tfw y).setKeeper { (s.setSlots .tfw y).keeper with handover := .fallback }
  else if s.keeper.handover = .fallback then s.withdraw
  else s

/-- HANDOVER_TIMEOUT. -/
def execHandoverTimeout (s : State) : Out := .next s.handoverFails

/-- A ticket as Keeper keeps its digest: as it was at admission (R322, R387). -/
def admittedTicket (t : Bytes) : Bytes := t.take 144 ++ List.replicate 8 0 ++ t.drop 152

/-- Does a ticket agree with the digest that Keeper keeps? -/
def State.ticketKept (s : State) (t : Bytes) : Bool :=
  s.keeper.tickets.any fun q => q.2.1 = field t 4 8 ∧ q.2.2 = digest32 (admittedTicket t)

end Sys2Proof.Machine
end

