-- ==== Sys2Proof/Machine/DebugPort.lean ====
section
/-! DEFINITION. Levels, the debug tunnel and the two-wire port: the shared operations of chapter 16 (R420 to R440). -/

namespace Sys2Proof.Machine

/-! ## Levels (R23, R421, R428) -/

/-- PD_DBG goes off when the port is locked and no level is granted (R23). -/
def State.dbgIdle (s : State) : State :=
  if s.portLevel = 0 ∧ (List.finRange 64).all (fun c => (s.dbg[c]).level == 0) then s.setPort { s.port with powered := false }
  else s

/-- After a level changed: every cell whose effective level is not what it was.
DESIGN CHOICE, unsafe, log entry 70. -/
def State.relevel (s old : State) : State :=
  ((List.finRange 64).foldl (fun s c =>
    if s.effLevel c = old.effLevel c ∨ (s.cell c).sess.state = .free then s else s.levelChanged c) s).dbgIdle

/-- The port's unlocked level. -/
def State.setPortLevel (s : State) (level : Nat) : State := (s.setPort { s.port with level := level }).relevel s

/-- The level of a cell. -/
def State.setLevel (s : State) (c : CellId) (level : Nat) : State := (s.setDbg c { s.dbg[c] with level := level }).relevel s

/-- Remove the oldest trace packets (R440). -/
def State.traceRemove (s : State) (c : CellId) (n : Nat) : State :=
  if n = 0 ∨ (s.dbg[c]).trace = [] then s else s.setDbg c ((s.dbg[c]).remove n)

/-! ## The tunnel (R436, R437) -/

/-- A request of a client to a cell: its result is WAIT until the operation has run. -/
def State.tunnel (s : State) (who : Client) (c : CellId) (req : Bytes) : State :=
  (s.keepResult c who.key none).takeDbg c
    ⟨who.key, field req 0 1, BitVec.ofNat 32 (field req 2 4), BitVec.ofNat 32 (field req 6 4)⟩

/-! ## Port registers (R428) -/

/-- PORT_STAT. -/
def DbgPort.stat (p : DbgPort) : Word :=
  BitVec.ofNat 32 (p.fault * 2 ^ 24 + b2n p.crcErr * 32 + b2n p.busy * 16 + p.result * 4 + p.level)

/-- PORT_REQ: a new challenge, and an empty response buffer. DESIGN CHOICE, unsafe, log entry 70. -/
def State.portReq (s : State) (v : Nat) : State :=
  if v = 0 ∨ 2 < v then s
  else
    let q := s.random 32
    let chal := [1, BitVec.ofNat 8 v, BitVec.ofNat 8 s.keeper.lifecycle, 0] ++ beBytes 8 Config.deviceId.toNat ++ q.1 ++
      beBytes 4 s.keeper.boot
    q.2.setPort { q.2.port with request := v, challenge := chal, response := [], used := false, result := 0 }

/-- PORT_SUBMIT: Keeper begins to verify. -/
def State.portSubmit (s : State) (v : Word) : State := if v.getLsbD 0 then s.setPort { s.port with busy := true } else s

/-- PORT_RELOCK. -/
def State.portRelock (s : State) : State := s.setPortLevel 0

/-- Does a consent that the device holds cover a debug level (R428)? -/
def State.debugConsent (s : State) (level : Nat) : Bool :=
  s.keeper.consents.any fun d =>
    let p := field d 1 1
    s.consentLive d && (p == 3 || (p == 2 && level == 1))

/-- Does Keeper grant the level that is requested? -/
def State.unlockGood (s : State) : Bool :=
  let p := s.port
  let key := p.response.take 2592
  !p.used && decide (p.response.length = 7220) && field p.response 7219 1 == 0 &&
    Config.provisioningKeys.contains (digest32 key) &&
    Config.dsaVerify key (ctx "lyseo-debug-unlock") true p.challenge (slice p.response 2592 4627) &&
    (s.keeper.lifecycle != 2 || s.debugConsent p.request)

/-- Keeper has verified a response. -/
def State.unlockVerdict (s : State) : State :=
  let ok := s.unlockGood
  let s1 := s.setPort { s.port with busy := false, used := true, result := if ok then 1 else 2 }
  if ok then s1.setPortLevel s.port.request else s1

/-- A write to a port register. -/
def State.portWrite (s : State) (a : Nat) (v : Word) : State × DbgAnswer :=
  if a = 0x0000 then (if v.getLsbD 5 then s.setPort { s.port with crcErr := false } else s, dbgOk 0)
  else if a = 0x0004 then (s.portReq v.toNat, dbgOk 0)
  else if a = 0x0008 then (s.portSubmit v, dbgOk 0)
  else if a = 0x000C then (if v.getLsbD 0 then s.portRelock else s, dbgOk 0)
  else if 0x0100 ≤ a ∧ a ≤ 0x012C then (s, dbgOk 0)
  else if a = 0x0200 then (s.setPort { s.port with response := s.port.response ++ beBytes 4 v.toNat }, dbgOk 0)
  else (s, dbgFault 0x05)

/-- A read of a port register; what is write-only reads 0 (R8). DESIGN CHOICE, unsafe, log entry 70. -/
def State.portRead (s : State) (a : Nat) : DbgAnswer :=
  if a = 0x0000 then dbgOk s.port.stat
  else if a = 0x0004 ∨ a = 0x0008 ∨ a = 0x000C ∨ a = 0x0200 then dbgOk 0
  else if 0x0100 ≤ a ∧ a ≤ 0x012C then dbgOk (BitVec.ofNat 32 (field s.port.challenge (a - 0x0100) 4))
  else dbgFault 0x05

/-! ## Targets (R422, R427) -/

/-- The code of a target. -/
def targetCode : DbgTarget → Nat
  | .cell c => c.val
  | .tender k => 0x40 + k.val
  | .keeper => 0x50
  | .port => 0xFF
  | .other v => v.toNat

/-- The Tender or Keeper core of a target code. -/
def targetCore (code : Nat) : Option (Fin 5) :=
  if 0x40 ≤ code ∧ code < 0x44 then some ⟨(code - 0x40) % 4, by omega⟩ else if code = 0x50 then some 4 else none

/-- Registers of a core whose program the spec does not give: free values (DESIGN CHOICE, safe, log entry 30). -/
def DbgCore.anew (d : DbgCore) (base : Nat) (pc : Bool) : DbgCore :=
  { d with
    x := Vector.ofFn fun r : Fin 32 => if r.val = 0 then 0 else Config.freeWord (base + r.val)
    pc := if pc then Config.freeWord base &&& 0xFFFFFFFE else d.pc }

def State.setCore (s : State) (k : Fin 5) (d : DbgCore) : State := { s with cores := s.cores.set k.val d }

/-- A core whose registers have changed in a way that the spec does not give. -/
def State.coreAnew (s : State) (k : Fin 5) (halted pc : Bool) : State :=
  ({ s with fresh := s.fresh + 32 }).setCore k (({ s.cores[k] with halted := halted }).anew s.fresh pc)

/-- READ and WRITE of a core's registers. DESIGN CHOICE, safe, log entry 30. -/
def State.coreAccess (s : State) (k : Fin 5) (wr : Bool) (a : Nat) (v : Word) : State × DbgAnswer :=
  let d := s.cores[k]
  let gpr := decide (0xC0000000 ≤ a ∧ a < 0xC0000080)
  let r : Fin 32 := ⟨(a - 0xC0000000) / 4 % 32, by omega⟩
  if a % 4 ≠ 0 then (s, dbgFault 0x09)
  else if !gpr && a != 0xC0000080 then (s, dbgFault 0x05)
  else if !d.halted then (s, dbgFault 0x04)
  else if !wr then (s, dbgOk (if gpr then d.x[r] else d.pc))
  else if gpr then (if r.val = 0 then s else s.setCore k { d with x := d.x.set r.val v }, dbgOk 0)
  else if v.getLsbD 0 then (s, dbgFault 0x09)
  else (s.setCore k { d with pc := v }, dbgOk 0)

/-- An operation on a Tender or Keeper core. DESIGN CHOICE, safe, log entry 30.
DESIGN CHOICE, unsafe, log entry 58. DESIGN CHOICE, unsafe, log entry 70. -/
def State.coreRun (s : State) (k : Fin 5) (op : Nat) (a v : Word) : State × DbgAnswer :=
  let d := s.cores[k]
  if k.val = 4 ∧ (s.keeper.lifecycle = 2 ∨ s.keeper.lifecycle = 3) then (s, dbgFault 0x0B)
  else if s.portLevel < 2 then (s, dbgFault 0x03)
  else if op ≤ 2 then s.coreAccess k (op == 2) a.toNat v
  else if op = 3 then (if d.halted then s else s.coreAnew k true true, dbgOk 0)
  else if op = 4 then (s.setCore k { d with halted := false }, dbgOk 0)
  else if !d.halted then (s, dbgFault 0x04)
  else if op = 5 then (s.coreAnew k true true, dbgOk 0)
  else if injectBad (rvDecode v) then (s, dbgFault 0x07)
  else (s.coreAnew k true false, dbgOk 0)

/-! ## Frames (R422 to R426) -/

/-- Answer a frame; FAULT is kept in PORT_STAT. -/
def State.dbgAnswer (s : State) (r : DbgAnswer) : State :=
  (if r.1 = 4 then s.setPort { s.port with fault := r.2.toNat % 256 } else s).send (.dbg r.1 r.2)

def State.dbgWait (s : State) : State := s.send (.dbg 2 0)

/-- A frame that is taken: it is answered at once, or with WAIT while its result is outstanding.
DESIGN CHOICE, unsafe, log entry 70. -/
def State.takeFrame (s : State) (code op : Nat) (a v : Word) : State :=
  if op = 0 ∨ 6 < op then s.dbgAnswer (dbgFault 0x01)
  else if code = 0xFF then
    if 2 < op then s.dbgAnswer (dbgFault 0x01)
    else if op = 1 then s.dbgAnswer (s.portRead a.toNat)
    else
      let q := s.portWrite a.toNat v
      q.1.dbgAnswer q.2
  else if !s.port.powered then (s.setPort { s.port with powered := true }).dbgWait
  else match targetCore code with
    | some k =>
      let q := s.coreRun k op a v
      q.1.dbgAnswer q.2
    | none =>
      if 64 ≤ code then s.dbgAnswer (dbgFault 0x02)
      else
        let c := toCell code
        let s1 := (s.setPort { s.port with pending := some ⟨code, op, a, v, none⟩ }).takeDbg c ⟨0, op, a, v⟩
        match s1.port.pending.bind DbgPending.answer with
        | some r => (s1.setPort { s1.port with pending := none }).dbgAnswer r
        | none => s1.dbgWait

/-- A debug frame: a repeat of one whose result is outstanding fetches it, any other frame waits. -/
def State.frame (s : State) (code op : Nat) (a v : Word) : State :=
  if s.inReset then s
  else match s.port.pending with
    | none => s.takeFrame code op a v
    | some p =>
      if p.target ≠ code ∨ p.op ≠ op ∨ p.addr ≠ a ∨ p.data ≠ v then s.dbgWait
      else match p.answer with
        | some r => (s.setPort { s.port with pending := none }).dbgAnswer r
        | none => s.dbgWait

/-- A line reset drops the outstanding result; the operation itself stays taken. -/
def State.lineReset (s : State) : State :=
  let s1 := s.setPort { s.port with pending := none }
  { s1 with dbg := s1.dbg.map fun d =>
    { d with waiting := d.waiting.map fun o => if o.route = 0 then { o with route := lostRoute } else o } }

end Sys2Proof.Machine
end

