-- ==== Sys2Proof/Machine/Pins.lean ====
section
/-! DEFINITION. GPIO pins, the board-monitor ADC, VRHOT_N and the SMBus target (R459, R467 to R473). -/

namespace Sys2Proof.Machine

/-! ## GPIO (R467 to R471) -/

/-- The function in force on a pin, its options and its output level. -/
def State.gpioFn (s : State) (p : Fin 40) : Nat := s.obj (0x2100 + p.val) 1
def State.gpioOpt (s : State) (p : Fin 40) : Nat := s.obj (0x2100 + p.val) 2

/-- Level and enable that a function gives the pad; the console idles high. -/
def State.gpioFnOut (s : State) (p : Fin 40) : Bool × Bool := match s.gpioFn p with
  | 2 => (s.obj (0x2100 + p.val) 3 == 1, true)
  | 3 => (true, true)
  | 5 => (!s.alert, true)
  | _ => (false, false)

/-- Level and enable of a pad: those kept during a function hold, otherwise those of its function; with OD the output
drives only low. -/
def State.gpioOut (s : State) (p : Fin 40) : Bool × Bool := match s.pins.gpio[p] with
  | some q => q
  | none =>
    let q := s.gpioFnOut p
    if bit (s.gpioOpt p) 6 && q.1 then (q.1, false) else q

/-- Is an input function mapped from this pin and another one too (R471)? -/
def State.gpioConflict (s : State) (p : Fin 40) : Bool :=
  let f := s.gpioFn p
  (f == 4 || f == 6) && (List.finRange 40).any fun q => q != p && s.gpioFn q == f

/-- A function write that takes effect: the pad keeps its level and enable for 64 REF cycles; an ADC channel whose pin
leaves ANALOG holds 0. -/
def State.gpioFunction (s : State) (p : Fin 40) (code : Nat) : State :=
  let keep := (s.pins.gpio[p]).getD (s.gpioOut p)
  let s1 := (s.setObj (0x2100 + p.val) 1 code).setPins { s.pins with gpio := s.pins.gpio.set p.val (some keep) }
  if 32 ≤ p.val ∧ code ≠ 7 then s1.setObj 0x2140 (p.val - 31) 0 else s1

/-- GPIO_FUNCTION_WRITE: a code that is not available on the pin changes nothing. -/
def execGpioFunctionWrite (p : Fin 40) (code : Nat) (s : State) : Out :=
  .next (if s.up && gpioAllowed p.val code then s.gpioFunction p code else s)

/-- GPIO_HOLD_END: the pad takes level and enable of the function in force. -/
def execGpioHoldEnd (p : Fin 40) (s : State) : Out :=
  .next (s.setPins { s.pins with gpio := s.pins.gpio.set p.val none })

/-- GPIO_OPTIONS_WRITE: both pulls at once change nothing. -/
def execGpioOptionsWrite (p : Fin 40) (v : Byte) (s : State) : Out := match gpioOptions p.val v.toNat with
  | none => .next s
  | some w => .next (if s.up then s.setObj (0x2100 + p.val) 2 w else s)

/-- Does VRHOT_N follow a pad: mapped from exactly one pin, which is not held (R470, R471)? -/
def State.vrhotMapped (s : State) : Bool :=
  match (List.finRange 40).filter fun p => s.gpioFn p == 6 with
  | [p] => (s.pins.gpio[p]).isNone
  | _ => false

/-- VRHOT_N: the input has been low, or high, for 1 ms; an input that follows no pad is high. -/
def execVrhotN (high : Bool) (s : State) : Out :=
  .next (if s.inReset then s
    else if high then s.setAlert s.power.hot false
    else if s.vrhotMapped then s.setAlert s.power.hot true else s)

/-! ## Board-monitor ADC (R472) -/

/-- The code of a conversion, within 4 LSB; above 1.2 V it is 4,095. DESIGN CHOICE, safe, log entry 27. -/
def adcCode (microvolts err : Nat) : Nat :=
  if 1200000 < microvolts then 4095
  else
    let n : Int := (Nat.min 4095 (microvolts * 4096 / 1200000) : Nat)
    (clampInt 0 4095 (n + (err % 9 : Nat) - 4)).toNat

/-- ADC_CONVERSION: a channel whose pin is not in ANALOG mode holds 0. -/
def execAdcConversion (ch : Fin 8) (microvolts : Nat) (s : State) : Out :=
  if !s.up then .next s
  else if s.gpioFn ⟨32 + ch.val, by omega⟩ ≠ 7 then .next (s.setObj 0x2140 (1 + ch.val) 0)
  else
    let q := s.draw
    .next (q.2.setObj 0x2140 (1 + ch.val) (adcCode microvolts (Config.adcError q.1)))

/-! ## SMBus (R473) -/

/-- Does the target answer: the AON island runs, from a COLD reset's end on? -/
def State.smbOn (s : State) : Bool := s.power.phase != .test && !(s.power.phase == .reset && s.power.kind == 0)

/-- Answer a command. -/
def State.smbAnswer (s : State) (bs : Bytes) : State := if s.smbOn then s.send (.smb bs) else s

/-- A word, low byte first. PRESUMED, unsafe, log entry 71. -/
def smbWord (v : Int) : Bytes := leBytes 2 (wrap 16 v)

/-- The power state as SMBus command 0x01 and the power object code it. -/
def State.powerCode (s : State) : Nat :=
  if s.power.phase = .reset ∨ s.power.phase = .test then 0
  else match s.power.state with
    | .parked => 1
    | .idle => 2
    | .active => 3

/-- The status byte. -/
def State.smbStatus (s : State) : Nat :=
  b2n s.alert + 2 * b2n s.power.hold + 4 * b2n (s.pins.bypass == some true) + 8 * b2n (s.power.phase == .recovery) +
    16 * s.powerCode

/-- SMB_READ_REVISION: silicon revision B0. -/
def execSmbReadRevision (s : State) : Out := .next (s.smbAnswer [0xB0])

/-- SMB_READ_STATUS. -/
def execSmbReadStatus (s : State) : Out := .next (s.smbAnswer [BitVec.ofNat 8 s.smbStatus])

/-- SMB_READ_TEMPERATURE. -/
def execSmbReadTemperature (s : State) : Out := .next (s.smbAnswer (smbWord s.power.temp))

/-- SMB_READ_TEMPERATURE_MAX. -/
def execSmbReadTemperatureMax (s : State) : Out := .next (s.smbAnswer (smbWord s.power.tempMax))

/-- SMB_READ_VDD_CORE. -/
def execSmbReadVddCore (s : State) : Out := .next (s.smbAnswer (smbWord s.power.rails.core))

/-- SMB_READ_VDD_CORE_MIN. -/
def execSmbReadVddCoreMin (s : State) : Out := .next (s.smbAnswer (smbWord s.power.coreMin))

/-- SMB_READ_RESET_KIND. -/
def execSmbReadResetKind (s : State) : Out := .next (s.smbAnswer [BitVec.ofNat 8 s.power.kind])

/-- SMB_READ_DEVICE_ID: a block of 8 bytes, most significant first, after its count.
PRESUMED, unsafe, log entry 71. -/
def execSmbReadDeviceId (s : State) : Out := .next (s.smbAnswer (8 :: beBytes 8 Config.deviceId.toNat))

/-- SMB_ALERT_RESPONSE: a target that holds SMB_ALERT_N low answers and releases it. -/
def execSmbAlertResponse (s : State) : Out :=
  .next (if s.smbOn && s.pins.smbAlert then (s.send (.smb [0x5A])).setPins { s.pins with smbAlert := false } else s)

/-- SMB_UNLISTED_COMMAND: a code that is not listed is NACKed. -/
def execSmbUnlistedCommand (code : Byte) (s : State) : Out :=
  .next (if s.smbOn && decide (7 < code.toNat) then s.send .smbNack else s)

end Sys2Proof.Machine
end

