-- ==== Sys2Proof/Machine/DictRead.lean ====
section
/-! DEFINITION. What a read of a subindex returns (R363, R364, R366, the object tables of every chapter, and the quote of
R400). -/

namespace Sys2Proof.Machine

/-! ## Device objects -/

/-- Is PD_SVC on: the service port in use, or a service channel open (R442)? -/
def State.pdSvc (s : State) : Bool := s.obj 0x2020 4 == 1 || s.dict.channels.any fun c => c.service && c.isOpen

/-- Clock domains locked, bit d - 1 for domain d (R21, R386, R449): those of the AON island always, those of the ridges when
every ridge PLL is locked, the others with their power domain. DEDUCED, unsafe, log entry 73. -/
def State.pllLocked (s : State) : Nat :=
  let ridge := (List.finRange 16).all fun r => (s.ridges[r]).locked
  let on := s.up && s.power.state != .parked
  let up := on && s.power.uplink
  ([true, true, ridge, ridge, ridge, ridge, on, on, on, on, up, up, s.up, s.up, !s.inReset, true, s.pdSvc,
    s.port.powered].zipIdx.map fun q => b2n q.1 * 2 ^ q.2).sum

/-- Identity, role and channel objects. -/
def State.identityValue (s : State) (idx sub : Nat) : Option Nat := match idx, sub with
  | 0x1000, 4 => some Config.deviceId.toNat
  | 0x1000, 5 => some (s.slots .kfw).act.imgver
  | 0x1000, 6 => some (s.slots .tfw).act.imgver
  | 0x1000, 7 => some s.keeper.lifecycle
  | 0x1000, 8 => some (if s.keeper.seed = [] then 0 else beNat (digest32 s.keeper.identity))
  | 0x1000, 9 => some s.family
  | 0x1001, 2 => some (b2n s.pins.roleStrap)
  | 0x1001, 4 => some s.roleInForce
  | 0x1001, 5 => some s.power.kind
  | 0x1100, 2 => some (s.dict.channels.filter Channel.isOpen).length
  | _, _ => none

/-- House time, power, supply and clock objects; 0x2031:01 to 05, 0A and 0B read 0 in recovery (R462).
DESIGN CHOICE, safe, log entry 28. -/
def State.deviceValue (s : State) (idx sub : Nat) : Option Nat :=
  let tender := fun v : Nat => some (if s.power.phase = .recovery then 0 else v)
  match idx, sub with
  | 0x2000, 3 => some s.house.loop.code
  | 0x2000, 5 => some s.house.time
  | 0x2000, 7 => some s.timeSource
  | 0x2030, 1 => some s.powerCode
  | 0x2030, 3 => some ((List.finRange 16).map fun r => b2n (s.ridges[r]).powered * 2 ^ r.val).sum
  | 0x2030, 5 => some (b2n s.power.sysclkSec)
  | 0x2030, 6 => some (Nat.min (Config.elapsed s.fresh) 0xFFFFFFFF)
  | 0x2031, 1 => tender s.power.rails.core
  | 0x2031, 2 => tender s.power.rails.sram
  | 0x2031, 3 => tender s.power.rails.aon
  | 0x2031, 4 => tender s.power.rails.vddq
  | 0x2031, 5 => tender s.power.coreMin
  | 0x2031, 7 => some (b2n s.power.hold)
  | 0x2031, 9 => some (b2n s.alert)
  | 0x2031, 0x0A => tender (wrap 16 s.power.temp)
  | 0x2031, 0x0B => tender (wrap 16 s.power.tempMax)
  | 0x2040, 1 => some s.pllLocked
  | 0x2040, 2 => some 1
  | _, _ => none

/-- Pad level and mux conflict of a GPIO object; ANALOG reads level 0 (R469, R471).
DESIGN CHOICE, safe, log entry 26. -/
def State.gpioValue (s : State) (p : Fin 40) (sub : Nat) : Option Nat := match sub with
  | 4 => some (if s.gpioFn p = 7 then 0 else b2n (Config.padLevel s.fresh p.val))
  | 5 => some (b2n (s.gpioConflict p))
  | _ => none

/-! ## Cell objects -/

/-- The session object (R312). -/
def State.sessionValue (s : State) (c : CellId) (sub : Nat) : Option Nat :=
  let x := (s.cell c).sess
  match sub with
  | 5 => some x.state.code
  | 6 => some (if x.state = .free then 0 else x.role.code)
  | 0x0A => some (if x.state = .free then 0 else (s.cell c).sessionId)
  | 0x0C => some (match x.pending with
    | some (_, t) => t
    | none => 0)
  | _ => none

/-- The live counters of a cell's metering object (R410). -/
def State.meterValue (s : State) (c : CellId) (sub : Nat) : Option Nat :=
  let l := (s.meters[c]).live
  let r := framePeriod (s.cell c).family
  match sub with
  | 2 => some l.aframes
  | 3 => some l.qframes
  | 4 => some l.vbytes
  | 5 => some l.abytes
  | 6 => some l.inputs
  | 7 => some l.cycles
  | 8 => some l.mirframes
  | 9 => some (field (s.cell c).sess.ticket 20 4 * l.frames * r.1 / r.2)
  | 0x0A => some l.supply
  | 0x0B => some (b2n (bit l.flags 2))
  | _ => none

/-- Debug level and result of a client (R436), trace buffer (R440), phase offset (R88). -/
def State.cellValue (s : State) (who : Client) (cls : Nat) (c : CellId) (sub : Nat) : Option Nat := match cls, sub with
  | 0x301B, 4 => if (s.cell c).sess.state = .free then none else some (s.cell c).sess.phase
  | 0x7000, 1 => some (s.dbg[c]).level
  | 0x7000, 3 => some (((s.dict.results.find? fun q => q.1 = who.key ∧ q.2.1 = c.val).map fun q => beNat q.2.2).getD 0)
  | 0x7040, 1 => some (s.dbg[c]).trace.length
  | 0x3010, sub => s.sessionValue c sub
  | 0x4000, sub => s.meterValue c sub
  | _, _ => none

/-! ## Keeper, ring, debug and update objects -/

def SlotState.code : SlotState → Nat
  | .empty => 0
  | .writing => 1
  | .valid => 2
  | .trial => 3
  | .good => 4
  | .bad => 5

def kindOf (k : Nat) : ImageKind := if k = 0 then .kfw else if k = 1 then .tfw else .cfg

/-- A firmware object (R419). -/
def State.slotValue (s : State) (k : ImageKind) (sub : Nat) : Option Nat :=
  let x := s.slots k
  match sub with
  | 1 => some (b2n x.active)
  | 2 => some x.a.state.code
  | 3 => some x.a.imgver
  | 4 => some (beNat x.a.digest)
  | 5 => some x.b.state.code
  | 6 => some x.b.imgver
  | 7 => some (beNat x.b.digest)
  | 0x0A => some (if k = .cfg then 0 else x.otpSvn)
  | 0x0B => some (if x.pending then b2n !x.active else 0xFF)
  | _ => none

/-- The ring's state: 0 FORMING, 1 CLOSED, 2 WRAPPED, 3 SPLIT, 4 BYPASSED (R358). DEDUCED, unsafe, log entry 72. -/
def State.ringState (s : State) : Nat :=
  let r := s.ring
  if !r.member || s.pins.bypass != some true then 4
  else if 2 ≤ r.down.length then 3
  else if r.down.length = 1 ∨ r.east.state = 3 ∨ r.west.state = 3 then 2
  else if r.east.state = 2 ∧ r.west.state = 2 then 1
  else 0

/-- The ring order eastward from the own node, padded with 0xFF. -/
def Ring.fromSelf (r : Ring) : List Nat :=
  let i := if r.order.contains r.node then r.order.idxOf r.node else 0
  ((r.order.drop i ++ r.order.take i) ++ List.replicate 16 0xFF).take 16

/-- Ring state and lease (R358, R360). -/
def State.ringValue (s : State) (idx sub : Nat) : Option Nat :=
  let r := s.ring
  match idx, sub with
  | 0x6000, 1 => some r.order.length
  | 0x6000, 2 => some r.node
  | 0x6000, 3 => some r.manager
  | 0x6000, 4 => some r.standby
  | 0x6000, 5 => some s.ringState
  | 0x6000, 6 => some (beNat (r.fromSelf.map fun n => BitVec.ofNat 8 n))
  | 0x6000, 7 => some (r.topo % 2 ^ 32)
  | 0x6000, 8 => some (r.east.state * 256 + r.west.state)
  | 0x6000, 0x0D => some r.epoch
  | 0x6000, 0x0E => some (b2n s.fenced)
  | 0x6010, 2 => some r.lease
  | 0x6010, 3 => some (match r.leaseAt with
    | some t => Nat.min ((s.house.time - t) / 1000) 0xFFFFFFFF
    | none => 0xFFFFFFFF)
  | 0x6010, 4 => some r.takeover
  | _, _ => none

/-- Metering records, lifecycle, registry and the debug port. -/
def State.keeperValue (s : State) (idx sub : Nat) : Option Nat :=
  let k := s.keeper
  match idx, sub with
  | 0x4100, 1 => some ((k.records.head?.map Prod.fst).getD 0)
  | 0x4100, 2 => some ((k.records.getLast?.map Prod.fst).getD 0)
  | 0x4100, 7 => some k.boot
  | 0x5000, 1 => some k.lifecycle
  | 0x5000, 2 => some (beNat (fitBytes 128 (k.roots.map (fitBytes 32)).flatten))
  | 0x5001, 3 => some k.registry.length
  | 0x7080, 1 => some s.port.level
  | _, _ => none

/-- What a subindex holds that is not a DOMAIN: live values from their own home, all others as stored. -/
def State.objValue (s : State) (who : Client) (idx sub : Nat) : Nat :=
  let cls := objClass idx
  let live : Option Nat :=
    if cls.1 = 0x2100 then s.gpioValue ⟨cls.2 % 40, by omega⟩ sub
    else if cls.1 = 0x8001 then s.slotValue (kindOf cls.2) sub
    else if idx < 0x2000 then s.identityValue idx sub
    else if idx < 0x3000 then s.deviceValue idx sub
    else if 0x6000 ≤ idx ∧ idx < 0x7000 then s.ringValue idx sub
    else (s.cellValue who cls.1 (toCell cls.2) sub).or (s.keeperValue idx sub)
  live.getD (s.obj idx sub)

/-! ## DOMAIN values -/

/-- The cells that a quote lists (R400). -/
def State.quoted (s : State) (who : Client) : List CellId :=
  (List.finRange 64).filter fun c =>
    (s.cell c).sess.state != .free && (who.role != 2 || (s.cell c).sessionId == who.session)

/-- The image digest of the running image of a kind. -/
def State.runningDigest (s : State) (k : ImageKind) : Bytes := fitBytes 64 (s.slots k).act.digest

/-- An attestation quote (R400). -/
def State.quote (s : State) (who : Client) : Bytes :=
  let cells := s.quoted who
  let nonce := ((s.dict.nonces.find? fun q => q.1 = who.key).map Prod.snd).getD (List.replicate 32 0)
  let head := [1, 0xB0, BitVec.ofNat 8 s.keeper.lifecycle, BitVec.ofNat 8 s.roleInForce] ++ beBytes 8 Config.deviceId.toNat ++
    fitBytes 32 nonce ++ beBytes 8 s.house.time ++ beBytes 4 (s.slots .kfw).act.imgver ++
    beBytes 4 (s.slots .tfw).act.imgver ++ s.runningDigest .kfw ++ s.runningDigest .tfw ++ s.runningDigest .cfg ++
    beBytes 2 (s.slots .kfw).otpSvn ++ beBytes 2 (s.slots .tfw).otpSvn ++
    [BitVec.ofNat 8 s.ring.node, BitVec.ofNat 8 s.ring.order.length] ++ beBytes 2 cells.length ++
    beBytes 4 s.keeper.boot ++ beBytes 4 s.keeper.recseq
  let list := cells.flatMap fun c =>
    let x := (s.cell c).sess
    beBytes 8 (s.cell c).sessionId ++ [BitVec.ofNat 8 c.val, BitVec.ofNat 8 x.role.code, BitVec.ofNat 8 x.state.code, 0] ++
      fitBytes 32 (s.ticketDigest c) ++ [0, 0, 0, 0]
  head ++ list ++ s.sign "lyseo-quote" (head ++ list)

/-- A DOMAIN; none where the value asked for is not held. -/
def State.domainValue (s : State) (who : Client) (idx sub : Nat) : Option Bytes :=
  let cls := objClass idx
  let c := toCell cls.2
  match cls.1, sub with
  | 0x3010, 9 => some (s.cell c).sess.ticket
  | 0x4100, 4 => (s.keeper.records.find? fun q => q.1 = s.obj 0x4100 3).map Prod.snd
  | 0x4100, 8 => some ((s.keeper.records.take 64).flatMap Prod.snd)
  | 0x5000, 8 => some s.keeper.certs
  | 0x5001, 4 => some (s.keeper.registry.flatMap fun k =>
      k.keyid ++ [BitVec.ofNat 8 k.kind, BitVec.ofNat 8 k.flags] ++ beBytes 8 k.tenant ++ beBytes 8 k.notAfter)
  | 0x5020, 2 => some (s.quote who)
  | 0x5100, 1 => some (((s.keysOf c).map SessKeys.bundle).getD [])
  | 0x7040, 2 => some ((s.dbg[c]).trace.take 1024).flatten
  | _, _ => some []

end Sys2Proof.Machine
end

