-- ==== Sys2Proof/Machine/Ring.lean ====
section
/-! DEFINITION. The commands of the ring (13_ring_mirroring_failover.md): frames as they arrive, ports, membership, beacons,
promotion, leases, epochs and mirrors. -/

namespace Sys2Proof.Machine

/-! ## Frames -/

/-- SYNC_FRAME (R342). -/
def execSyncFrame (p : PortSide) (f : RingFrame) (s : State) : Out :=
  .next (s.receive p f (f.cls == .sync) (s.syncOnward p) fun s => s.takeSync f.src f.payload)

/-- BEACON (R344, R345). -/
def execBeacon (p : PortSide) (f : RingFrame) (s : State) : Out :=
  .next (s.receive p f (f.cls == .beacon) id fun s => s.takeBeacon f.src f.payload)

/-- STREAM_FRAME: at the active manager the packet leaves on its uplink (R272, R333, R352). -/
def execStreamFrame (p : PortSide) (f : RingFrame) (s : State) : Out :=
  .next (s.receive p f (f.cls == .stream) id fun s =>
    if s.isManager && !s.fenced && !s.power.withdrawn then s.send (.uplink (f.typ % 2) f.payload) else s)

/-- STATE_FRAME (R320, R341, R349). -/
def execStateFrame (p : PortSide) (f : RingFrame) (s : State) : Out :=
  .next (s.receive p f (f.cls == .state) id fun s => match Config.stateParse f.payload with
    | some m => s.takeState f.src m
    | none => s)

/-- TOPO (R343). -/
def execTopo (p : PortSide) (f : RingFrame) (s : State) : Out :=
  .next (s.receiveMsg p f 0 fun s m => match m with
    | .topo order down gen => s.takeTopo f.src order down gen
    | _ => s)

/-- The answer to a PROBE: at once from a joiner, otherwise in the node's slot (R336, R339).
DESIGN CHOICE, unsafe, log entry 59. -/
def State.answerProbe (s : State) (p : PortSide) (src : Nat) : State :=
  let id := beBytes 8 Config.deviceId.toNat
  if s.ring.member then s.control 2 src false id
  else
    let q := s.newFrame .control 2 src false id
    q.2.emit p { q.1 with hops := 15 }

/-- PROBE (R339, R346). -/
def execProbe (p : PortSide) (f : RingFrame) (s : State) : Out :=
  .next (s.receive p f (isCtl f 1) id fun s => s.answerProbe p f.src)

/-- The joiner enters the ring order between its two neighbours (R339). -/
def State.joined (s : State) (j : JoinRun) : State :=
  let r := s.ring
  let at' := match j.seg with
    | some (a, _) => r.order.idxOf a + 1
    | none => r.order.length
  let order := r.order.take at' ++ [j.node] ++ r.order.drop at'
  let s1 := (s.setRing { r with order := order, down := r.down.filter (fun q => some q ≠ j.seg), join := none }).sendTopo
  (s1.checkStandby r.order.length).membership 0 j.node j.device

/-- PROBE_REPLY: a joiner's answer, or the round trip that gives a link's latency (R339, R342). -/
def execProbeReply (p : PortSide) (f : RingFrame) (roundTrip : Nat) (s : State) : Out :=
  .next (s.receive p f (isCtl f 2) id fun s => match s.ring.join with
    | some j =>
      if j.probed && j.node == f.src && field f.payload 0 8 == j.device then s.joined j
      else s.setPortOf p { s.portOf p with latency := roundTrip / 2 }
    | none => s.setPortOf p { s.portOf p with latency := roundTrip / 2 })

/-- JOIN: the joiner hears its device ID (R339). -/
def execJoin (p : PortSide) (f : RingFrame) (s : State) : Out :=
  .next (s.receive p f (isCtl f 3) id fun s =>
    if s.ring.member || s.onRing || field f.payload 0 8 != Config.deviceId.toNat then s
    else
      let node := field f.payload 8 1
      s.setRing { s.ring with node := node, manager := f.src, joining := some (node, field f.payload 9 8) })

/-- LEAVE (R339, R340). -/
def execLeave (p : PortSide) (f : RingFrame) (s : State) : Out :=
  .next (s.receiveMsg p f 4 fun s m => match m with
    | .leave node => s.takeLeave node
    | _ => s)

/-- PROMOTED (R347, R356). -/
def execPromoted (p : PortSide) (f : RingFrame) (s : State) : Out :=
  .next (s.receiveMsg p f 5 fun s m => match m with
    | .promoted session node cell => s.takePromoted session node cell
    | _ => s)

/-- EPOCH (R353). -/
def execEpoch (p : PortSide) (f : RingFrame) (s : State) : Out :=
  .next (s.receiveMsg p f 6 fun s m => match m with
    | .epoch v t => if s.ring.epoch < v then s.setRing { s.ring with nextEpoch := some (v, t) } else s
    | _ => s)

/-- ACTIVE (R338, R354, R356). -/
def execActive (p : PortSide) (f : RingFrame) (s : State) : Out :=
  .next (s.receiveMsg p f 7 fun s m => match m with
    | .active node epoch device => s.takeActive node epoch device
    | _ => s)

/-- A shadow learns the start frame of a resync and answers with its map; a target that does not run yet is held at once
(R349). -/
def State.takeResync (s : State) (c : CellId) (g : Nat) : State :=
  let x := s.cell c
  if x.sess.role ≠ .shadow then s
  else
    let m : Mirror := { s.mirrors[c] with phase := .idle, g := g, h := 0, record := none, toSend := [] }
    let hold : Mirror := { m with phase := .hold }
    let s1 := if x.sess.state = .admitted then
        let y := { x with sess := { x.sess with state := .running }, beam := { x.beam with held := true } }.raise .sessState
        ((s.setMirror c hold).onCell c fun _ => y).setMirrorState c 3
      else if x.beam.held then (s.setMirror c hold).setMirrorState c 3
      else (s.setMirror c m).setMirrorState c 2
    s1.tellState x.sess.partNode (.pages x.sess.partCell m.pages)

/-- RESYNC (R349). -/
def execResync (p : PortSide) (f : RingFrame) (s : State) : Out :=
  .next (s.receiveMsg p f 8 fun s m => match m with
    | .resync session g => (s.cellsOf session).foldl (fun s c => s.takeResync c g) s
    | _ => s)

/-- The end frame of a copy, at the shadow; that the shadow is in step, at the primary: a migration is then ready for its
swap (R349, R351). -/
def State.takeSwitch (s : State) (c : CellId) (h : Nat) : State :=
  let x := s.cell c
  let m := s.mirrors[c]
  if x.sess.copies = false then s.setMirror c { m with h := h }
  else if m.phase ≠ .switchP ∨ m.h ≠ h then s
  else
    let s1 := (s.setMirror c { m with phase := .idle }).setMirrorState c 1
    if x.sess.state = .migrating then s1.order x.sessionId .swap else s1

/-- SWITCH (R333, R349, R351). -/
def execSwitch (p : PortSide) (f : RingFrame) (s : State) : Out :=
  .next (s.receiveMsg p f 9 fun s m => match m with
    | .switch session h => (s.cellsOf session).foldl (fun s c => s.takeSwitch c h) s
    | _ => s)

/-- STAMP (R143, R253, R324, R351, R444). -/
def execStamp (p : PortSide) (f : RingFrame) (s : State) : Out :=
  .next (s.receiveMsg p f 10 fun s m => match m with
    | .stamp kind session node t => s.takeStamp kind session node t
    | _ => s)

/-- The partner's Keeper takes the keys when its ticket agrees, and answers (R398). DEDUCED, unsafe, log entry 65. -/
def State.takeKeys (s : State) (c : CellId) (src : Nat) (p : Bytes) : State :=
  let x := s.cell c
  let dig := pairDigest x.sess.ticket
  let key := ((s.keeper.pairs.find? fun q => q.1 = src).map fun q => q.2.1).getD []
  if s.keeper.restarting || x.sess.role != .shadow || x.sess.partNode != src || slice p 8 32 != dig then s
  else match Config.gcmOpen key (slice p 40 12) [] (slice p 52 88) with
    | none => s
    | some k =>
      let n := if x.desc 127 1 = 0 then 16 else 32
      (s.setKeys c ⟨fitBytes n k, fitBytes 12 (k.drop 32), fitBytes 16 (k.drop 44), fitBytes 12 (k.drop 60), []⟩).control 11
        src false (p.take 40)

/-- The answer of the partner's Keeper: the session is admitted (R320, R398). DEDUCED, unsafe, log entry 65. -/
def State.keysTaken (s : State) (c : CellId) (p : Bytes) : State :=
  let x := s.cell c
  if (s.mirrors[c]).keyx = false ∨ slice p 8 32 ≠ pairDigest x.sess.ticket then s
  else
    let s1 := s.setMirror c { s.mirrors[c] with keyx := false }
    if x.sess.state = .loading then
      s1.onCell c fun x => { x with sess := { x.sess with state := .admitted } }.raise .sessState
    else s1

/-- KEYX (R398). -/
def execKeyx (p : PortSide) (f : RingFrame) (s : State) : Out :=
  .next (s.receive p f (isCtl f 11) id fun s => (s.cellsOf (field f.payload 0 8)).foldl (fun s c =>
    if f.payload.length = 140 then s.takeKeys c f.src f.payload
    else if f.payload.length = 40 then s.keysTaken c f.payload else s) s)

/-- KEYX_TIMEOUT: no answer within 10 ms (R398). DEDUCED, unsafe, log entry 65. -/
def execKeyxTimeout (c : CellId) (s : State) : Out :=
  let x := s.cell c
  if (s.mirrors[c]).keyx = false then .next s
  else
    let s1 := s.setMirror c { s.mirrors[c] with keyx := false }
    .next (if x.sess.state = .loading then s1.refusePair c 0x36 0
      else if x.sess.state = .migrating then s1.partnerRefused c (s.copyTarget c).1 0x36 0
      else if x.sess.pending.any (fun q => q.1 = .migrate) then s1.commandRefused c 0x36 0
      else (s1.setMirrorState c 0).noteRefusal c 0x36 0)

/-- ROLE (R341, R356). -/
def execRole (p : PortSide) (f : RingFrame) (s : State) : Out :=
  .next (s.receiveMsg p f 12 fun s m => match m with
    | .role node role => s.takeRole f.src node role
    | _ => s)

/-! ## Ports (R331, R343) -/

/-- PORT_UP. -/
def execPortUp (p : PortSide) (s : State) : Out := .next (if s.power.phase = .running then s.portUp p else s)

/-- PORT_DOWN. -/
def execPortDown (p : PortSide) (rdi : Bool) (s : State) : Out := .next (if s.power.phase = .running then s.portDown p rdi else s)

/-! ## Slots and beacons (R336, R344 to R347, R354) -/

/-- Does the node's slot of a superframe begin at `t`? DESIGN CHOICE, safe, log entry 1. -/
def State.slotAt (s : State) (t : Nat) : Bool :=
  let n := s.ring.order.length
  let pos := (s.ring.order.idxOf s.ring.node + n - s.ring.order.idxOf s.ring.manager) % n
  s.up && s.onRing && s.power.healthy && s.ring.member && t % 8000 == 500 * pos

/-- What the node starts in its slot. -/
def State.slot (s0 : State) (t : Nat) : State :=
  let s := s0.at t
  let s1 := s.ringSend .beacon 0 0 true (s.beaconBytes t)
  let s2 := s1.setRing { s1.ring with entries := s1.ring.entries.drop 23, div := 0 }
  if s2.isManager && t / 8000 % 2 == 0 then s2.ringSend .sync 0 0 true (s2.syncBytes t) else s2.sendCtl

/-- SUPERFRAME_SLOT. -/
def execSuperframeSlot (t : Nat) (s : State) : Out := .next (if s.slotAt t then s.slot t else s)

/-- PROBE goes to a node both ways round (R346). DESIGN CHOICE, unsafe, log entry 59. -/
def State.probeBoth (s : State) (node : Nat) : State :=
  let q := s.newFrame .control 1 node false []
  let e := s.ring.eastHops node
  (q.2.emit .east { q.1 with hops := e }).emit .west { q.1 with hops := s.ring.order.length - e }

/-- BEACON_MISSED: after two, or after one when the last carried WARN, the node is confirmed (R346, R357). -/
def execBeaconMissed (node : Fin 16) (s : State) : Out :=
  let r := s.ring
  let q := r.peer node.val
  if !s.up || !r.member || node.val == r.node || !(r.order.contains node.val) then .next s
  else
    let n := q.missed + 1
    let go := !q.confirming && (decide (2 ≤ n) || q.warn)
    let s1 := s.setRing (r.setPeer { q with missed := n, confirming := q.confirming || go, heard := q.heard && !go })
    .next (if go then s1.probeBoth node.val else s1)

/-- CONFIRMATION_END: shadows of a silent node are promoted, and the standby takes over from a silent manager (R346, R347,
R354). -/
def execConfirmationEnd (node : Fin 16) (s : State) : Out :=
  let q := s.ring.peer node.val
  if !s.up || !q.confirming then .next s
  else
    let s1 := s.setRing (s.ring.setPeer { q with confirming := false, missed := if q.heard then q.missed else 2, lost := !q.heard })
    if q.heard then .next s1
    else
      let s2 := (List.finRange 64).foldl (fun s c => if s.mayPromote c node.val then s.promote c else s) s1
      .next (if s2.ring.manager = node.val ∧ s2.ring.standby = s2.ring.node ∧ s2.isManager = false then s2.standbyActs else s2)

/-- HELD_UNIT_TIMEOUT: a held unit without an entry is a lost check (R345). -/
def execHeldUnitTimeout (c : CellId) (s : State) : Out :=
  let x := (s.cell c).dropKeepalives
  if !s.up || !x.running || x.sess.role != .shadow || x.str.queue.isEmpty then .next s
  else
    let s1 := (s.setCell c (x.discard 0)).bumpObj (cellObj c 0x11) 6
    let k := s1.mirrorState c
    .next (if k = 0 ∨ k = 5 then s1
      else (s1.setMirrorState c 2).tellState x.sess.partNode (.resyncAsk x.sess.partCell c.val))

/-- SYNC_LEASE_AGE_EXPIRY: the last SYNC with LEASE HELD is more than 20 µs old (R346). -/
def execSyncLeaseAgeExpiry (s : State) : Out := .next (s.setRing { s.ring with syncLease := false })

/-! ## Membership (R338 to R341, R359) -/

/-- MANAGER_LISTEN_EXPIRY: a manager that has heard no ring forms one (R338). -/
def execManagerListenExpiry (s : State) : Out :=
  let r := s.ring
  if !s.up || !s.power.uplink || !s.power.healthy || r.heardManager || r.node != 0xFF then .next s
  else
    let r1 := { r with node := 0, order := [0], manager := 0, east := { r.east with state := 1 }, west := { r.west with state := 1 } }
    .next (((s.setRing r1).setPins { s.pins with bypass := some true }).tell (.active 0 r.epoch Config.deviceId.toNat) none)

/-- JOIN_REQUEST: the manager names the lowest free node number and a house time 2 ms ahead (R339).
DESIGN CHOICE, unsafe, log entry 59. -/
def State.joinRequest (s : State) (device : Nat) : State :=
  match (List.range 15).find? fun k => !(s.ring.order.contains (k + 1)) with
  | none => s.membership 4 0xFF device
  | some k =>
    let s1 := s.setRing { s.ring with join := some ⟨device, k + 1, false, none, []⟩ }
    s1.control 3 0 true (beBytes 8 device ++ [BitVec.ofNat 8 (k + 1)] ++ beBytes 8 (s.house.time + 2000000))

/-- JOIN_REQUEST; joins run one at a time (R338). -/
def execJoinRequest (device : Nat) (s : State) : Out :=
  .next (if s.up && s.isManager && s.ring.join.isNone then s.joinRequest device else s)

/-- JOIN_TIME: the joiner drives BYPASS_N high at T (R337, R339). -/
def execJoinTime (s : State) : Out :=
  if !s.up || s.ring.joining.isNone || !s.power.healthy || s.onRing then .next s
  else
    let r := s.ring
    .next ((s.setRing { r with east := { r.east with state := 1 }, west := { r.west with state := 1 } }).setPins
      { s.pins with bypass := some true })

/-- PROBE_TIMEOUT: no PROBE_REPLY within 10 ms (R339). -/
def execProbeTimeout (s : State) : Out := match s.ring.join with
  | none => .next s
  | some j =>
    if !j.probed then .next s
    else .next (((s.setRing { s.ring with join := none }).tell (.leave j.node) none).membership 1 j.node j.device)

/-- JOIN_WAIT_TIMEOUT: a joiner that has not heard JOIN keeps BYPASS_N low (R339). -/
def execJoinWaitTimeout (s : State) : Out :=
  .next (if s.ring.joining.isNone then s.setRing { s.ring with wantsJoin := false } else s)

/-- The manager steers every route away from a node's two segments, then orders it to leave (R340). -/
def State.leaveRequest (s : State) (node : Nat) : State :=
  let at' := { s.ring with node := node }
  let segs := [at'.segment .east, at'.segment .west]
  let down := (s.ring.down ++ segs).eraseDups
  let s1 := ((s.setRing { s.ring with down := down }).sendTopo).tell (.leave node) none
  let s2 := if node = s.ring.node then s1.setRing { s1.ring with leaving := true } else s1.takeLeave node
  s2.membership 0 node 0

/-- LEAVE_REQUEST. -/
def execLeaveRequest (node : Nat) (s : State) : Out :=
  .next (if s.up && s.isManager && s.ring.order.contains node then s.leaveRequest node else s)

/-- STANDBY_COPY (R341). -/
def execStandbyCopy (s : State) : Out :=
  .next (if s.up && s.isManager && s.ring.standby != 0xFF then
      s.net.inputs.foldl (fun s i => s.tellState s.ring.standby (.standby i)) s
    else s)

/-! ## Leases and epochs (R352, R353, R360) -/

/-- LEASE_RENEW: refused without effect below the epoch in use, and on a device that is neither manager nor standby. -/
def execLeaseRenew (epoch : Nat) (s : State) : Out :=
  .next (if s.up && s.leaseServed && decide (s.ring.epoch ≤ epoch) then s.renew epoch else s)

/-- LEASE_LAPSE (R352). -/
def execLeaseLapse (s : State) : Out := .next (if s.ring.lease = 1 then s.lapse else s)

/-- STANDBY_GRANT_LAPSE (R352). -/
def execStandbyGrantLapse (s : State) : Out := .next (if s.ring.lease = 3 then s.lapse else s)

/-- EPOCH_APPLY: at a frame boundary of the session (R353). -/
def execEpochApply (c : CellId) (s : State) : Out :=
  let x := s.cell c
  .next (if s.up && x.running && x.beam.started == 0 && x.str.epoch != s.ring.epoch then
      s.setCell c { x with str := { x.str with epoch := s.ring.epoch } }
    else s)

/-! ## Mirrors (R349 to R351, R361) -/

/-- RESYNC_REQUEST: on the primary, or from the shadow's record through its partner. -/
def State.requestResync (s : State) (c : CellId) : State :=
  let x := s.cell c
  if s.mirrorState c = 0 ∨ x.running = false then s
  else if x.sess.role = .primary then s.mirrorDiverged c
  else s.tellState x.sess.partNode (.resyncAsk x.sess.partCell c.val)

/-- RESYNC_REQUEST. -/
def execResyncRequest (c : CellId) (s : State) : Out := .next (if s.up then s.requestResync c else s)

/-- The checks of R320 on a new partner of a running session: what the tickets must share before a START.
DEDUCED, safe, log entry 83. -/
def newPartnerFault (order : List Nat) (own node : Nat) (ticket : Bytes) (v : RingView) : Option AdmitFault :=
  if node = own ∨ order.contains node = false ∨ v.partnerCode ≠ 0 then some (0x30, v.partnerCode)
  else if 100000 < v.pairDiff then some (0x31, v.pairDiff / 1000)
  else if slice v.partnerTicket 14 122 ≠ slice ticket 14 122 then some (0x32, 0)
  else if 160000 < v.segmentUsed + 1 then some (0x33, v.segmentNo)
  else none

/-- A PLAIN session takes a new shadow: keys before the resync (R361, R399). DEDUCED, safe, log entry 83. -/
def State.newPartner (s : State) (c : CellId) (node cell : Nat) (v : RingView) : State :=
  let x := s.cell c
  match newPartnerFault s.ring.order s.ring.node node x.sess.ticket v with
  | some f => s.noteRefusal c f.1 f.2
  | none =>
    let s1 := s.setCell c { x with sess := { x.sess with partNode := node, partCell := cell } }
    let s2 := s1.setObj (cellObj c 0x11) 2 (node % 256 * 256 + cell % 256)
    let s3 := ((s2.tellState node (.descriptor cell c.val x.sess.desc)).forwardImage node cell x.sess.image.data).sendKeyx c node
    if s3.fullOn c then s3.setMirrorState c 5 else (s3.setMirrorState c 2).startResync c

/-- MIRROR_NEW_PARTNER (R361). DEDUCED, safe, log entry 83. -/
def execMirrorNewPartner (c : CellId) (node : Nat) (cell : Nat) (v : RingView) (s : State) : Out :=
  let x := s.cell c
  .next (if s.up && x.sess.state == .running && x.sess.role == .primary && s.mirrorState c == 0 then s.newPartner c node cell v
    else s)

/-- BOUNDARY_RECORD_APPLIED: the shadow goes on from frame H, late by its slip (R349, R350). -/
def execBoundaryRecordApplied (c : CellId) (rec : Bytes) (slip : Nat) (s : State) : Out :=
  let x := s.cell c
  let m := s.mirrors[c]
  let due := s.up && x.sess.role == .shadow && x.beam.held && m.phase == .hold && m.record.any fun q => q.2 == rec
  if !due then .next s
  else match Config.boundaryCell rec with
    | none => .next s
    | some r =>
      let s1 := s.setCell c (x.applyRecord r)
      let s2 := s1.setMirror c { m with phase := .slip, record := none }
      let s3 := (s2.setObj (cellObj c 0x11) 7 (m.g % 2 ^ 32 * 2 ^ 32 + m.h % 2 ^ 32)).setObj (cellObj c 0x11) 3 slip
      .next (if slip = 0 then s3.inStep c else s3.setMirrorState c 4)

/-- The target of a migration at W: what it has held back goes, its egress opens in the source's role (R326, R351). -/
def Cell.swapIn (c : Cell) (role : Nat) (node partner : Nat) : Cell :=
  let c1 := c.str.queue.foldl (fun c _ => c.discard 0) c
  let c2 := { c1 with
    sess := { c1.sess with role := if role % 4 = 2 then .shadow else .primary, partNode := node, partCell := partner }
    str := { c1.str with egress := decide (role % 4 ≠ 2) } }
  (c2.composeNext.nextFrame).raise .sessState

/-- The swap on the target's device. -/
def State.swapIn (s : State) (c : CellId) : State :=
  let m := s.mirrors[c]
  let k := m.takes.getD (1, 0, 0)
  let pair := decide (4 ≤ k.1)
  let s1 := (s.onCell c fun x => x.swapIn k.1 k.2.1 k.2.2).setMirror c { Mirror.reset with pages := m.pages }
  let s2 := (s1.setObj (cellObj c 0x11) 2 (k.2.1 % 256 * 256 + k.2.2 % 256)).setMirrorState c (if pair then 1 else 0)
  let s3 := s2.setMeter c ((s2.meters[c]).mark 0 16)
  if pair then s3.tellState k.2.1 (.pair k.2.2 c.val) else s3

/-- MIGRATION_SWAP: at boundary W the source ends and the target goes on (R326, R351). -/
def execMigrationSwap (c : CellId) (s : State) : Out :=
  let x := s.cell c
  match (s.mirrors[c]).swap with
  | none => .next s
  | some t =>
    if !s.atBoundary c then .next s
    else if x.sess.state = .migrating then
      let s1 := (s.at t).setMeter c ((s.meters[c]).mark 0 16)
      .next (s1.endNow c 3)
    else if x.sess.role = .shadow then .next ((s.at t).swapIn c)
    else .next s

/-- MIGRATION_TIMEOUT: the target has not reached IN_STEP within 10 s; the source runs on, the target ends (R351). -/
def execMigrationTimeout (c : CellId) (s : State) : Out :=
  let x := s.cell c
  if !s.up || x.sess.state != .migrating || s.mirrorState c == 1 then .next s
  else
    let goal := s.copyTarget c
    let s1 := s.tellState goal.1 (.refuse goal.2 0x36 0)
    let s2 := (s1.setMirror c { Mirror.reset with pages := (s.mirrors[c]).pages }).onCell c fun x =>
      { x with sess := { x.sess with state := .running } }.raise .sessState
    .next (if (s.mirrors[c]).takes.any fun k => decide (4 ≤ k.1) then s2.startResync c else s2.setMirrorState c 0)

end Sys2Proof.Machine
end

