-- ==== Sys2Proof/Machine/DictWrite.lean ====
section
/-! DEFINITION. What a write of a subindex does (R71, R143, R159, R312, R324, R339 to R341, R359 to R365, R377, R378, R384,
R410, R418, R419, R428, R436, R440, R444, R461, R467 to R471). -/

namespace Sys2Proof.Machine

/-! ## Error codes (R378); 0 stands for none -/

def errNoObject : Nat := 0x01
def errNoSub : Nat := 0x02
def errNoRead : Nat := 0x03
def errNoWrite : Nat := 0x04
def errRole : Nat := 0x05
def errTypeLen : Nat := 0x06
def errRange : Nat := 0x07
def errBusy : Nat := 0x09
def errSeq : Nat := 0x0A
def errTimeout : Nat := 0x0B
def errNode : Nat := 0x0C
def errTooLong : Nat := 0x0D
def errAborted : Nat := 0x0E
def errHold : Nat := 0x10

/-- A write's result: its error code and the detail bytes of an object that refused it. -/
abbrev Wrote := State × Nat × Bytes

def wrote (s : State) : Wrote := (s, 0, [])
def notWrote (s : State) (code : Nat) : Wrote := (s, code, [])

/-- Refused by the object, with its own code. -/
def refusedWith (s : State) (code : Nat) : Wrote := (s, errRefused, [BitVec.ofNat 8 code])

/-- The result of an operation that answers an error code itself. -/
def asWrote (q : State × Nat) : Wrote := (q.1, q.2, [])

/-! ## Device configuration -/

/-- Family and house-frame source (R71, R384). -/
def State.writeTiming (s : State) (sub v : Nat) : Wrote :=
  if s.obj 0x2000 sub = v then wrote s
  else if (List.finRange 64).any (fun c => (s.cell c).sess.state != .free) then notWrote s errState
  else wrote (s.setObj 0x2000 sub v).acquire

/-- House time: the start of the free-running source, which no PTP or PPS_IN may be in the place of (R65, R384).
DEDUCED, unsafe, log entry 85. -/
def State.writeHouseTime (s : State) (v : Nat) : Wrote :=
  if s.timeSource < 2 then notWrote s errState
  else wrote (if s.timeSource = 2 then s.setHouse { s.house with time := v } else s)

/-- PTP is enabled or disabled. -/
def State.writePtp (s : State) (v : Nat) : Wrote :=
  let s1 := (s.setObj 0x2001 1 v).setObj 0x2001 7 (if v = 0 then 0 else if s.obj 0x2001 1 = 0 then 1 else s.obj 0x2001 7)
  wrote (if v = 0 then s1.setHouse { s1.house with ptp := false } else s1)

/-- An at-reset subindex: the value is stored, and read, and takes effect at the next reset (R365). -/
def State.writeStored (s : State) (idx sub v : Nat) : State :=
  let k := objKey idx sub
  let s1 := s.setObj idx sub v
  s1.setPower { s1.power with stored := (s1.power.stored.filter fun q => q.1 ≠ k) ++ [(k, v)] }

/-- Identity, communication and device-configuration objects. -/
def State.writeDevice (s : State) (idx sub v : Nat) : Wrote :=
  if atReset idx sub then wrote (s.writeStored idx sub v)
  else match idx, sub with
  | 0x2000, 1 => s.writeTiming 1 v
  | 0x2000, 2 => s.writeTiming 2 v
  | 0x2000, 5 => s.writeHouseTime v
  | 0x2000, 6 => wrote (s.setHouse { s.house with ppsNext := some v })
  | 0x2001, 1 => s.writePtp v
  | 0x2030, 2 =>
    if v = 1 then (let q := s.requestParked; if q.2 then wrote q.1 else notWrote s errState)
    else wrote (s.requestPower .idle)
  | 0x2030, 4 => if v = 0x52534554 then wrote s else notWrote s errRange
  | idx, sub =>
    let cls := objClass idx
    if cls.1 = 0x2100 ∧ sub = 1 then wrote (s.gpioFunction ⟨cls.2 % 40, by omega⟩ v) else wrote (s.setObj idx sub v)

/-! ## Cells -/

/-- The command that a code orders (R312). -/
def sessCmdOf (v : Nat) : Option SessCmd := match v with
  | 1 => some .start
  | 2 => some .park
  | 3 => some .resume
  | 4 => some .endIt
  | 5 => some .migrate
  | _ => none

/-- Settings of the pending overlay set reach the partner of a mirrored session too (R143). -/
def State.writePending (s : State) (c : CellId) (o sub v : Nat) : State :=
  let s1 := s.setObj (cellObj c o) sub v
  if s1.mirrorState c = 0 then s1
  else s1.tellState (s1.cell c).sess.partNode (.object (s1.cell c).sess.partCell o sub v)

/-- Per-cell objects. DESIGN CHOICE, unsafe, log entry 82. -/
def State.writeCell (s : State) (cls : Nat) (c : CellId) (sub v : Nat) : Wrote :=
  let x := (s.cell c).sess
  match cls, sub with
  | 0x3010, 3 => match sessCmdOf v with
    | some k => if s.up then wrote (s.command c k none) else notWrote s errState
    | none => notWrote s errRange
  | 0x3010, 4 => wrote (s.setObj (cellObj c 0x10) 4 v)
  | 0x3011, 8 =>
    if x.state = .running ∧ x.role = .primary ∧ s.mirrorState c = 0 then wrote (s.setObj (cellObj c 0x11) 8 v)
    else notWrote s errState
  | 0x3011, 9 => if s.mirrorState c = 0 then notWrote s errState else wrote (s.requestResync c)
  | 0x301A, sub => wrote (s.setObj (cellObj c 0x1A) sub v)
  | 0x301C, 9 =>
    if !s.admittedIn c then notWrote s errState
    else if !s.overlayFits c then notWrote s errRange
    else wrote (s.overlaySubmit c)
  | 0x301C, sub => wrote (s.writePending c 0x1C sub v)
  | 0x301D, sub => wrote (s.writePending c 0x1D sub v)
  | 0x301E, 0x0E => if s.admittedIn c then wrote (s.askIdr c) else notWrote s errState
  | _, _ => notWrote s errNoWrite

/-! ## Keeper, ring, debug and update -/

/-- The nonce of a client's quotes (R400). -/
def State.setNonce (s : State) (who : Client) (nonce : Bytes) : State :=
  s.setDict { s.dict with nonces := (s.dict.nonces.filter fun q => q.1 ≠ who.key) ++ [(who.key, nonce)] }

/-- Designated standby (R341, R359): none, or a node opposite this active manager. -/
def State.writeStandby (s : State) (node : Nat) : Wrote :=
  let r := s.ring
  if !s.isManager then notWrote s errRole
  else if node = 0xFF then
    let s1 := if r.standby = 0xFF then s else s.tell (.role r.standby 0) none
    wrote (((s1.setRing { s1.ring with standby := 0xFF }).setObj 0x6001 4 0xFF).setObj 0x6001 5 0)
  else if node = r.node ∨ r.opposite node = false then refusedWith (s.setObj 0x6001 5 3) 3
  else
    let s1 := ((s.setObj 0x6001 4 node).setObj 0x6001 5 0).setRing { r with standby := node }
    wrote (s1.tell (.role node 2) none)

/-- Membership (R339 to R341, R359). -/
def State.writeMembership (s : State) (sub v : Nat) : Wrote := match sub with
  | 1 => wrote (s.setObj 0x6001 1 v)
  | 2 =>
    if !s.isManager then notWrote s errRole
    else if s.ring.join.isSome then notWrote s errState else wrote (s.joinRequest v)
  | 3 =>
    if !s.isManager then notWrote s errRole
    else if s.ring.order.contains v then wrote (s.leaveRequest v) else notWrote s errRange
  | _ => s.writeStandby v

/-- A lease renewal (R360); `applied` says that Keeper has applied it already. -/
def State.writeLease (s : State) (v : Nat) (applied : Bool) : Wrote :=
  if !s.leaseServed then notWrote s errRole
  else if v < s.ring.epoch then notWrote s errRange
  else wrote (if applied then s else s.renew v)

/-- The other objects. -/
def State.writeOther (s : State) (who : Client) (idx sub : Nat) (value : Bytes) (flags : Nat) : Wrote :=
  let cls := objClass idx
  let c := toCell cls.2
  let v := beNat value
  match cls.1, sub with
  | 0x4100, 3 => wrote (s.setObj 0x4100 3 v)
  | 0x4100, 5 => wrote (s.meterAck v)
  | 0x5000, 5 => wrote s.keeperRestart
  | 0x5020, 1 => wrote (s.setNonce who value)
  | 0x6001, sub => s.writeMembership sub v
  | 0x6010, 1 => s.writeLease v (bit flags 7)
  | 0x7000, 1 => wrote (s.setLevel c v)
  | 0x7000, 2 => wrote (s.tunnel who c value)
  | 0x7040, 3 => wrote (s.traceRemove c v)
  | 0x7080, 2 => wrote s.portRelock
  | 0x8001, 8 => asWrote (s.activate (kindOf cls.2))
  | 0x8001, 9 => asWrote (s.commit (kindOf cls.2))
  | _, _ => notWrote s errNoWrite

/-! ## DOMAINs -/

/-- A descriptor: refused with the code that the session object records (R312, R313).
DESIGN CHOICE, unsafe, log entry 82. -/
def State.writeDescriptor (s : State) (c : CellId) (bs : Bytes) : Wrote :=
  if !s.up then notWrote s errState
  else
    let t := s.descriptorWritten c bs
    if ((s.cell c).sess.state = .free ∧ (t.cell c).sess.state ≠ .free) ∨
        s.power.waitDesc.length < t.power.waitDesc.length then wrote t
    else refusedWith t (t.obj (cellObj c 0x10) 7 / 2 ^ 24)

/-- Is a cell ready for the image of its descriptor: LOADING, not a shadow, the image not complete (R307, R320)? -/
def State.imageWanted (s : State) (c : CellId) : Bool :=
  let x := (s.cell c).sess
  x.state == .loading && x.role != .shadow && !x.image.complete

/-- A buffer of the overlay store: neither shown nor staged, and no larger than admitted (R142, R143, R159).
DEDUCED, unsafe, log entry 84. -/
def State.writeOverlay (s : State) (c : CellId) (b : Bool) (bs : Bytes) : Wrote :=
  let o := (s.cell c).pic.overlay
  let uses := fun q : OvSet => q.en && q.buf == b
  if uses o.active || o.staged.any uses then notWrote s errState
  else if 4 * o.maxW * o.maxH < bs.length then notWrote s errRange
  else
    let s1 := s.onCell c fun x => { x with mem :=
      if b then { x.mem with ovB := x.mem.ovB.writeBytes 0 bs } else { x.mem with ovA := x.mem.ovA.writeBytes 0 bs } }
    let x := (s1.cell c).sess
    wrote (if s1.mirrorState c = 0 then s1 else s1.tellState x.partNode (.write x.partCell (if b then 5 else 4) 0 bs))

/-- A download begins: update images have a state of their own, which the first segment finds. -/
def State.beginUpdate (s : State) : State := s.setKeeper { s.keeper with download := some ⟨[], 0, 0, []⟩ }

/-- A DOMAIN written as a whole. -/
def State.writeDomain (s : State) (idx sub : Nat) (bs : Bytes) : Wrote :=
  let cls := objClass idx
  let c := toCell cls.2
  match cls.1, sub with
  | 0x3010, 1 => s.writeDescriptor c bs
  | 0x3010, 2 => if s.imageWanted c then refusedWith (s.refusePair c 0x04 bs.length) 0x04 else notWrote s errState
  | 0x301C, 7 => s.writeOverlay c false bs
  | 0x301C, 8 => s.writeOverlay c true bs
  | 0x5000, 3 => asWrote (s.bindRoot bs)
  | 0x5000, 6 => asWrote (s.lifecycleOrder bs)
  | 0x5001, 1 => asWrote (s.register bs)
  | 0x5001, 2 => asWrote (s.revoke bs)
  | 0x5002, 1 => asWrote (s.takeConsent bs)
  | 0x8000, 1 => match s.beginUpdate.feedUpdate bs.length bs with
    | (t, .fail code _) => refusedWith t code
    | (t, _) => wrote t
  | _, _ => notWrote s errNoWrite

/-- A write of a subindex whose rights have been checked (R362). -/
def State.dictWrite (s : State) (who : Client) (idx sub : Nat) (value : Bytes) (flags : Nat) : Wrote :=
  match objDesc idx sub with
  | none => notWrote s errNoSub
  | some d =>
    if d.typ = .domain then s.writeDomain idx sub value
    else if value.length ≠ d.size then notWrote s errTypeLen
    else match objAccept idx sub value with
      | none => notWrote s errRange
      | some v =>
        let cls := objClass idx
        if idx < 0x3000 then s.writeDevice idx sub v
        else if idx < 0x4000 then s.writeCell cls.1 (toCell cls.2) sub v
        else s.writeOther who idx sub value flags

end Sys2Proof.Machine
end

