-- ==== Sys2Proof/Machine/DictOps.lean ====
section
/-! DEFINITION. Dictionary messages: rights, replies, transfers, carrying to other nodes, and the order in which messages are
served (R362 to R378). -/

namespace Sys2Proof.Machine

/-! ## Rights (R363, R366, R390, R440, R455) -/

/-- The bit of a role in a subindex's rights. -/
def roleMask (role : Nat) : Nat := if role = 1 then 1 else if role = 2 then 2 else 4

def ObjDesc.readable (d : ObjDesc) (role : Nat) : Bool :=
  d.read &&& roleMask role != 0 || (role == 3 && d.read &&& 1 != 0)

def ObjDesc.writable (d : ObjDesc) (role : Nat) : Bool := d.write &&& roleMask role != 0

/-- The cell that an index belongs to, if it is a per-cell object. -/
def cellOfIndex (idx : Nat) : Option CellId :=
  let cls := objClass idx
  if (0x3000 ≤ idx ∧ idx < 0x3800) ∨ cls.1 = 0x4000 ∨ cls.1 = 0x5100 ∨ cls.1 = 0x7000 ∨ cls.1 = 0x7040 then some (toCell cls.2)
  else none

/-- Does a tenant reach an object: those of its own cells, the trace buffer only while a debug level is set, and the
others where their tables name it? -/
def State.tenantReaches (s : State) (session idx : Nat) : Bool :=
  match cellOfIndex idx with
  | some c => (s.cell c).sess.state != .free && (s.cell c).sessionId == session &&
      ((objClass idx).1 != 0x7040 || (s.dbg[c]).level != 0)
  | none => objTable.any fun d => d.cls == idx && (d.read &&& 2 != 0 || d.write &&& 2 != 0)

/-- May objects at an index be reached in the lifecycle state, or in recovery? -/
def State.served (s : State) (idx : Nat) : Bool :=
  if s.power.phase = .recovery then idx == 0x1000 || idx == 0x8000 || idx == 0x8001
  else s.keeper.lifecycle == 2 || decide (idx < 0x1100) || (decide (0x5000 ≤ idx) && decide (idx < 0x6000)) ||
    (decide (0x8000 ≤ idx) && decide (idx < 0x9000))

/-- The error of an access before the object itself is asked: 0 none. -/
def State.accessError (s : State) (who : Client) (idx sub : Nat) (wr : Bool) : Nat :=
  if !objExists idx || !s.served idx || (who.role == 2 && !s.tenantReaches who.session idx) then errNoObject
  else match objDesc idx sub with
    | none => errNoSub
    | some d =>
      if wr then (if d.writable who.role then 0 else errNoWrite)
      else if d.readable who.role then 0 else errNoRead

/-! ## Replies (R373 to R375) -/

/-- Answer a request with its one reply, which is kept. -/
def State.reply (s : State) (who : Client) (m : DictMsg) (mtype aux : Nat) (data : Bytes) : State :=
  s.answer who true { m with mtype := mtype, flags := 0, aux := aux, data := data }

def State.replyError (s : State) (who : Client) (m : DictMsg) (code : Nat) (detail : Bytes) : State :=
  s.reply who m 5 code detail

/-- A message that is not the one reply of a request. DESIGN CHOICE, unsafe, log entry 86. -/
def State.say (s : State) (who : Client) (m : DictMsg) (mtype flags aux : Nat) (data : Bytes) : State :=
  s.answer who false { m with mtype := mtype, flags := flags, aux := aux, data := data }

/-- The result of a write: WRITE_RSP or ERROR. -/
def State.replyWrote (s : State) (who : Client) (m : DictMsg) (first : Bool) (code : Nat) (detail : Bytes) : State :=
  s.answer who first { m with
    mtype := if code = 0 then 4 else 5, flags := 0, aux := code, data := if code = 0 then [] else detail }

/-! ## READ and WRITE -/

/-- Is a download to a subindex in progress? -/
def State.downloading (s : State) (idx sub : Nat) : Bool :=
  s.dict.xfers.any fun x => x.down && x.index == idx && x.sub == sub

/-- The value that a read returns, or an error; every read takes one free value of time and pad levels. -/
def State.readValue (s : State) (who : Client) (idx sub : Nat) : Nat ⊕ Bytes :=
  match objDesc idx sub with
  | none => .inl errNoSub
  | some d =>
    if d.typ = .domain then
      match s.domainValue who idx sub with
      | none => .inl errRange
      | some bs => .inr bs
    else .inr (beBytes d.size (s.objValue who idx sub))

/-- READ. -/
def State.serveRead (s0 : State) (who : Client) (m : DictMsg) : State :=
  let e := s0.accessError who m.index m.sub false
  let s := s0.draw.2
  if e ≠ 0 then s.replyError who m e []
  else if s.downloading m.index m.sub then s.replyError who m errBusy []
  else match s0.readValue who m.index m.sub with
    | .inl e => s.replyError who m e []
    | .inr bs => if 1024 < bs.length then s.replyError who m errTooLong [] else s.reply who m 3 0 bs

/-- What follows the WRITE_RSP of an order: HOLD for a command that waits out a brown-out, or the device reset (R324, R378,
R461). -/
def State.afterWrite (s : State) (who : Client) (m : DictMsg) : State :=
  if m.index = 0x2030 ∧ m.sub = 4 then s.deviceReset 6
  else match sessionCell m.index with
    | some c =>
      let v := beNat m.data
      if m.sub = 3 ∧ (v = 1 ∨ v = 3 ∨ v = 5) ∧ s.power.hold = true ∧ s.obj (cellObj c 0x10) 8 = 0 then
        s.say who m 5 0 errHold []
      else s
    | none => s

/-- WRITE. -/
def State.serveWrite (s : State) (who : Client) (m : DictMsg) : State :=
  let e := s.accessError who m.index m.sub true
  if e ≠ 0 then s.replyError who m e []
  else if s.downloading m.index m.sub then s.replyError who m errBusy []
  else
    let r := s.dictWrite who m.index m.sub m.data m.flags
    let s1 := r.1.replyWrote who m true r.2.1 r.2.2
    if r.2.1 = 0 then s1.afterWrite who m else s1

/-! ## Transfers (R377) -/

/-- Is a transfer the one that a message belongs to? -/
def Xfer.isOf (x : Xfer) (who : Client) (m : DictMsg) : Bool :=
  x.client.key == who.key && x.tid == m.tid && x.index == m.index && x.sub == m.sub

def State.xferOf (s : State) (who : Client) (m : DictMsg) : Option Xfer := s.dict.xfers.find? fun x => x.isOf who m

def State.dropXfer (s : State) (x : Xfer) : State :=
  s.setDict { s.dict with xfers := s.dict.xfers.filter fun y => y != x }

def State.putXfer (s : State) (old new : Xfer) : State :=
  s.setDict { s.dict with xfers := s.dict.xfers.map fun y => if y = old then new else y }

/-- A message of a transfer. -/
def Xfer.msg (x : Xfer) : DictMsg := ⟨0, 0xFF, x.tid, x.index, x.sub, 0, 0, []⟩

/-- End a transfer with SEG_ABORT from this side. -/
def State.giveUp (s : State) (x : Xfer) (code : Nat) : State :=
  (s.abortXfer x).say x.client x.msg 0x0A 0 code []

/-- The last segment has been taken: the object gets the value. -/
def State.finishXfer (s0 : State) (x : Xfer) : State :=
  let s := s0.dropXfer x
  let done := fun (t : State) => t.replyWrote x.client x.msg false 0 []
  match sessionCell x.index with
  | some c =>
    if x.sub = 2 then
      let q := (s.cell c).imageEnd
      match q.2 with
      | none => done (s.setCell c q.1)
      | some f => (s.refusePair c f.1 f.2).replyWrote x.client x.msg false errRefused [BitVec.ofNat 8 f.1]
    else
      let r := s.writeDomain x.index x.sub x.data
      r.1.replyWrote x.client x.msg false r.2.1 r.2.2
  | none =>
    if x.index = 0x8000 then done s
    else
      let r := s.writeDomain x.index x.sub x.data
      r.1.replyWrote x.client x.msg false r.2.1 r.2.2

/-- Is a download taken by its object as its segments arrive? -/
def Xfer.streams (x : Xfer) : Bool := x.index == 0x8000 || ((sessionCell x.index).isSome && x.sub == 2)

/-- SEG_INIT_DL. DESIGN CHOICE, unsafe, log entry 86. -/
def State.initDown (s : State) (who : Client) (m : DictMsg) : State :=
  let e := s.accessError who m.index m.sub true
  let domain := (objDesc m.index m.sub).any fun d => d.typ == .domain
  let ready := match sessionCell m.index with
    | some c => m.sub != 2 || s.imageWanted c
    | none => true
  if e ≠ 0 then s.replyError who m e []
  else if !domain then s.replyError who m errTypeLen []
  else if s.downloading m.index m.sub then s.replyError who m errBusy []
  else if !ready then s.replyError who m errState []
  else
    let x : Xfer := ⟨who, m.tid, m.index, m.sub, true, m.aux, 0, 0, 0, []⟩
    let s1 := if m.index = 0x8000 then s.beginUpdate else s
    let s2 := (s1.setDict { s1.dict with xfers := s1.dict.xfers ++ [x] }).reply who m 9 0 []
    if m.aux = 0 ∧ x.streams = false then s2.finishXfer x else s2

/-- Send segments of an upload while fewer than 32 lie beyond the last acknowledged offset, at most `fuel`. -/
def State.sendSegments (s : State) (x : Xfer) : Nat → State
  | 0 => s
  | fuel + 1 =>
    if x.total ≤ x.next ∨ x.acked + 32 * 1024 ≤ x.next then s
    else
      let part := slice x.data x.next 1024
      let y := { x with next := x.next + part.length }
      let s1 := (s.putXfer x y).say x.client x.msg 8 (b2n (y.next == x.total)) x.next part
      s1.sendSegments y fuel

/-- SEG_INIT_UL: the value is sampled now (R364). -/
def State.initUp (s0 : State) (who : Client) (m : DictMsg) : State :=
  let e := s0.accessError who m.index m.sub false
  let domain := (objDesc m.index m.sub).any fun d => d.typ == .domain
  let s := s0.draw.2
  if e ≠ 0 then s.replyError who m e []
  else if !domain then s.replyError who m errTypeLen []
  else if s.downloading m.index m.sub then s.replyError who m errBusy []
  else match s0.readValue who m.index m.sub with
    | .inl e => s.replyError who m e []
    | .inr bs =>
      let s1 := s.reply who m 9 bs.length []
      if bs = [] then s1
      else
        let x : Xfer := ⟨who, m.tid, m.index, m.sub, false, bs.length, 0, 0, 0, bs⟩
        (s1.setDict { s1.dict with xfers := s1.dict.xfers ++ [x] }).sendSegments x 32

/-- Acknowledge a download up to its next offset. -/
def State.ackXfer (s : State) (x : Xfer) : State := s.say x.client x.msg 9 0 x.next []

/-- A segment's bytes reach the object that takes them as they arrive: its own refusal code, if any (R307, R413). -/
def State.feedXfer (s : State) (x : Xfer) (bs : Bytes) : State × Option Nat :=
  if x.index = 0x8000 then
    match s.feedUpdate x.total bs with
    | (t, .fail code _) => (t, some code)
    | (t, _) => (t, none)
  else match sessionCell x.index with
    | none => (s, none)
    | some c =>
      if x.sub ≠ 2 then (s, none)
      else
        let y := (s.cell c).sess
        let q := s.feedImage c bs
        if q.2 then
          (if (s.cell c).mirrored then q.1.tellState y.partNode (.image y.partCell bs) else q.1, none)
        else (q.1, some (q.1.obj (cellObj c 0x10) 7 / 2 ^ 24))

/-- May the next segment of a download be taken now? One of an image waits while the ridge powers up (R443).
DEDUCED, unsafe, log entry 75. -/
def State.takesNow (s : State) (x : Xfer) : Bool := match sessionCell x.index with
  | some c => x.sub != 2 || s.ridgeReady c
  | none => true

/-- Has the object of an image download stopped waiting for it? DEDUCED, unsafe, log entry 87. -/
def State.imageGone (s : State) (x : Xfer) : Bool := match sessionCell x.index with
  | some c => x.sub == 2 && (s.cell c).sess.state != .loading
  | none => false

/-- The expected segment of a download. -/
def State.takeSegment (s : State) (x : Xfer) (m : DictMsg) : State :=
  let next := x.next + m.data.length
  let last := bit m.flags 0
  if x.total < next ∨ (last = true ∧ next ≠ x.total) ∨ (last = false ∧ next = x.total) then s.giveUp x errTypeLen
  else
    let r := s.feedXfer x m.data
    match r.2 with
    | some _ => (r.1.dropXfer x).say x.client x.msg 0x0A 0 errRefused []
    | none =>
      let full := x.unacked + 1 == 8 || last
      let y := { x with
        next := next, unacked := if full then 0 else x.unacked + 1
        data := if x.streams then x.data else x.data ++ m.data }
      let s1 := r.1.putXfer x y
      let s2 := if full then s1.ackXfer y else s1
      if last then s2.finishXfer y else s2

/-- SEG_DATA. DEDUCED, unsafe, log entry 87. -/
def State.segData (s : State) (who : Client) (m : DictMsg) : State := match s.xferOf who m with
  | none => s.say who m 5 0 errSeq []
  | some x =>
    if !x.down then s.say who m 5 0 errSeq []
    else if s.imageGone x then (s.dropXfer x).say who m 0x0A 0 errRefused []
    else if m.aux ≠ x.next ∨ m.data = [] ∨ s.takesNow x = false then s.ackXfer x
    else s.takeSegment x m

/-- SEG_ACK. -/
def State.segAck (s : State) (who : Client) (m : DictMsg) : State := match s.xferOf who m with
  | none => s.say who m 5 0 errSeq []
  | some x =>
    if x.down then s.say who m 5 0 errSeq []
    else if m.aux ≤ x.acked ∨ x.next < m.aux then s
    else if m.aux = x.total then s.dropXfer x
    else
      let y := { x with acked := m.aux }
      (s.putXfer x y).sendSegments y 32

/-- SEG_ABORT from the other side. -/
def State.segAbort (s : State) (who : Client) (m : DictMsg) : State := match s.xferOf who m with
  | none => s.say who m 5 0 errSeq []
  | some x => s.abortXfer x

/-! ## Notifications (R380) -/

/-- A notification of a channel is settled: acknowledged, or given up. -/
def State.settle (s : State) (id nseq : Nat) : State := match s.channel id with
  | none => s
  | some c => match c.sent.find? fun x => x.nseq = nseq with
    | none => s
    | some x =>
      let s1 := s.setChannel { c with sent := c.sent.filter fun y => y.nseq ≠ nseq }
      (s1.setDict { s1.dict with queues := s1.dict.queues.map fun q =>
        { q with notes := q.notes.map fun n => if n.num = x.note then { n with done := n.done ++ [id] } else n } }).settleNotes

/-- A queued notification by its number. -/
def State.noteOf (s : State) (num : Nat) : Option Note := s.dict.queues.findSome? fun q => q.notes.find? fun n => n.num = num

/-- A notification is not acknowledged in time: it is sent again, up to 10 times, and then given up. -/
def State.resendNote (s : State) (id nseq : Nat) : State := match s.channel id with
  | none => s
  | some c => match c.sent.find? fun x => x.nseq = nseq with
    | none => s
    | some x => match s.noteOf x.note with
      | none => s.settle id nseq
      | some n =>
        if 10 ≤ x.tries then s.settle id nseq
        else
          let sent := c.sent.map fun y => if y.nseq = nseq then { y with tries := y.tries + 1 } else y
          (s.setChannel { c with sent := sent }).sendMsg id
            ⟨0x10, s.ring.node % 256, 0, field n.data 2 2, field n.data 4 1, 0, nseq, n.data⟩

/-! ## Other nodes (R376) -/

/-- Is a message a request that one reply answers? -/
def isRequest (mtype : Nat) : Bool := mtype == 1 || mtype == 2 || mtype == 6 || mtype == 7

def Carried.isOf (k : Carried) (channel : Nat) (m : DictMsg) : Bool :=
  k.channel == channel && k.tid == m.tid && k.index == m.index && k.sub == m.sub

/-- Carry a client's message to the node that it names. -/
def State.carry (s : State) (who : Client) (m : DictMsg) : State :=
  let d := s.dict
  let rest := d.carried.filter fun k => !(k.isOf who.channel m)
  if !(s.ring.order.contains m.node) || who.node.isSome then
    (if isRequest m.mtype then s.replyError who m errNode [] else s.say who m 5 0 errNode [])
  else if isRequest m.mtype then
    let init := m.mtype == 6 || m.mtype == 7
    let s1 := s.setDict { d with
      forwards := d.forwards ++ [⟨who.channel, m.tid, m.node⟩]
      carried := if init then rest ++ [⟨who.channel, m.tid, m.node, m.index, m.sub⟩] else d.carried }
    let s2 := s1.carryTo m.node who m
    if m.mtype = 2 ∧ m.index = 0x2030 ∧ m.sub = 2 ∧ m.data = [2] ∧ s.isManager = true then s2.tell (.stamp .wake 0 m.node 0) none
    else s2
  else if d.carried.any fun k => k.isOf who.channel m && k.node == m.node then
    (if m.mtype = 0x0A then s.setDict { d with carried := rest } else s).carryTo m.node who m
  else s.say who m 5 0 errSeq []

/-- A reply or a segment message from another node goes on to the client it is for. -/
def State.relay (s : State) (who : Client) (src : Nat) (m : DictMsg) : State :=
  match s.dict.channels.find? fun c => c.isOpen && c.id % 65536 == who.channel with
  | none => s
  | some c =>
    let d := s.dict
    let fwd := d.forwards.any fun f => f.channel == c.id && f.tid == m.tid && f.node == src
    let seg := d.carried.any fun k => k.isOf c.id m && k.node == src
    let ends := m.mtype == 4 || m.mtype == 5 || m.mtype == 0x0A
    if !fwd && !seg then s
    else
      let s1 := s.setDict { d with
        forwards := d.forwards.filter fun f => !(f.channel == c.id && f.tid == m.tid && f.node == src)
        carried := if ends then d.carried.filter fun k => !(k.isOf c.id m && k.node == src) else d.carried }
      (if fwd then s1.setChannel (c.keepReply m) else s1).sendMsg c.id m

/-- Does a segment message from a node belong to a transfer that this device carries for its own client? -/
def State.carriesFrom (s : State) (chan16 src : Nat) (m : DictMsg) : Bool :=
  s.dict.carried.any fun k => k.channel % 65536 == chan16 && k.tid == m.tid && k.index == m.index && k.sub == m.sub && k.node == src

/-- Is a message from another node one for a client of this device? -/
def State.relays (s : State) (who : Client) (src : Nat) (m : DictMsg) : Bool :=
  m.mtype == 3 || m.mtype == 4 || m.mtype == 5 ||
    ((m.mtype == 8 || m.mtype == 9 || m.mtype == 0x0A) && s.carriesFrom who.channel src m)

/-! ## One message (R364, R373 to R376) -/

/-- A message for this device. -/
def State.serve (s : State) (who : Client) (m : DictMsg) : State := match m.mtype with
  | 1 => s.serveRead who m
  | 2 => s.serveWrite who m
  | 6 => s.initDown who m
  | 7 => s.initUp who m
  | 8 => s.segData who m
  | 9 => s.segAck who m
  | 0x0A => s.segAbort who m
  | 0x11 => if who.node.isNone then s.settle who.channel m.aux else s
  | _ => s

/-- The kept reply of a request of a channel. -/
def State.keptReply (s : State) (who : Client) (m : DictMsg) : Option DictMsg :=
  if !(isRequest m.mtype) || who.node.isSome then none
  else (s.channel who.channel).bind fun c => (c.replies.find? fun q => q.1 = m.tid).map Prod.snd

/-- Does a request wait for another node's reply already? -/
def State.forwarded (s : State) (who : Client) (m : DictMsg) : Bool :=
  isRequest m.mtype && who.node.isNone && s.dict.forwards.any fun f => f.channel == who.channel && f.tid == m.tid

/-- A client's message. -/
def State.request (s : State) (who : Client) (m : DictMsg) : State :=
  match s.keptReply who m with
  | some r => s.sendMsg who.channel r
  | none =>
    if s.forwarded who m then s
    else if 1024 < m.data.length then
      (if isRequest m.mtype then s.replyError who m errTooLong [] else s.say who m 5 0 errTooLong [])
    else if m.node ≠ 0xFF ∧ m.node ≠ s.ring.node ∧ m.mtype ≠ 0x11 then s.carry who m
    else s.serve who m

/-- A message by whatever route it came. -/
def State.deliver (s : State) (who : Client) (m : DictMsg) : State := match who.node with
  | none => s.request who m
  | some src =>
    if m.mtype = 0x10 then (if s.isManager then s.enqueueNote who.role who.session (field m.data 0 1) m.data else s)
    else if s.relays who src m then s.relay who src m
    else s.request who m

/-- Must a message wait: for Tender, or a quote for Keeper's firmware (R372, R416, R417)?
DESIGN CHOICE, unsafe, log entry 86. -/
def State.mustWait (s : State) (m : DictMsg) : Bool :=
  s.noTender || (s.keeper.restarting && (m.mtype == 1 || m.mtype == 7) && m.index == 0x5020 && m.sub == 2)

/-- Keeper applies a lease renewal that waits for Tender at once (R360): has it? -/
def State.renewAtOnce (s : State) (who : Client) (m : DictMsg) : State × Bool :=
  let v := beNat m.data
  if m.mtype = 2 ∧ m.index = 0x6010 ∧ m.sub = 1 ∧ m.data.length = 4 ∧ (m.node = 0xFF ∨ m.node = s.ring.node) ∧ who.role = 1 ∧
      (s.keptReply who m).isNone = true ∧ s.leaseServed = true ∧ s.ring.epoch ≤ v then (s.renew v, true)
  else (s, false)

/-- Take a message: serve it, or let it wait in order. -/
def State.message (s : State) (who : Client) (m0 : DictMsg) : State :=
  let m := { m0 with flags := m0.flags % 2 }
  if !s.mustWait m then s.deliver who m
  else
    let r := s.renewAtOnce who m
    r.1.setDict { r.1.dict with held := r.1.dict.held ++ [(who, { m with flags := m.flags + 0x80 * b2n r.2 })] }

/-- Messages that have waited are answered in order; a quote may have to wait on. -/
def State.serveHeld (s : State) : State :=
  if s.noTender then s
  else s.dict.held.foldl (fun s q =>
    if s.mustWait q.2 then s.setDict { s.dict with held := s.dict.held ++ [q] } else s.deliver q.1 q.2)
    (s.setDict { s.dict with held := [] })

end Sys2Proof.Machine
end

