-- ==== Sys2Proof/Machine/Dict.lean ====
section
/-! DEFINITION. The commands of the dictionary (14_object_dictionary.md), of Tender's mailbox and its handover, and the end of
a Keeper restart (R387, R416, R417). -/

namespace Sys2Proof.Machine

/-! ## Set-up of a channel (R367, R370, R371) -/

/-- Does the device serve channels at all: started, with an identity? -/
def State.channels (s : State) : Bool :=
  (s.serves || s.power.phase == .recovery) && (s.keeper.lifecycle == 1 || s.keeper.lifecycle == 2)

/-- May a role open a channel on a route? -/
def State.routeOpen (s : State) (service : Bool) (role : Nat) : Bool :=
  if service then role == 3 || (role == 1 && s.power.phase != .recovery)
  else s.up && s.leaseServed && (role == 1 || role == 2)

/-- Has the limit of open channels been reached for another one of a role? -/
def State.channelsFull (s : State) (role : Nat) : Bool :=
  let l := s.dict.channels.filter Channel.isOpen
  decide (16 ≤ l.length) || (role == 3 && l.any fun c => c.role == 3)

/-- A registered client key in force. -/
def State.clientKey (s : State) (keyid : Bytes) : Option RegKey :=
  s.keeper.registry.find? fun k => decide (k.keyid = keyid ∧ k.kind ≤ 3 ∧ s.house.time < k.notAfter)

/-- Is a HELLO acceptable (R371)? -/
def State.helloGood (s : State) (service : Bool) (h : Bytes) : Bool :=
  let role := field h 32 1
  let session := field h 36 8
  s.routeOpen service role &&
    if s.keeper.lifecycle = 1 then role == 3
    else match s.clientKey (slice h 44 32) with
      | none => false
      | some k => k.kind == role &&
          (role != 2 || (match s.sessionInfo session with
            | some i => i.admitted && field i.desc 12 8 == k.tenant
            | none => false))

/-- ACCEPT: the device's part of the handshake. -/
def State.accept (s : State) (service : Bool) (src : NetAddr) (h : Bytes) : State :=
  let id := s.dict.nextId
  let n := s.random 32
  let r := n.2.random 32
  let ek := slice h 76 1568
  let head := beBytes 4 id ++ n.1 ++ fitBytes 1568 (Config.kemCipher ek r.1) ++ beBytes 4 s.keeper.certs.length ++ s.keeper.certs
  let sig := fitBytes 4627 (Config.dsaSign s.keeper.seed (ctx "lyseo-dict-accept") false (fitBytes 64 (Config.sha3512 (h ++ head))))
  let c : Channel :=
    { id := id, service := service, addr := src, role := field h 32 1, session := field h 36 8, keyid := slice h 44 32
      isOpen := false, transcript := h ++ head ++ sig, secret := Config.kemSecret ek r.1, keys := [], txSeq := 0, rxHigh := 0
      rxSeen := [], replies := [], nseq := 0, sent := [] }
  (r.2.setDict { r.2.dict with channels := r.2.dict.channels ++ [c], nextId := id + 1 }).sendPlain service src 2 id (head ++ sig)

/-- HELLO: beyond the limit it receives no answer; a refused one is counted. -/
def execHello (service : Bool) (src : NetAddr) (body : Bytes) (s : State) : Out :=
  .next (if !s.channels || s.keeper.restarting || body.length != 1644 || s.channelsFull (field body 32 1) then s
    else if s.helloGood service body then s.accept service src body
    else s.bumpObj 0x1100 5)

/-- The client's public key that verifies a FINISH, and its signature (R370). -/
def State.finishKey (s : State) (c : Channel) (body : Bytes) : Option (Bytes × Bytes) :=
  if s.keeper.lifecycle = 1 then
    (if body.length = 7219 ∧ digest32 (body.take 2592) = c.keyid then some (body.take 2592, body.drop 2592) else none)
  else if body.length = 4627 then (s.clientKey c.keyid).map fun k => (k.key, body)
  else none

/-- Does a FINISH verify? -/
def State.finishGood (s : State) (c : Channel) (body : Bytes) : Bool := match s.finishKey c body with
  | none => false
  | some (key, sig) => Config.dsaVerify key (ctx "lyseo-dict-finish") false (fitBytes 64 (Config.sha3512 c.transcript)) sig

/-- The channel opens: keys, READY, and the notifications that wait. -/
def State.openChannel (s : State) (c : Channel) (body : Bytes) : State :=
  let keys := fitBytes 88 (Config.shake256 (c.secret ++ fitBytes 64 (Config.sha3512 (c.transcript ++ body))) 88)
  (s.record { c with isOpen := true, keys := keys, transcript := [], secret := [] } 4 []).pumpAll

/-- FINISH: no new channel is completed while Keeper restarts (R417). DESIGN CHOICE, unsafe, log entry 86. -/
def execFinish (channel : Nat) (body : Bytes) (s : State) : Out := match s.channel channel with
  | none => .next s
  | some c =>
    .next (if c.isOpen || s.keeper.restarting then s
      else if s.channelsFull c.role then s.dropChannel channel
      else if s.finishGood c body then s.openChannel c body
      else (s.dropChannel channel).bumpObj 0x1100 5)

/-! ## Records (R369, R372) -/

/-- Is a record's RSEQ one that the receiver takes? -/
def Channel.takes (c : Channel) (rseq : Nat) : Bool := !(c.rxSeen.contains rseq) && decide (c.rxHigh ≤ rseq + 64)

/-- Note an accepted RSEQ. -/
def Channel.noteRseq (c : Channel) (rseq : Nat) : Channel :=
  let high := Nat.max c.rxHigh rseq
  { c with rxHigh := high, rxSeen := (c.rxSeen ++ [rseq]).filter fun q => decide (high ≤ q + 64) }

/-- The open channel of a record that is accepted. -/
def State.accepted (s : State) (channel rseq : Nat) (tagOk : Bool) : Option Channel :=
  match s.channel channel with
  | none => none
  | some c => if c.isOpen && tagOk && c.takes rseq then some c else none

/-- The client of a channel. -/
def Channel.client (c : Channel) : Client := ⟨c.role, c.session, c.id, none⟩

/-- A direction that has reached RSEQ 2^32 closes the channel. DESIGN CHOICE, unsafe, log entry 86. -/
def State.endOfSeq (s : State) (id rseq : Nat) : State := if 2 ^ 32 ≤ rseq + 1 then s.closeChannel id else s

/-- A record with a message of a type. -/
def State.dataRecord (s : State) (mtype : Nat) (r : DictRec) : State :=
  if r.msg.mtype ≠ mtype then s
  else match s.accepted r.channel r.rseq r.tagOk with
    | none => s
    | some c => ((s.setChannel (c.noteRseq r.rseq)).message c.client r.msg).endOfSeq c.id r.rseq

/-- READ. -/
def execRead (r : DictRec) (s : State) : Out := .next (s.dataRecord 1 r)

/-- WRITE. -/
def execWrite (r : DictRec) (s : State) : Out := .next (s.dataRecord 2 r)

/-- SEG_INIT_DL. -/
def execSegInitDl (r : DictRec) (s : State) : Out := .next (s.dataRecord 6 r)

/-- SEG_INIT_UL. -/
def execSegInitUl (r : DictRec) (s : State) : Out := .next (s.dataRecord 7 r)

/-- SEG_DATA. -/
def execSegData (r : DictRec) (s : State) : Out := .next (s.dataRecord 8 r)

/-- SEG_ACK. -/
def execSegAck (r : DictRec) (s : State) : Out := .next (s.dataRecord 9 r)

/-- SEG_ABORT. -/
def execSegAbort (r : DictRec) (s : State) : Out := .next (s.dataRecord 0x0A r)

/-- NOTIFY_ACK. -/
def execNotifyAck (r : DictRec) (s : State) : Out := .next (s.dataRecord 0x11 r)

/-- CLOSE. -/
def execClose (channel rseq : Nat) (tagOk : Bool) (s : State) : Out := .next (match s.accepted channel rseq tagOk with
  | some c => s.closeChannel c.id
  | none => s)

/-- HANDSHAKE_TIMEOUT: 2 s after the first HELLO fragment. -/
def execHandshakeTimeout (channel : Nat) (s : State) : Out := match s.channel channel with
  | none => .next s
  | some c => .next (if c.isOpen then s else s.dropChannel channel)

/-- CHANNEL_IDLE_TIMEOUT. -/
def execChannelIdleTimeout (channel : Nat) (s : State) : Out := match s.channel channel with
  | none => .next s
  | some c => .next (if c.isOpen then s.closeChannel channel else s)

/-! ## Timeouts (R376, R377, R380) -/

/-- A transfer by its channel and TID. -/
def State.xferBy (s : State) (channel tid : Nat) : Option Xfer :=
  s.dict.xfers.find? fun x => x.client.channel == channel && x.tid == tid

/-- SEG_RESEND_TIMEOUT: 50 ms without SEG_ACK. -/
def execSegResendTimeout (channel tid : Nat) (s : State) : Out := match s.xferBy channel tid with
  | none => .next s
  | some x =>
    if x.down then .next s
    else
      let y := { x with next := x.acked }
      .next ((s.putXfer x y).sendSegments y 32)

/-- SEG_PROGRESS_TIMEOUT: 5 s without progress. -/
def execSegProgressTimeout (channel tid : Nat) (s : State) : Out := match s.xferBy channel tid with
  | none => .next s
  | some x => .next (s.giveUp x errTimeout)

/-- NODE_REPLY_TIMEOUT: 10 ms without a reply from the node. -/
def execNodeReplyTimeout (channel tid : Nat) (s : State) : Out :=
  match s.dict.forwards.find? (fun f => f.channel == channel && f.tid == tid), s.channel channel with
  | some f, some c =>
    let d := s.dict
    let s1 := s.setDict { d with
      forwards := d.forwards.filter fun g => g != f
      carried := d.carried.filter fun k => !(k.channel == channel && k.tid == tid) }
    .next (s1.replyError c.client ⟨0, 0xFF, tid, 0, 0, 0, 0, []⟩ errNode [])
  | _, _ => .next s

/-- NOTIFY_RESEND_TIMEOUT. -/
def execNotifyResendTimeout (channel nseq : Nat) (s : State) : Out := .next (s.resendNote channel nseq)

/-! ## Writes and reads that the table names one by one -/

/-- A message of an open channel to this device. -/
def State.local (s : State) (channel : Nat) (m : DictMsg) : State := match s.channel channel with
  | none => s
  | some c => if c.isOpen then s.message c.client m else s

/-- FAMILY_WRITE: 0x2000:01, or 0x2000:02 (R71, R384). DESIGN CHOICE, unsafe, log entry 86. -/
def execFamilyWrite (channel tid : Nat) (sub : Fin 3) (v : Nat) (s : State) : Out :=
  .next (if sub.val = 0 then s else s.local channel ⟨2, 0xFF, tid, 0x2000, sub.val, 0, 0, beBytes 1 v⟩)

/-- HOUSE_TIME_WRITE: 0x2000:05 (R65, R384). -/
def execHouseTimeWrite (channel tid : Nat) (v : Nat) (s : State) : Out :=
  .next (s.local channel ⟨2, 0xFF, tid, 0x2000, 5, 0, 0, beBytes 8 v⟩)

/-- DESIGNATED_STANDBY_WRITE: 0x6001:04 (R341, R359). -/
def execDesignatedStandbyWrite (channel tid : Nat) (node : Nat) (s : State) : Out :=
  .next (s.local channel ⟨2, 0xFF, tid, 0x6001, 4, 0, 0, beBytes 1 node⟩)

/-- QUOTE_NONCE_WRITE: 0x5020:01 (R400). -/
def execQuoteNonceWrite (channel tid : Nat) (nonce : Bytes) (s : State) : Out :=
  .next (s.local channel ⟨2, 0xFF, tid, 0x5020, 1, 0, 0, nonce⟩)

/-- QUOTE_READ: 0x5020:02, an upload (R377, R400). -/
def execQuoteRead (channel tid : Nat) (s : State) : Out :=
  .next (s.local channel ⟨7, 0xFF, tid, 0x5020, 2, 0, 0, []⟩)

/-! ## DICT frames (R376) -/

/-- The message after a DICT frame's prefix. -/
def parseMsg (p : Bytes) : Option DictMsg :=
  if p.length < 28 ∨ p.length < 28 + field p 20 4 then none
  else some ⟨field p 12 1, field p 13 1, field p 14 2, field p 16 2, field p 18 1, field p 19 1, field p 24 4,
    slice p 28 (field p 20 4)⟩

/-- DICT_FRAME. -/
def execDictFrame (p : PortSide) (f : RingFrame) (s : State) : Out :=
  .next (s.receive p f (f.cls == .dict) id fun s => match parseMsg f.payload with
    | none => s
    | some m => s.message ⟨field f.payload 0 1, field f.payload 4 8, field f.payload 2 2, some f.src⟩ m)

/-! ## Tender's mailbox (R387) -/

/-- A refused request is counted. -/
def State.requestRefused (s : State) : State := s.bumpObj 0x5000 7

/-- A ticket must name the image that Keeper verified, and agree with one that Keeper keeps for the session. -/
def State.ticketGood (s : State) (c : CellId) (t : Bytes) : Bool :=
  let i := (s.cell c).sess.image
  i.complete && slice t 72 64 == slice i.data 76 64 &&
    s.keeper.tickets.all fun q => q.2.1 != field t 4 8 || q.2.2 == digest32 (admittedTicket t)

/-- A request of Tender: checked, and acted on or refused. -/
def State.tenderRequest (s : State) (r : TenderReq) : State := match r with
  | .admission c t => if s.ticketGood c t then s.setTicket c (field t 4 8) (digest32 (admittedTicket t)) else s.requestRefused
  | .sealMinute c snapshot => match (s.meters[c]).latched with
    | [] => s.requestRefused
    | l :: _ =>
      let x := s.cell c
      let t := (s.sealOldest c s.house.time).freeSealed c
      if snapshot = [] ∨ snapshot = counterBytes x.family (field x.sess.ticket 20 4) l.cnt then t else t.requestRefused
  | .storeUpdate image =>
    let q := s.beginUpdate.feedUpdate image.length image
    if q.2 = .done then q.1 else q.1.requestRefused
  | .activate k => let q := s.activate k; if q.2 = 0 then q.1 else q.1.requestRefused
  | .deliver channel rec => match s.channel channel with
    | none => s.requestRefused
    | some c =>
      let rseq := field rec 8 8
      let iv := ((slice c.keys 64 12).zip (beBytes 12 rseq)).map fun q => q.1 ^^^ q.2
      match Config.gcmOpen (c.keys.take 32) iv (rec.take 16) (rec.drop 16) with
      | none => s.requestRefused
      | some plain => match parseMsg (List.replicate 12 0 ++ plain), s.accepted channel rseq true with
        | some m, some c => ((s.setChannel (c.noteRseq rseq)).message c.client m).endOfSeq channel rseq
        | _, _ => s.requestRefused

/-- TENDER_REQUEST. -/
def execTenderRequest (r : TenderReq) (s : State) : Out :=
  .next (if s.serves && !s.keeper.restarting then s.tenderRequest r else s)

/-! ## Handover and restart (R394, R416, R417) -/

/-- TENDER_READY: the window closes when every ticket agrees with the digest that Keeper keeps. -/
def execTenderReady (tickets : List Bytes) (s : State) : Out :=
  if s.keeper.handover ≠ .opened ∧ s.keeper.handover ≠ .fallback then .next s
  else if tickets.all s.ticketKept then
    .next ((s.setKeeper { s.keeper with handover := .none }).serveHeld).resumeWaiting
  else .next s.handoverFails

/-- KEEPER_RESTART_COMPLETE: a failed check of the retention memory is a fatal fault (R394).
DESIGN CHOICE, unsafe, log entry 68. -/
def execKeeperRestartComplete (retentionOk late : Bool) (s : State) : Out :=
  if !s.keeper.restarting then .next s
  else if !retentionOk then .next (s.fatal 5)
  else
    let s1 : State := { s with meters := s.meters.map Meter.markRestart }
    let s2 := if late then s1.lateAdmissions else s1
    .next ((s2.setKeeper { s2.keeper with restarting := false }).serveHeld).resumeWaiting

end Sys2Proof.Machine
end

