-- ==== Sys2Proof/Machine/Debug.lean ====
section
/-! DEFINITION. The commands of the debug port, the debug units, the tunnel and the trace buffers (R420 to R440). -/

namespace Sys2Proof.Machine

/-- A frame with what it sets free: when the last halted Tender core runs again, Tender answers what has waited (R427). -/
def State.debugFrame (s : State) (tgt : DbgTarget) (op : Nat) (a v : Word) : State :=
  let t := s.frame (targetCode tgt) op a v
  if s.noTender && !t.noTender then t.serveHeld.resumeWaiting else t

/-- DEBUG_READ. -/
def execDebugRead (tgt : DbgTarget) (addr : Word) (s : State) : Out := .next (s.debugFrame tgt 1 addr 0)

/-- DEBUG_WRITE. -/
def execDebugWrite (tgt : DbgTarget) (addr data : Word) (s : State) : Out := .next (s.debugFrame tgt 2 addr data)

/-- DEBUG_HALT. -/
def execDebugHalt (tgt : DbgTarget) (s : State) : Out := .next (s.debugFrame tgt 3 0 0)

/-- DEBUG_RESUME. -/
def execDebugResume (tgt : DbgTarget) (s : State) : Out := .next (s.debugFrame tgt 4 0 0)

/-- DEBUG_STEP. -/
def execDebugStep (tgt : DbgTarget) (s : State) : Out := .next (s.debugFrame tgt 5 0 0)

/-- DEBUG_INJECT. -/
def execDebugInject (tgt : DbgTarget) (bits : Word) (s : State) : Out := .next (s.debugFrame tgt 6 0 bits)

/-- HALT_EFFECT (R431). -/
def execHaltEffect (c : CellId) (s : State) : Out := .next ((s.onCell c Cell.haltEffect).pumpDbg c)

/-- STEP_COMPLETE (R433). -/
def execStepComplete (c : CellId) (s : State) : Out := .next ((s.onCell c Cell.stepComplete).pumpDbg c)

/-- DEBUG_LINE_RESET (R425). -/
def execDebugLineReset (s : State) : Out := .next (if s.inReset then s else s.lineReset)

/-- DEBUG_FRAME_CRC_ERROR: no answer (R425). -/
def execDebugFrameCrcError (s : State) : Out := .next (if s.inReset then s else s.setPort { s.port with crcErr := true })

/-! ## The port's registers (R428) -/

/-- PORT_REQ. -/
def execPortReq (v : Word) (s : State) : Out := .next (s.debugFrame .port 2 0x0004 v)

/-- PORT_RESP. -/
def execPortResp (v : Word) (s : State) : Out := .next (s.debugFrame .port 2 0x0200 v)

/-- PORT_SUBMIT. -/
def execPortSubmit (v : Word) (s : State) : Out := .next (s.debugFrame .port 2 0x0008 v)

/-- PORT_RELOCK. -/
def execPortRelock (v : Word) (s : State) : Out := .next (s.debugFrame .port 2 0x000C v)

/-- UNLOCK_VERDICT. -/
def execUnlockVerdict (s : State) : Out := .next (if s.port.busy then s.unlockVerdict else s)

/-- CONSENT_EXPIRY: in PRODUCTION the port relocks. -/
def execConsentExpiry (s : State) : Out := .next (if s.keeper.lifecycle = 2 then s.portRelock else s)

/-! ## Levels, tunnel and trace (R421, R436, R440) -/

/-- DEBUG_LEVEL_WRITE. -/
def execDebugLevelWrite (c : CellId) (level : Nat) (s : State) : Out :=
  .next (if s.up && decide (level ≤ 2) then s.setLevel c level else s)

/-- DEBUG_TUNNEL_REQUEST: of an open channel that may write the cell's request subindex. -/
def execDebugTunnelRequest (channel : Nat) (c : CellId) (req : Bytes) (s : State) : Out := match s.channel channel with
  | none => .next s
  | some ch =>
    let idx := 0x7000 + c.val
    .next (if ch.isOpen && req.length == 10 && s.accessError ch.client idx 2 true == 0 then s.tunnel ch.client c req else s)

/-- TRACE_REMOVE. -/
def execTraceRemove (c : CellId) (n : Nat) (s : State) : Out := .next (s.traceRemove c n)

/-- TRACE_WORD_READ: a port read of the trace word. -/
def execTraceWordRead (c : CellId) (s : State) : Out := .next (s.debugFrame (.cell c) 1 0xC0000200 0)

end Sys2Proof.Machine
end

