-- ==== Sys2Proof/Machine/ExecEngine.lean ====
section
/-! DEFINITION. The commands of a cell's beam-aligned engines: line starts, line lists, fetches, block copy, DMA channels,
timers, watchdog, audio and the stripe encoder (03 to 10): one meaning each. -/

namespace Sys2Proof.Machine

/-- Run a function of a cell whose beam runs (R323). -/
def State.live (s : State) (c : CellId) (f : Cell → Cell) : Out := .next (s.onCell c fun x => if x.running then f x else x)

/-- The same for an event whose counted cycle `p` names (R42). -/
def State.liveAt (s : State) (c : CellId) (p : Cell → Nat) (f : Cell → Cell) : Out := s.live c fun x => x.event (p x) f

/-- Cycle 0 of the line that the beam is in. -/
def Cell.lineStarted (c : Cell) : Nat := (c.beam.started - 1) * c.cpl

/-- Cycle 0 of the line that starts next. -/
def Cell.lineNext (c : Cell) : Nat := c.beam.started * c.cpl

/-! ## Beam and picture -/

/-- LINE_START (R13); a primary in COPY sends what the traffic limit allows (R349). -/
def execLineStart (c : CellId) (s : State) : Out :=
  .next (if (s.cell c).lineDue then (s.onCell c fun x => x.event x.lineNext Cell.lineStart).copyDrain c else s)

/-- RST_LCMP_MATCH (R87). -/
def execRstLcmpMatch (c : CellId) (s : State) : Out :=
  s.liveAt c Cell.lcmpPos Cell.lcmpMatch

/-- FETCH_URGENCY (R80). -/
def execFetchUrgency (c : CellId) (s : State) : Out := s.live c Cell.fetchUrgency

/-- FETCH_DATA_RETURN (R81, R108). -/
def execFetchDataReturn (c : CellId) (l : FetchLayer) (line : Nat) (bad : List Nat) (s : State) : Out :=
  s.live c fun x => x.fetchReturn l line bad

/-- TAG_RETRY_RETURN (R108). -/
def execTagRetryReturn (c : CellId) (l : FetchLayer) (line : Nat) (addr : Nat) (ok : Bool) (s : State) : Out :=
  s.live c fun x => x.retryReturn l line addr ok

/-- LINE_LIST_ENTRY (R127 to R131). -/
def execLineListEntry (c : CellId) (s : State) : Out :=
  s.liveAt c (fun x => x.nextSlot.getD x.evt.last) Cell.lineListEntry

/-! ## Encoder -/

/-- STRIPE_CLOSE (R239, R242 to R252, R256 to R269). -/
def execStripeClose (c : CellId) (intact : Bool) (s : State) : Out := s.live c fun x => x.closeStripe intact

/-- KEEPALIVE (R260). -/
def execKeepalive (c : CellId) (s : State) : Out := s.live c Cell.keepalive

/-- REFERENCE_DATA_RETURN (R263). -/
def execReferenceDataReturn (c : CellId) (bad : List Nat) (s : State) : Out := s.live c fun x => x.referenceReturn bad

/-! ## Block copy and DMA -/

/-- BLT_COMMAND_LAND (R176); transfers issued before a PARK still land (R325). -/
def execBltCommandLand (c : CellId) (n : Nat) (bad : List Nat) (s : State) : Out :=
  .next (s.onCell c fun x => (x.bltLand n bad).releaseParked)

/-- BLT_COMMAND_VISIBLE (R177). -/
def execBltCommandVisible (c : CellId) (n : Nat) (s : State) : Out := s.liveAt c Cell.lineNext fun x => x.bltVisible n

/-- DMA_MOVE (R184, R188 to R190). -/
def execDmaMove (c : CellId) (ch : Fin 8) (s : State) : Out :=
  s.liveAt c (fun x => x.dmaPos ch) fun x => (x.dmaExec ch 1 (Cell.dmaMoveAct ch)).settle

/-- DMA_LOOP (R184). -/
def execDmaLoop (c : CellId) (ch : Fin 8) (s : State) : Out :=
  s.liveAt c (fun x => x.dmaPos ch) fun x => (x.dmaExec ch 2 (Cell.dmaLoopAct ch)).settle

/-- DMA_WAIT (R184, R186). -/
def execDmaWait (c : CellId) (ch : Fin 8) (s : State) : Out :=
  s.liveAt c (fun x => x.dmaPos ch) fun x => (x.dmaExec ch 3 (Cell.dmaWaitAct ch)).settle

/-- DMA_SIGNAL (R184). -/
def execDmaSignal (c : CellId) (ch : Fin 8) (s : State) : Out :=
  s.liveAt c (fun x => x.dmaPos ch) fun x => (x.dmaExec ch 4 (Cell.dmaSignalAct ch)).settle

/-- DMA_END (R184). -/
def execDmaEnd (c : CellId) (ch : Fin 8) (s : State) : Out :=
  s.liveAt c (fun x => x.dmaPos ch) fun x => (x.dmaExec ch 5 (Cell.dmaEndAct ch)).settle

/-- DMA_WAIT_END (R184, R187). -/
def execDmaWaitEnd (c : CellId) (ch : Fin 8) (s : State) : Out :=
  s.liveAt c (fun x => x.dmaPos ch) fun x => (x.dmaWaitEnd ch).settle

/-- DMA_MOVE_ISSUE (R50, R191). -/
def execDmaMoveIssue (c : CellId) (ch : Fin 8) (s : State) : Out := s.live c fun x => x.dmaIssue ch

/-- DMA_MOVE_LAND (R192); transfers issued before a PARK still land (R325). -/
def execDmaMoveLand (c : CellId) (ch : Fin 8) (n : Nat) (bad : List Nat) (s : State) : Out :=
  .next (s.onCell c fun x => (x.dmaLand ch n bad).releaseParked)

/-- DMA_MOVE_VISIBLE (R192). -/
def execDmaMoveVisible (c : CellId) (ch : Fin 8) (s : State) : Out := s.liveAt c Cell.lineNext fun x => x.dmaVisible ch

/-! ## Timers and watchdog -/

/-- The beam at the tick of timer n: while the processor begins no instruction, counted cycles pass until the tick of a timer
that counts them is due (R197). -/
def Cell.toTick (c : Cell) (n : Fin 8) : Cell :=
  let p := c.beam.fpos + (c.tmrDiv n.val - c.tmr.presc[n])
  if c.timerOn n.val 0 && c.mayIdleTo p then c.advanceTo p else c

/-- Is a tick of timer n due that does not lie behind a register write still to take effect (R199)? -/
def Cell.tickFree (c : Cell) (n : Fin 8) : Bool := c.tickDue n && match c.cpu.straddle with
  | some (off, _, p) => off / 0x1000 != 9 || c.tickBefore n off p
  | none => true

/-- A tick of timer n that is due and of which `p` holds. -/
def Cell.tickIf (c : Cell) (n : Fin 8) (p : Cell → Bool) : Cell :=
  let x := c.toTick n
  if x.tickFree n && p x then (x.tick n).settle else c

/-- The cycle of the tick of timer n that is due: that of the line or frame start which it counts, or the one in which the
cycles that it counts became enough (R197, R202). -/
def Cell.tickPos (c : Cell) (n : Fin 8) : Nat :=
  let x := c.toTick n
  let m := if c.pairLinked n then n.val / 2 * 2 else n.val
  if c.timerOn n.val 0 then x.beam.fpos - 1 - (x.tmr.presc[n] - x.tmrDiv n.val)
  else if c.timerOn m 0 then x.beam.fpos - 1 else c.lineStarted

/-- TIMER_TICK (R197 to R200). -/
def execTimerTick (c : CellId) (n : Fin 8) (s : State) : Out :=
  s.liveAt c (fun x => x.tickPos n) fun x => x.tickIf n fun _ => true

/-- TIMER_WRAP: the tick that is due wraps the count (R198). -/
def execTimerWrap (c : CellId) (n : Fin 8) (s : State) : Out :=
  s.liveAt c (fun x => x.tickPos n) fun x => x.tickIf n fun y => (y.tickResult n).2.2

/-- COMPARE_MATCH: the tick that is due leaves the count at CMP (R200). -/
def execCompareMatch (c : CellId) (n : Fin 8) (s : State) : Out :=
  s.liveAt c (fun x => x.tickPos n) fun x => x.tickIf n fun y => y.tickMatches n

/-- PERIOD_SKIP (R201). -/
def execPeriodSkip (c : CellId) (n : Fin 8) (s : State) : Out :=
  s.liveAt c (fun x => x.tmr.above[n]) fun x =>
    let p := x.tmr.above[n] + 1
    let y := if x.mayIdleTo p then x.advanceTo p else x
    if y.skipDue n then (y.periodSkip n).settle else x

/-- WDG_WINDOW_EXPIRY: more than 16 window cycles have passed since the key (R208). -/
def execWdgWindowExpiry (c : CellId) (s : State) : Out :=
  s.live c fun x => if x.tmr.window.isSome && !x.windowOpen then x.setWindow none else x

/-- WATCHDOG_BARK (R207). -/
def execWatchdogBark (c : CellId) (s : State) : Out :=
  s.liveAt c Cell.lineStarted fun x => if x.wdgZero && !x.tmr.barked then x.bark else x

/-- WATCHDOG_BITE (R207, R327). -/
def execWatchdogBite (c : CellId) (s : State) : Out :=
  s.live c fun x => if x.wdgZero && x.tmr.barked then x.bite else x

/-! ## Audio -/

/-- SAMPLE_BOUNDARY (R214 to R224, R229). DESIGN CHOICE, safe, log entry 11. -/
def execSampleBoundary (c : CellId) (s : State) : Out :=
  s.liveAt c (fun x => x.nextBoundary.getD x.evt.last) fun x => x.sampleBoundary.settle

/-- The values that A0 to A31 hold before a sample's program writes them: undefined, so drawn free (R226, DESIGN CHOICE, safe, log entry 11). -/
def freeRegisters (k : Nat) : List Int := (List.range 32).map fun i => (Config.freeWord (k + i)).toInt

/-- Position of the sample boundary that fell last in this frame. -/
def Cell.boundaryPassed (c : Cell) : Nat := boundaryPos c.family (c.beam.frame % 5) (c.aud.next - 1)

/-- AUDIO_PROGRAM (R226 to R228, R230, R232). -/
def execAudioProgram (c : CellId) (intact : Bool) (s : State) : Out :=
  ({ s with fresh := s.fresh + 32 }).liveAt c Cell.boundaryPassed fun x => x.audioProgram (freeRegisters s.fresh) intact

/-- OPUS_PACKET (R231). -/
def execOpusPacket (c : CellId) (intact : Bool) (s : State) : Out := s.live c fun x => x.opusPacket intact

/-! ## Input port -/

/-- INPUT_APPLY (R52, R294). -/
def execInputApply (c : CellId) (s : State) : Out := s.liveAt c Cell.lineStarted Cell.inputApply

end Sys2Proof.Machine
end

