-- ==== Sys2Proof/Machine/Power.lean ====
section
/-! DEFINITION. The commands of power, clocks, resets, start-up and supply (R206, R337, R385, R442 to R464, R475). -/

namespace Sys2Proof.Machine

/-! ## Ridges (R206, R443, R450, R454) -/

/-- RIDGE_PLL_LOCK: the CELL PLL of the ridge that powers up locks, and its timers count counted cycles. -/
def execRidgePllLock (r : RidgeId) (s : State) : Out :=
  .next (if s.power.current = some r ∧ (s.ridges[r]).locked = false then
    (s.setRidge r { s.ridges[r] with locked := true }).setLowres r false else s)

/-- RIDGE_POWER_UP_DONE. -/
def execRidgePowerUpDone (r : RidgeId) (s : State) : Out :=
  .next (if s.power.current = some r ∧ (s.ridges[r]).locked = true then s.ridgeUp r else s)

/-- RIDGE_PLL_LOCK_LOSS: a ridge reset, or a ridge fault. -/
def execRidgePllLockLoss (r : RidgeId) (s : State) : Out :=
  .next (if (s.ridges[r]).locked = false then s else if s.ridgeLive r then s.withdraw else s.ridgeReset r)

/-- RIDGE_FAULT: an uncorrectable fault in a ridge encoder or audio engine. -/
def execRidgeFault (r : RidgeId) (s : State) : Out := .next (if s.ridgeLive r then s.withdraw else s)

/-! ## Power states (R444, R445) -/

/-- POWER_REQUEST_PARKED. -/
def execPowerRequestParked (s : State) : Out := .next (if s.up then s.requestParked.1 else s)

/-- POWER_REQUEST_IDLE. -/
def execPowerRequestIdle (s : State) : Out := .next (if s.up then s.requestPower .idle else s)

/-- POWER_TRANSITION_COMPLETE. -/
def execPowerTransitionComplete (s : State) : Out := match s.power.moving with
  | none => .next s
  | some p => .next (s.powerMoved p)

/-! ## Resets (R337, R447, R451, R452, R461) -/

/-- DEVICE_RESET_COMMAND. -/
def execDeviceResetCommand (v : Nat) (s : State) : Out :=
  .next (if v = 0x52534554 ∧ (s.power.phase = .running ∨ s.power.phase = .noMemory) then s.deviceReset 6 else s)

/-- PWR_OK_FALL. -/
def execPwrOkFall (s : State) : Out := .next ((s.setPower { s.power with pwrOk := false }).deviceReset 0)

/-- RESET_N_LOW; in a COLD reset the kind stays COLD. -/
def execResetNLow (s : State) : Out :=
  .next ((s.setPower { s.power with resetN := false }).deviceReset
    (if s.power.phase = .reset ∧ s.power.kind = 0 then 0 else 1))

/-- RESET_RELEASE: PWR_OK and RESET_N are both high. A device without REFCLK stays in reset (R451).
DESIGN CHOICE, unsafe, log entry 74. -/
def execResetRelease (s : State) : Out :=
  let p := { s.power with pwrOk := true, resetN := true }
  .next (if s.power.phase ≠ .reset ∨ 1 < s.power.kind then s
    else if s.power.refclk then (s.setPower p).startUp
    else s.setPower { p with kind := 8 })

/-- VDD_CORE_RESET: VDD_CORE below its reset level of 0.660 V. -/
def execVddCoreReset (mv : Nat) (s : State) : Out := .next (if mv < 660 then s.fatal 2 else s)

/-- VDD_AON_LOW: a COLD reset. -/
def execVddAonLow (s : State) : Out := .next (s.deviceReset 0)

/-- REFCLK_LOSS. -/
def execRefclkLoss (s : State) : Out := .next ((s.setPower { s.power with refclk := false }).fatal 8)

/-- REFCLK_RETURN. -/
def execRefclkReturn (s : State) : Out := .next (s.setPower { s.power with refclk := true })

/-- CRYSTAL_LOSS. -/
def execCrystalLoss (s : State) : Out := .next (s.setPower { s.power with sysclkSec := true })

/-- LOCKSTEP_MISMATCH. -/
def execLockstepMismatch (s : State) : Out := .next (s.fatal 4)

/-- RING_PATH_FAULT: in a device whose ring lanes are powered. -/
def execRingPathFault (s : State) : Out := .next (if s.up then s.fatal 7 else s)

/-- HEALTH_REPORT_MISSED: the second in a row; the device resets with kind HEALTH. -/
def execHealthReportMissed (s : State) : Out := .next (s.fatal 5)

/-- DEVICE_RESET_END: an internal reset ends. -/
def execDeviceResetEnd (s : State) : Out :=
  .next (if s.power.phase = .reset ∧ 2 ≤ s.power.kind ∧ s.resetMayEnd = true then s.startUp else s)

/-! ## Start-up (R455, R464, R475) -/

/-- ROLE_SAMPLE: with TEST_N low the device holds itself in reset and reports nothing. -/
def execRoleSample (role testN : Bool) (s : State) : Out :=
  .next (if s.power.phase ≠ .starting ∧ s.power.phase ≠ .recovery then s
    else if testN then s.sampleRole role
    else
      let r := s.deviceReset s.power.kind
      r.setPower { r.power with phase := .test })

/-- DDR_TRAINING_COMPLETE. -/
def execDdrTrainingComplete (d : DdrReport) (s : State) : Out :=
  .next (if s.power.phase = .training then s.ddrDone d else s)

/-! ## Supply (R456, R457) -/

/-- BROWNOUT_HOLD_BEGIN: a fall below 0.700 V; during a hold it begins no other, and the 20 µs count restarts. -/
def execBrownoutHoldBegin (mv : Nat) (s : State) : Out :=
  if s.inReset || decide (700 ≤ mv) then .next s
  else
    let s1 := s.setPower (s.power.seeCore mv)
    .next (if s.power.hold then s1.setPower { s1.power with rising := false } else s1.holdBegin)

/-- VDD_CORE_HOLD_LEVEL_CROSSING: at 0.710 V the 20 µs count starts, below it restarts. -/
def execVddCoreHoldLevelCrossing (mv : Nat) (s : State) : Out :=
  .next (if s.power.hold then s.setPower { s.power.seeCore mv with rising := decide (710 ≤ mv) } else s)

/-- BROWNOUT_HOLD_END: 20 µs without a break at or above 0.710 V. -/
def execBrownoutHoldEnd (s : State) : Out := .next (if s.power.hold ∧ s.power.rising = true then s.holdEnd else s)

/-- SUPPLY_SAMPLE. -/
def execSupplySample (r : Rails) (s : State) : Out :=
  .next (if s.inReset then s else s.setPower { s.power.seeCore r.core with rails := r })

/-- TEMPERATURE_READING, in 0.1 °C: the highest of the sensors is the device's temperature. -/
def execTemperatureReading (sensors : List Int) (s : State) : Out := match hottest sensors with
  | none => .next s
  | some t => .next (if s.power.phase = .test ∨ (s.power.phase = .reset ∧ s.power.kind = 0) then s else s.temperature t)

/-! ## Links (R385) -/

/-- Set or clear bit `k` of a number. -/
def putBit (v k : Nat) (on : Bool) : Nat :=
  if bit v k == on then v else if on then v + 2 ^ k else v - 2 ^ k

/-- UPLINK_LINK_CHANGE: a lane's alignment or an interface's link; interface 1 exists in 2×200GBASE-R4 mode only. -/
def execUplinkLinkChange (lane : Bool) (n : Fin 8) (isUp : Bool) (s : State) : Out :=
  if s.inReset || !s.power.uplink then .next s
  else if lane then .next (s.setObj 0x2010 0x0B (putBit (s.obj 0x2010 0x0B) n.val isUp))
  else if n.val = 0 ∨ (n.val = 1 ∧ s.power.twin = true) then
    .next (s.setObj 0x2010 0x0A (putBit (s.obj 0x2010 0x0A) n.val isUp))
  else .next s

/-- SERVICE_LINK_CHANGE. -/
def execServiceLinkChange (isUp : Bool) (s : State) : Out :=
  .next (if s.inReset then s else s.setObj 0x2020 4 (b2n isUp))

end Sys2Proof.Machine
end

