-- ==== Sys2Proof/Machine/Dispatch.lean ====
section
/-! DEFINITION. What each command does: one arm per command, each a direct call of its meaning. -/

namespace Sys2Proof.Machine

/-- The effect of a command on everything but the queue. -/
def exec (i : Instr) (s : State) : Host.Outcome State Fault Refusal :=
  match i with
  | .aluInstruction c ins short => Sys2Proof.Machine.execAluInstruction c ins short s
  | .mul c op rd rs1 rs2 => Sys2Proof.Machine.execMul c op rd rs1 rs2 s
  | .div c op rd rs1 rs2 => Sys2Proof.Machine.execDiv c op rd rs1 rs2 s
  | .branch c op rs1 rs2 off short => Sys2Proof.Machine.execBranch c op rs1 rs2 off short s
  | .jalJalr c ins short => Sys2Proof.Machine.execJalJalr c ins short s
  | .load c op rd rs1 off short => Sys2Proof.Machine.execLoad c op rd rs1 off short s
  | .store c op rs1 rs2 off short => Sys2Proof.Machine.execStore c op rs1 rs2 off short s
  | .csrInstruction c op csr rd src => Sys2Proof.Machine.execCsrInstruction c op csr rd src s
  | .mlwaitWrite c op rd src => Sys2Proof.Machine.execMlwaitWrite c op rd src s
  | .fence c => Sys2Proof.Machine.execFence c s
  | .wfi c => Sys2Proof.Machine.execWfi c s
  | .ecall c => Sys2Proof.Machine.execEcall c s
  | .ebreak c short => Sys2Proof.Machine.execEbreak c short s
  | .mret c => Sys2Proof.Machine.execMret c s
  | .illegalInstruction c bits => Sys2Proof.Machine.execIllegalInstruction c bits s
  | .waitTargetReached c => Sys2Proof.Machine.execWaitTargetReached c s
  | .wfiWake c => Sys2Proof.Machine.execWfiWake c s
  | .interruptTaken c => Sys2Proof.Machine.execInterruptTaken c s
  | .registerWrite c off v => Sys2Proof.Machine.execRegisterWrite c off v s
  | .lineStart c => Sys2Proof.Machine.execLineStart c s
  | .frameBoundary c => Sys2Proof.Machine.execFrameBoundary c s
  | .porchStart c delta => Sys2Proof.Machine.execPorchStart c delta s
  | .rstLcmpMatch c => Sys2Proof.Machine.execRstLcmpMatch c s
  | .commitGo c => Sys2Proof.Machine.execCommitGo c s
  | .syncInEdge t phaseError => Sys2Proof.Machine.execSyncInEdge t phaseError s
  | .houseFrameEdge t phaseError => Sys2Proof.Machine.execHouseFrameEdge t phaseError s
  | .predictedEdge t => Sys2Proof.Machine.execPredictedEdge t s
  | .syncOutEnd => Sys2Proof.Machine.execSyncOutEnd s
  | .ppsInEdge t => Sys2Proof.Machine.execPpsInEdge t s
  | .houseSecond t => Sys2Proof.Machine.execHouseSecond t s
  | .ppsOutEnd => Sys2Proof.Machine.execPpsOutEnd s
  | .ptpMessage m => Sys2Proof.Machine.execPtpMessage m s
  | .fetchUrgency c => Sys2Proof.Machine.execFetchUrgency c s
  | .fetchDataReturn c layer line bad => Sys2Proof.Machine.execFetchDataReturn c layer line bad s
  | .tagRetryReturn c layer line addr ok => Sys2Proof.Machine.execTagRetryReturn c layer line addr ok s
  | .lineListEntry c => Sys2Proof.Machine.execLineListEntry c s
  | .cmpPaldataWrite c v => Sys2Proof.Machine.execCmpPaldataWrite c v s
  | .sclCdataWrite c v => Sys2Proof.Machine.execSclCdataWrite c v s
  | .overlayApply c => Sys2Proof.Machine.execOverlayApply c s
  | .stripeClose c intact => Sys2Proof.Machine.execStripeClose c intact s
  | .keepalive c => Sys2Proof.Machine.execKeepalive c s
  | .idrRequest c src => Sys2Proof.Machine.execIdrRequest c src s
  | .referenceDataReturn c bad => Sys2Proof.Machine.execReferenceDataReturn c bad s
  | .bltSubmit c v => Sys2Proof.Machine.execBltSubmit c v s
  | .bltCommandLand c n bad => Sys2Proof.Machine.execBltCommandLand c n bad s
  | .bltCommandVisible c n => Sys2Proof.Machine.execBltCommandVisible c n s
  | .dmaStart c ch => Sys2Proof.Machine.execDmaStart c ch s
  | .dmaStop c ch => Sys2Proof.Machine.execDmaStop c ch s
  | .dmaMove c ch => Sys2Proof.Machine.execDmaMove c ch s
  | .dmaLoop c ch => Sys2Proof.Machine.execDmaLoop c ch s
  | .dmaWait c ch => Sys2Proof.Machine.execDmaWait c ch s
  | .dmaSignal c ch => Sys2Proof.Machine.execDmaSignal c ch s
  | .dmaEnd c ch => Sys2Proof.Machine.execDmaEnd c ch s
  | .dmaWaitEnd c ch => Sys2Proof.Machine.execDmaWaitEnd c ch s
  | .dmaMoveIssue c ch => Sys2Proof.Machine.execDmaMoveIssue c ch s
  | .dmaMoveLand c ch n bad => Sys2Proof.Machine.execDmaMoveLand c ch n bad s
  | .dmaMoveVisible c ch => Sys2Proof.Machine.execDmaMoveVisible c ch s
  | .dmaEvtsetWrite c v => Sys2Proof.Machine.execDmaEvtsetWrite c v s
  | .timerTick c n => Sys2Proof.Machine.execTimerTick c n s
  | .timerWrap c n => Sys2Proof.Machine.execTimerWrap c n s
  | .compareMatch c n => Sys2Proof.Machine.execCompareMatch c n s
  | .periodSkip c n => Sys2Proof.Machine.execPeriodSkip c n s
  | .tmrGo c v => Sys2Proof.Machine.execTmrGo c v s
  | .timerCntWrite c n v => Sys2Proof.Machine.execTimerCntWrite c n v s
  | .timerCntRead c n => Sys2Proof.Machine.execTimerCntRead c n s
  | .wdgFeed c v => Sys2Proof.Machine.execWdgFeed c v s
  | .wdgKey c v => Sys2Proof.Machine.execWdgKey c v s
  | .wdgValueStore c r v => Sys2Proof.Machine.execWdgValueStore c r v s
  | .wdgWindowExpiry c => Sys2Proof.Machine.execWdgWindowExpiry c s
  | .watchdogBark c => Sys2Proof.Machine.execWatchdogBark c s
  | .watchdogBite c => Sys2Proof.Machine.execWatchdogBite c s
  | .ridgePllLock r => Sys2Proof.Machine.execRidgePllLock r s
  | .sampleBoundary c => Sys2Proof.Machine.execSampleBoundary c s
  | .audPdataWrite c v => Sys2Proof.Machine.execAudPdataWrite c v s
  | .audSwapGo c => Sys2Proof.Machine.execAudSwapGo c s
  | .sampleVoiceTrig c n v => Sys2Proof.Machine.execSampleVoiceTrig c n v s
  | .waveVoiceTrig c w v => Sys2Proof.Machine.execWaveVoiceTrig c w v s
  | .audPosWrite c n v => Sys2Proof.Machine.execAudPosWrite c n v s
  | .audioProgram c intact => Sys2Proof.Machine.execAudioProgram c intact s
  | .opusPacket c intact => Sys2Proof.Machine.execOpusPacket c intact s
  | .streamPacketEgress c => Sys2Proof.Machine.execStreamPacketEgress c s
  | .uplinkFrameReceive iface frame fcsOk => Sys2Proof.Machine.execUplinkFrameReceive iface frame fcsOk s
  | .pli p => Sys2Proof.Machine.execPli p s
  | .fir p => Sys2Proof.Machine.execFir p s
  | .inputMessage t src udp => Sys2Proof.Machine.execInputMessage t src udp s
  | .pictureLoss t src udp => Sys2Proof.Machine.execPictureLoss t src udp s
  | .inputFrameSend => Sys2Proof.Machine.execInputFrameSend s
  | .stampedMessageReceive msg => Sys2Proof.Machine.execStampedMessageReceive msg s
  | .inputApply c => Sys2Proof.Machine.execInputApply c s
  | .inpPop c => Sys2Proof.Machine.execInpPop c s
  | .inpRptsend c v => Sys2Proof.Machine.execInpRptsend c v s
  | .reportSend => Sys2Proof.Machine.execReportSend s
  | .descriptorWrite c desc => Sys2Proof.Machine.execDescriptorWrite c desc s
  | .admissionCalculus c v => Sys2Proof.Machine.execAdmissionCalculus c v s
  | .start c t => Sys2Proof.Machine.execStart c t s
  | .park c t => Sys2Proof.Machine.execPark c t s
  | .resume c t v => Sys2Proof.Machine.execResume c t v s
  | .endSession c t => Sys2Proof.Machine.execEndSession c t s
  | .migrate c t v => Sys2Proof.Machine.execMigrate c t v s
  | .startApply c => Sys2Proof.Machine.execStartApply c s
  | .parkApply c => Sys2Proof.Machine.execParkApply c s
  | .resumeApply c => Sys2Proof.Machine.execResumeApply c s
  | .migrateApply c => Sys2Proof.Machine.execMigrateApply c s
  | .endApply c => Sys2Proof.Machine.execEndApply c s
  | .syncFrame p f => Sys2Proof.Machine.execSyncFrame p f s
  | .beacon p f => Sys2Proof.Machine.execBeacon p f s
  | .streamFrame p f => Sys2Proof.Machine.execStreamFrame p f s
  | .dictFrame p f => Sys2Proof.Machine.execDictFrame p f s
  | .stateFrame p f => Sys2Proof.Machine.execStateFrame p f s
  | .topo p f => Sys2Proof.Machine.execTopo p f s
  | .probe p f => Sys2Proof.Machine.execProbe p f s
  | .probeReply p f roundTrip => Sys2Proof.Machine.execProbeReply p f roundTrip s
  | .join p f => Sys2Proof.Machine.execJoin p f s
  | .leave p f => Sys2Proof.Machine.execLeave p f s
  | .promoted p f => Sys2Proof.Machine.execPromoted p f s
  | .epoch p f => Sys2Proof.Machine.execEpoch p f s
  | .active p f => Sys2Proof.Machine.execActive p f s
  | .resync p f => Sys2Proof.Machine.execResync p f s
  | .switch p f => Sys2Proof.Machine.execSwitch p f s
  | .stamp p f => Sys2Proof.Machine.execStamp p f s
  | .keyx p f => Sys2Proof.Machine.execKeyx p f s
  | .role p f => Sys2Proof.Machine.execRole p f s
  | .portUp p => Sys2Proof.Machine.execPortUp p s
  | .portDown p rdi => Sys2Proof.Machine.execPortDown p rdi s
  | .superframeSlot t => Sys2Proof.Machine.execSuperframeSlot t s
  | .beaconMissed node => Sys2Proof.Machine.execBeaconMissed node s
  | .confirmationEnd node => Sys2Proof.Machine.execConfirmationEnd node s
  | .heldUnitTimeout c => Sys2Proof.Machine.execHeldUnitTimeout c s
  | .managerListenExpiry => Sys2Proof.Machine.execManagerListenExpiry s
  | .joinRequest device => Sys2Proof.Machine.execJoinRequest device s
  | .joinTime => Sys2Proof.Machine.execJoinTime s
  | .probeTimeout => Sys2Proof.Machine.execProbeTimeout s
  | .joinWaitTimeout => Sys2Proof.Machine.execJoinWaitTimeout s
  | .leaveRequest node => Sys2Proof.Machine.execLeaveRequest node s
  | .standbyCopy => Sys2Proof.Machine.execStandbyCopy s
  | .leaseRenew epoch => Sys2Proof.Machine.execLeaseRenew epoch s
  | .leaseLapse => Sys2Proof.Machine.execLeaseLapse s
  | .standbyGrantLapse => Sys2Proof.Machine.execStandbyGrantLapse s
  | .epochApply c => Sys2Proof.Machine.execEpochApply c s
  | .resyncRequest c => Sys2Proof.Machine.execResyncRequest c s
  | .mirrorNewPartner c node cell v => Sys2Proof.Machine.execMirrorNewPartner c node cell v s
  | .boundaryRecordApplied c rec slip => Sys2Proof.Machine.execBoundaryRecordApplied c rec slip s
  | .migrationSwap c => Sys2Proof.Machine.execMigrationSwap c s
  | .migrationTimeout c => Sys2Proof.Machine.execMigrationTimeout c s
  | .hello service src body => Sys2Proof.Machine.execHello service src body s
  | .finish channel body => Sys2Proof.Machine.execFinish channel body s
  | .close channel rseq tagOk => Sys2Proof.Machine.execClose channel rseq tagOk s
  | .handshakeTimeout channel => Sys2Proof.Machine.execHandshakeTimeout channel s
  | .channelIdleTimeout channel => Sys2Proof.Machine.execChannelIdleTimeout channel s
  | .read r => Sys2Proof.Machine.execRead r s
  | .write r => Sys2Proof.Machine.execWrite r s
  | .segInitDl r => Sys2Proof.Machine.execSegInitDl r s
  | .segInitUl r => Sys2Proof.Machine.execSegInitUl r s
  | .segData r => Sys2Proof.Machine.execSegData r s
  | .segAck r => Sys2Proof.Machine.execSegAck r s
  | .segAbort r => Sys2Proof.Machine.execSegAbort r s
  | .segResendTimeout channel tid => Sys2Proof.Machine.execSegResendTimeout channel tid s
  | .segProgressTimeout channel tid => Sys2Proof.Machine.execSegProgressTimeout channel tid s
  | .nodeReplyTimeout channel tid => Sys2Proof.Machine.execNodeReplyTimeout channel tid s
  | .notifyAck r => Sys2Proof.Machine.execNotifyAck r s
  | .notifyResendTimeout channel nseq => Sys2Proof.Machine.execNotifyResendTimeout channel nseq s
  | .familyWrite channel tid sub v => Sys2Proof.Machine.execFamilyWrite channel tid sub v s
  | .houseTimeWrite channel tid v => Sys2Proof.Machine.execHouseTimeWrite channel tid v s
  | .nonceReq src => Sys2Proof.Machine.execNonceReq src s
  | .provisionIdentity src order => Sys2Proof.Machine.execProvisionIdentity src order s
  | .provisionCertificates src order => Sys2Proof.Machine.execProvisionCertificates src order s
  | .operatorRootBind key => Sys2Proof.Machine.execOperatorRootBind key s
  | .lifecycleOrder doc => Sys2Proof.Machine.execLifecycleOrder doc s
  | .registration doc => Sys2Proof.Machine.execRegistration doc s
  | .revocation doc => Sys2Proof.Machine.execRevocation doc s
  | .consent doc => Sys2Proof.Machine.execConsent doc s
  | .keyExpiry keyid => Sys2Proof.Machine.execKeyExpiry keyid s
  | .quoteNonceWrite channel tid nonce => Sys2Proof.Machine.execQuoteNonceWrite channel tid nonce s
  | .quoteRead channel tid => Sys2Proof.Machine.execQuoteRead channel tid s
  | .tenderRequest r => Sys2Proof.Machine.execTenderRequest r s
  | .healthReport => Sys2Proof.Machine.execHealthReport s
  | .keeperRestartRequest => Sys2Proof.Machine.execKeeperRestartRequest s
  | .keeperFirmwareWatchdog => Sys2Proof.Machine.execKeeperFirmwareWatchdog s
  | .keeperRestartComplete retentionOk late => Sys2Proof.Machine.execKeeperRestartComplete retentionOk late s
  | .minuteStart t => Sys2Proof.Machine.execMinuteStart t s
  | .meteringSeal c t => Sys2Proof.Machine.execMeteringSeal c t s
  | .meterAck recseq => Sys2Proof.Machine.execMeterAck recseq s
  | .idLoRead c k => Sys2Proof.Machine.execIdLoRead c k s
  | .activate k => Sys2Proof.Machine.execActivate k s
  | .slotCommit k => Sys2Proof.Machine.execSlotCommit k s
  | .handoverWindowOpen => Sys2Proof.Machine.execHandoverWindowOpen s
  | .tenderReady tickets => Sys2Proof.Machine.execTenderReady tickets s
  | .handoverTimeout => Sys2Proof.Machine.execHandoverTimeout s
  | .debugRead tgt addr => Sys2Proof.Machine.execDebugRead tgt addr s
  | .debugWrite tgt addr data => Sys2Proof.Machine.execDebugWrite tgt addr data s
  | .debugHalt tgt => Sys2Proof.Machine.execDebugHalt tgt s
  | .haltEffect c => Sys2Proof.Machine.execHaltEffect c s
  | .debugResume tgt => Sys2Proof.Machine.execDebugResume tgt s
  | .debugStep tgt => Sys2Proof.Machine.execDebugStep tgt s
  | .stepComplete c => Sys2Proof.Machine.execStepComplete c s
  | .debugInject tgt bits => Sys2Proof.Machine.execDebugInject tgt bits s
  | .debugLineReset => Sys2Proof.Machine.execDebugLineReset s
  | .portReq v => Sys2Proof.Machine.execPortReq v s
  | .portResp v => Sys2Proof.Machine.execPortResp v s
  | .portSubmit v => Sys2Proof.Machine.execPortSubmit v s
  | .unlockVerdict => Sys2Proof.Machine.execUnlockVerdict s
  | .portRelock v => Sys2Proof.Machine.execPortRelock v s
  | .consentExpiry => Sys2Proof.Machine.execConsentExpiry s
  | .debugLevelWrite c level => Sys2Proof.Machine.execDebugLevelWrite c level s
  | .debugTunnelRequest channel c req => Sys2Proof.Machine.execDebugTunnelRequest channel c req s
  | .traceRemove c n => Sys2Proof.Machine.execTraceRemove c n s
  | .traceWordRead c => Sys2Proof.Machine.execTraceWordRead c s
  | .stimPortWrite c k v => Sys2Proof.Machine.execStimPortWrite c k v s
  | .ridgePowerUpDone r => Sys2Proof.Machine.execRidgePowerUpDone r s
  | .deviceResetCommand v => Sys2Proof.Machine.execDeviceResetCommand v s
  | .roleSample role testN => Sys2Proof.Machine.execRoleSample role testN s
  | .ddrTrainingComplete d => Sys2Proof.Machine.execDdrTrainingComplete d s
  | .brownoutHoldBegin mv => Sys2Proof.Machine.execBrownoutHoldBegin mv s
  | .vddCoreReset mv => Sys2Proof.Machine.execVddCoreReset mv s
  | .supplySample r => Sys2Proof.Machine.execSupplySample r s
  | .temperatureReading sensors => Sys2Proof.Machine.execTemperatureReading sensors s
  | .ridgePllLockLoss r => Sys2Proof.Machine.execRidgePllLockLoss r s
  | .ridgeFault r => Sys2Proof.Machine.execRidgeFault r s
  | .gpioFunctionWrite p code => Sys2Proof.Machine.execGpioFunctionWrite p code s
  | .gpioHoldEnd p => Sys2Proof.Machine.execGpioHoldEnd p s
  | .gpioOptionsWrite p v => Sys2Proof.Machine.execGpioOptionsWrite p v s
  | .vrhotN high => Sys2Proof.Machine.execVrhotN high s
  | .adcConversion ch microvolts => Sys2Proof.Machine.execAdcConversion ch microvolts s
  | .keyxTimeout c => Sys2Proof.Machine.execKeyxTimeout c s
  | .vddCoreHoldLevelCrossing mv => Sys2Proof.Machine.execVddCoreHoldLevelCrossing mv s
  | .uplinkLinkChange lane n up => Sys2Proof.Machine.execUplinkLinkChange lane n up s
  | .serviceLinkChange up => Sys2Proof.Machine.execServiceLinkChange up s
  | .smbUnlistedCommand code => Sys2Proof.Machine.execSmbUnlistedCommand code s
  | .designatedStandbyWrite channel tid node => Sys2Proof.Machine.execDesignatedStandbyWrite channel tid node s
  | .powerRequestParked => Sys2Proof.Machine.execPowerRequestParked s
  | .powerRequestIdle => Sys2Proof.Machine.execPowerRequestIdle s
  | .pwrOkFall => Sys2Proof.Machine.execPwrOkFall s
  | .resetNLow => Sys2Proof.Machine.execResetNLow s
  | .resetRelease => Sys2Proof.Machine.execResetRelease s
  | .brownoutHoldEnd => Sys2Proof.Machine.execBrownoutHoldEnd s
  | .vddAonLow => Sys2Proof.Machine.execVddAonLow s
  | .refclkLoss => Sys2Proof.Machine.execRefclkLoss s
  | .crystalLoss => Sys2Proof.Machine.execCrystalLoss s
  | .lockstepMismatch => Sys2Proof.Machine.execLockstepMismatch s
  | .ringPathFault => Sys2Proof.Machine.execRingPathFault s
  | .smbReadRevision => Sys2Proof.Machine.execSmbReadRevision s
  | .smbReadStatus => Sys2Proof.Machine.execSmbReadStatus s
  | .smbReadTemperature => Sys2Proof.Machine.execSmbReadTemperature s
  | .smbReadTemperatureMax => Sys2Proof.Machine.execSmbReadTemperatureMax s
  | .smbReadVddCore => Sys2Proof.Machine.execSmbReadVddCore s
  | .smbReadVddCoreMin => Sys2Proof.Machine.execSmbReadVddCoreMin s
  | .smbReadResetKind => Sys2Proof.Machine.execSmbReadResetKind s
  | .smbReadDeviceId => Sys2Proof.Machine.execSmbReadDeviceId s
  | .smbAlertResponse => Sys2Proof.Machine.execSmbAlertResponse s
  | .refclkReturn => Sys2Proof.Machine.execRefclkReturn s
  | .deviceResetEnd => Sys2Proof.Machine.execDeviceResetEnd s
  | .healthReportMissed => Sys2Proof.Machine.execHealthReportMissed s
  | .powerTransitionComplete => Sys2Proof.Machine.execPowerTransitionComplete s
  | .syncLeaseAgeExpiry => Sys2Proof.Machine.execSyncLeaseAgeExpiry s
  | .debugFrameCrcError => Sys2Proof.Machine.execDebugFrameCrcError s
  | .houseTimeSourceLoss => Sys2Proof.Machine.execHouseTimeSourceLoss s

end Sys2Proof.Machine
end

