-- ==== Sys2Proof/Safety.lean ====
section
/-! DEFINITION. What counts as a safe run, and the terms in which claims say what a command leaves alone. -/

namespace Sys2Proof

/-- A step from this state answers a next state: it stops with no fault and no refusal. -/
def Safe (s : Machine.State) : Prop := ∃ t, Machine.step s = .next t

namespace Machine

/-! ## Forms that every step keeps -/

/-- Every memory of a cell is in canonical form. -/
def Store.wf (m : Store) : Bool := m.pram.wf && m.wram.wf && m.vram.wf && m.asset.wf && m.ovA.wf && m.ovB.wf

/-- The memories and the register file of a cell are in canonical form. -/
def Cell.wf (c : Cell) : Bool := c.mem.wf && Sparse.wf regReset c.regs

/-- The dictionary's values are in canonical form. -/
def State.objsWf (s : State) : Bool := Sparse.wf objDefault s.objs

/-- Between steps no cell has an event that has not been handed on. -/
def State.quiet (s : State) : Prop := ∀ c, (s.cell c).outbox = []

/-- The memories, the registers and the dictionary are in canonical form. -/
def State.canonical (s : State) : Prop := s.objsWf = true ∧ ∀ c, (s.cell c).wf = true

/-! ## What a command of one cell leaves alone -/

/-- The parts of the device that no command of a cell changes. -/
structure SameDevice (s t : State) : Prop where
  pending : t.pending = s.pending
  ridges  : t.ridges = s.ridges
  house   : t.house = s.house
  keeper  : t.keeper = s.keeper
  port    : t.port = s.port
  cores   : t.cores = s.cores
  power   : t.power = s.power
  pins    : t.pins = s.pins

/-- Only cell `c`, and what its events reach (records, notifications, meters, traces, the mirror), changes. -/
def OnlyCell (c : CellId) (s t : State) : Prop := SameDevice s t ∧ ∀ d, d ≠ c → t.cell d = s.cell d

/-- Every register but those listed holds the value it held. -/
def RegsOnly (offs : List Nat) (x y : Cell) : Prop := ∀ o, o ∉ offs → y.reg o = x.reg o

/-- An instruction that touches no memory, no register block and no engine: of the cell only the processor's registers, its
counters and pc, the beam position and the clocks of timers and watchdog window change, and the block-copy write-backs that
were due take effect (R27, R168). -/
structure ProcessorOnly (x y : Cell) : Prop where
  mem  : y.mem = x.bltFlush.mem
  regs : y.regs = x.bltFlush.regs
  pic  : y.pic = x.pic
  blt  : y.blt = { x.blt with wb := [] }
  dma  : y.dma = x.dma
  aud  : y.aud = x.aud
  enc  : y.enc = x.enc
  str  : y.str = x.str
  sess : y.sess = x.sess
  evt  : y.evt = x.evt
  tmr  : y.tmr = { x.tmr with presc := y.tmr.presc, window := y.tmr.window }
  beam : y.beam = { x.beam with fpos := y.beam.fpos }
  cpu  : y.cpu = { x.cpu with
    x := y.cpu.x, pc := y.cpu.pc, mcycle := y.cpu.mcycle, minstret := y.cpu.minstret, dbg := y.cpu.dbg }

/-- May the processor begin an instruction of this length, with every halfword of it fetched (R28, R31, R34, R49)? -/
def Ready (x : Cell) (short : Bool) : Prop := x.cpuReady = true ∧ x.fetchFault (if short then 2 else 4) = none

/-- Address of the instruction that follows one of this length. -/
def nextPc (x : Cell) (short : Bool) : Word := x.cpu.pc + if short then 2 else 4

/-- An instruction retired: its counted cycles passed, minstret counted it, pc moved (R27, R32). -/
structure Retired (x y : Cell) (cycles : Nat) (pc : Word) : Prop where
  pc     : y.cpu.pc = pc
  beam   : y.beam.fpos = x.beam.fpos + cycles
  mcycle : y.cpu.mcycle = if x.cpu.cy then x.cpu.mcycle else x.cpu.mcycle + BitVec.ofNat 64 cycles
  minst  : y.cpu.minstret = if x.cpu.ir then x.cpu.minstret else x.cpu.minstret + 1

/-- Register `rd` takes `v`, x0 staying 0, and the other registers keep their values. -/
def GprOnly (rd : Reg) (v : Word) (x y : Cell) : Prop :=
  y.x rd = (if rd = 0 then 0 else v) ∧ ∀ r, r ≠ rd → y.x r = x.x r

/-- Destination of an instruction of the first line of R27's table, and the value it writes. -/
def aluDest : AluInstr → Reg
  | .reg _ rd _ _ => rd
  | .imm _ rd _ _ => rd
  | .shift _ rd _ _ => rd
  | .unary _ rd _ => rd
  | .lui rd _ => rd
  | .auipc rd _ => rd

def aluValue (x : Cell) : AluInstr → Word
  | .reg op _ a b => aluOp op (x.x a) (x.x b)
  | .imm op _ a v => immOp op (x.x a) v
  | .shift op _ a k => shiftOp op (x.x a) k
  | .unary op _ a => unaryOp op (x.x a)
  | .lui _ v => v.setWidth 32 <<< 12
  | .auipc _ v => x.cpu.pc + (v.setWidth 32 <<< 12)

/-- A trap was taken: four cycles; mepc, mcause and mtval; interrupts off; pc at the handler, vectored for an interrupt when
mtvec says so (R27, R32). No instruction retired. -/
structure Trapped (x y : Cell) (cause tval : Word) : Prop where
  pc     : y.cpu.pc = (x.cpu.mtvec &&& ~~~3) +
    if x.cpu.mtvec.getLsbD 0 && cause.getLsbD 31 then (cause &&& 0x7FFFFFFF#32) * 4 else 0
  beam   : y.beam.fpos = x.beam.fpos + 4
  minst  : y.cpu.minstret = x.cpu.minstret
  mepc   : y.cpu.mepc = x.cpu.pc &&& ~~~1
  mcause : y.cpu.mcause = cause
  mtval  : y.cpu.mtval = tval
  mpie   : y.cpu.mpie = x.cpu.mie
  mie    : y.cpu.mie = false
  gprs   : ∀ r, y.x r = x.x r

/-- The same parts of a cell as in `ProcessorOnly`, the processor aside. -/
structure EnginesKept (x y : Cell) : Prop where
  mem  : y.mem = x.bltFlush.mem
  regs : y.regs = x.bltFlush.regs
  pic  : y.pic = x.pic
  blt  : y.blt = { x.blt with wb := [] }
  dma  : y.dma = x.dma
  aud  : y.aud = x.aud
  enc  : y.enc = x.enc
  str  : y.str = x.str
  sess : y.sess = x.sess
  evt  : y.evt = x.evt

/-- A waiting processor's cell at the counted cycle from which MEIP shows the source event that raised it (R41, R42): `y` is
`x` there, with no other command due before. -/
def Cell.awaitsIrq (x y : Cell) : Prop :=
  x.meip = true ∧ y = x.advanceTo x.evt.irqFrom ∧ (x.evt.irqFrom ≤ x.beam.fpos ∨ x.mayIdleTo x.evt.irqFrom = true) ∧
    y.meipSeen = true

/-- A command that touches register contents alone: everything of the cell but its register file, the dirty flag of the
picture and the marks of counts above their periods is as it was (R84, R201). -/
structure RegistersOnly (x y : Cell) : Prop where
  cpu  : y.cpu = x.cpu
  beam : y.beam = x.beam
  mem  : y.mem = x.mem
  blt  : y.blt = x.blt
  dma  : y.dma = x.dma
  aud  : y.aud = x.aud
  enc  : y.enc = x.enc
  str  : y.str = x.str
  sess : y.sess = x.sess
  evt  : y.evt.irqFrom = x.evt.irqFrom
  pic  : y.pic = { x.pic with dirty := y.pic.dirty }
  tmr  : y.tmr = { x.tmr with above := y.tmr.above }

/-- A cell whose registers a program stores to: its beam runs, and `x` is the cell behind a store that lies before, with no
event waiting and its register file in canonical form. -/
structure Live (s : State) (c : CellId) (x : Cell) : Prop where
  runs : (s.cell c).running = true
  eq   : (s.cell c).flush = x
  out  : x.outbox = []
  wf   : Sparse.wf regReset x.regs = true

/-- A cell whose beam runs and that a beam event finds as `x`: no event waits, no store lies before, its register file is in
canonical form. -/
structure Beaming (s : State) (c : CellId) (x : Cell) : Prop where
  runs : x.running = true
  eq   : s.cell c = x
  out  : x.outbox = []
  free : x.cpu.straddle = none
  wf   : Sparse.wf regReset x.regs = true

/-- The registers whose bits follow R8 and R10 alone: status registers, enables and settings without a behaviour of their
own, one for each block. -/
def plainRegisters : List Nat :=
  [Reg.CELL_DIVSTAT, Reg.CELL_DIVINFO, Reg.RST_STAT, Reg.RST_IEN, Reg.RST_LCMP, Reg.RST_UFCOL, Reg.RST_VTIME,
    Reg.PLN_PMAP, Reg.PLN_PSCR, Reg.PLN_BADDR, Reg.PLN_BSTAT, Reg.PLN_BIEN, Reg.SPR_TAB, Reg.SPR_STAT, Reg.SPR_IEN,
    Reg.LNL_DIR, Reg.LNL_STAT, Reg.LNL_IEN, Reg.CMP_CTL, Reg.CMP_BACKDROP, Reg.CMP_STACK, Reg.SIG_STAT, Reg.SIG_IEN,
    Reg.SIG_RGNCTL, Reg.BLT_STAT, Reg.BLT_IEN, Reg.BLT_WM, Reg.DMA_STAT, Reg.DMA_IEN, Reg.DMA_EVT, Reg.DMA_TAGF,
    Reg.TMR_PER, Reg.TMR_CMP, Reg.TMR_STAT, Reg.TMR_IEN, Reg.WDG_STAT, Reg.INTC_EN, Reg.INTC_PRIO0, Reg.INTC_THRESH,
    Reg.AUD_STAT, Reg.AUD_IEN, Reg.AUD_VEND, Reg.AUD_PIDX, Reg.AUD_SVSTEP, Reg.INP_STAT, Reg.INP_IEN, Reg.INP_RPT,
    Reg.STIM_EN, Reg.STIM_CTL, Reg.ID_SESSLO]

/-! ## What a command of the device leaves alone -/

/-- The cells and what belongs to them alone, and the blocks that only their own commands change; house timing, ring,
network, dictionary, metering and outputs may change. -/
structure CellsKept (s t : State) : Prop where
  pending : t.pending = s.pending
  cells   : t.cells = s.cells
  ridges  : t.ridges = s.ridges
  keeper  : t.keeper = s.keeper
  port    : t.port = s.port
  cores   : t.cores = s.cores
  power   : t.power = s.power
  pins    : t.pins = s.pins

/-- State of the house-lock loop after a qualifying edge that makes `good` consecutive ones, at a phase error (R69). -/
def loopAfter (l : LockState) (good : Nat) (phaseError : Int) : LockState := match l with
  | .acquire => if 8 ≤ good then .pullin else .acquire
  | .holdover => if 8 ≤ good then .pullin else .holdover
  | .pullin => if phaseError.natAbs ≤ 32 then .locked else .pullin
  | .locked => if 64 < phaseError.natAbs then .pullin else .locked

/-- Do PULLIN and LOCKED hold: does the loop track the house? -/
def LockState.tracking (l : LockState) : Bool := l == .locked || l == .pullin

/-- A datagram on the input port of the active manager that passes steps 1 and 2 of R287 for a session. -/
structure InputFor (s : State) (u : Bytes) (h : RingSession) : Prop where
  up      : s.up = true
  manager : s.isManager = true
  formed  : inputFormed u = true
  host    : ((s.hosts.filter RingSession.admitted).find? fun h => decide (h.session = field u 4 8 ∧ h.role ≠ 2)) = some h

/-- What step 3 of R287 makes of a datagram for a session: its payload when its tag verifies. -/
def opened (u : Bytes) (h : RingSession) : Option Bytes :=
  Config.gcmOpen h.key (inputIv h.salt 0 (field u 2 1) (field u 12 4)) (u.take 16) (u.drop 16)

/-- Frame that an IDR which the manager stamps now is for, at the earliest (R253). -/
def State.idrFrame (s : State) (session : Nat) : Nat := match s.cellOf session with
  | some c => (s.cell c).beam.frame + 2
  | none => s.edgeFrame session + 2

/-- Is a session's stamped message for a cell (R290)? -/
def State.takesStamped (s : State) (c : CellId) (m : Bytes) : Bool :=
  decide (2 ≤ (s.cell c).sess.state.code ∧ (s.cell c).sess.state.code ≤ 5) && (s.cell c).sessionId == stampedSession m

/-- The device as the repeated checks of a RESUME find it. -/
def State.resumeSeen (s : State) (c : CellId) (tm : Nat) (v : RingView) : State :=
  let x := s.cell c
  ((s.at tm).setCell c { x with sess := { x.sess with pending := some (.resume, 0), view := some v } }).result c 0

/-- What the repeated checks of a RESUME find (R325). -/
def State.resumeRefusal (s : State) (c : CellId) (tm : Nat) (v : RingView) : Option AdmitFault :=
  let s1 := s.resumeSeen c tm v
  let x := s1.cell c
  let e := s1.admitEnv c v
  let φ := x.choosePhase e
  firstRefusal ((x.admitChecks e ⟨c.val, φ.getD 0, s1.house.time, s1.power.ticket⟩ φ).filter fun q => resumeCode q.1)

/-- The verdict of the admission calculus on a cell (R313). -/
def State.verdict (s : State) (c : CellId) (v : RingView) : AdmitFault ⊕ Cell :=
  (s.cell c).calculus (s.admitEnv c v) ⟨c.val, 0, s.house.time, s.power.ticket + 1⟩

/-! ## Ring frames -/

/-- The row of a ring frame that arrives on a port (R333); a PROBE_REPLY comes with its round trip. -/
def frameRow (p : PortSide) (f : RingFrame) (roundTrip : Nat) : Option Instr := match f.cls, f.typ with
  | .sync, _ => some (.syncFrame p f)
  | .beacon, _ => some (.beacon p f)
  | .input, _ => none
  | .stream, _ => some (.streamFrame p f)
  | .dict, _ => some (.dictFrame p f)
  | .state, _ => some (.stateFrame p f)
  | .control, 0 => some (.topo p f)
  | .control, 1 => some (.probe p f)
  | .control, 2 => some (.probeReply p f roundTrip)
  | .control, 3 => some (.join p f)
  | .control, 4 => some (.leave p f)
  | .control, 5 => some (.promoted p f)
  | .control, 6 => some (.epoch p f)
  | .control, 7 => some (.active p f)
  | .control, 8 => some (.resync p f)
  | .control, 9 => some (.switch p f)
  | .control, 10 => some (.stamp p f)
  | .control, 11 => some (.keyx p f)
  | .control, 12 => some (.role p f)
  | .control, _ => none

/-- A frame as the node sends it on: one hop less, and in a SYNC the delay and latency of R342 added to ACCUM. -/
def State.onward (s : State) (p : PortSide) (f : RingFrame) : RingFrame :=
  if f.cls = .sync then s.syncOnward p { f with hops := f.hops - 1 } else { f with hops := f.hops - 1 }

/-- The node has heard the sender of a frame, and noted the first copy of a broadcast (R334, R346). -/
def State.arrived (s : State) (f : RingFrame) : State :=
  let s1 := s.setRing (s.ring.hear f.src)
  if f.bcast then s1.setRing (s1.ring.noteCopy f) else s1

/-- A frame that this node takes and that ends its way here: intact, addressed to it or the first copy of a broadcast. -/
structure Taken (s : State) (f : RingFrame) : Prop where
  running : s.power.phase = .running
  intact  : f.crcOk = true
  unicast : f.bcast = false → f.dst = s.ring.node
  bcast   : f.bcast = true → f.hops ≤ 1 ∧ s.ring.firstCopy f = true

/-! ## Dictionary messages -/

/-- A record that the device accepts on an open channel, with a message that this device serves now (R369, R372, R373). -/
structure Heard (s : State) (c : Channel) (r : DictRec) : Prop where
  chan  : s.channel c.id = some c
  opn   : c.isOpen = true
  same  : r.channel = c.id
  tag   : r.tagOk = true
  takes : c.takes r.rseq = true
  low   : r.rseq + 1 < 2 ^ 32
  room  : c.txSeq + 64 < 2 ^ 32
  now   : s.mustWait r.msg = false
  size  : r.msg.data.length ≤ 1024
  here  : r.msg.node = 0xFF
  flags : r.msg.flags < 2

/-- A TID that the channel has not used among the replies it keeps, and that no request carried to another node has. -/
structure NewTid (s : State) (c : Channel) (tid : Nat) : Prop where
  fresh : (c.replies.find? fun q => q.1 = tid) = none
  alone : (s.dict.forwards.any fun f => f.channel == c.id && f.tid == tid) = false

/-- An open channel that asks with a new TID while Tender serves. -/
structure Asks (s : State) (c : Channel) (tid : Nat) : Prop where
  chan : s.channel c.id = some c
  opn  : c.isOpen = true
  room : c.txSeq + 64 < 2 ^ 32
  now  : s.noTender = false
  new  : NewTid s c tid

/-- A message from this device in answer to another: same TID, INDEX and SUB (R373). -/
def State.back (s : State) (m : DictMsg) (mtype aux : Nat) (data : Bytes) : DictMsg :=
  { m with node := s.ring.node % 256, mtype := mtype, flags := 0, aux := aux, data := data }

/-- MTYPE, AUX and DATA of the reply to a READ (R363, R373, R378). -/
def State.readReply (s : State) (who : Client) (m : DictMsg) : Nat × Nat × Bytes :=
  let e := s.accessError who m.index m.sub false
  if e ≠ 0 then (5, e, [])
  else if s.downloading m.index m.sub then (5, 0x09, [])
  else match s.readValue who m.index m.sub with
    | .inl e => (5, e, [])
    | .inr bs => if 1024 < bs.length then (5, 0x0D, []) else (3, 0, bs)

/-- The one reply of a request went out on its channel and is kept for its TID (R374, R375). -/
structure Replied (s t : State) (c : Channel) (q : DictMsg) : Prop where
  kept : ∃ d, t.channel c.id = some d ∧ d.replies.getLast? = some (q.tid, q) ∧ d.txSeq = c.txSeq + 1 ∧ d.isOpen = true
  sent : t.tx = (s.sendMsg c.id q).tx

/-- The number of a channel's notification is not among those it waits for, and every channel queue has settled it there. -/
def State.settled (s : State) (id nseq num : Nat) : Prop :=
  (∀ d, s.channel id = some d → ∀ x ∈ d.sent, x.nseq ≠ nseq) ∧
  ∀ q ∈ s.dict.queues, ∀ n ∈ q.notes, n.num = num → id ∈ n.done

/-- Subindexes of the device whose write stores a value and has no other effect at once. -/
def storedObjects : List (Nat × Nat) :=
  [(0x1100, 3), (0x1101, 1), (0x2000, 8), (0x2001, 2), (0x2001, 3), (0x2031, 8), (0x4100, 3), (0x6001, 1)]

/-! ## Debug and power -/

/-- A cell that the debug port reaches at level FULL while its counted cycles pass; no frame and no operation is
outstanding (R420, R421, R424, R437). -/
structure Debugged (s : State) (c : CellId) : Prop where
  free   : s.inReset = false
  idle   : s.port.pending = none
  on     : s.port.powered = true
  queue  : (s.dbg[c]).waiting = []
  level  : s.effLevel c = 2
  counts : (s.cell c).counting = true
  out    : (s.cell c).outbox = []

/-- The device as a device reset of a kind leaves it: every cell, register, object and channel as in reset, BYPASS_N not
driven; fuses, boot flash and written at-reset values kept (R365, R390, R452). -/
structure InReset (s t : State) (kind : Nat) : Prop where
  phase  : t.power.phase = .reset
  kind   : t.power.kind = kind
  cells  : t.cells = State.reset.cells
  objs   : t.objs = State.reset.objs
  dict   : t.dict = State.reset.dict
  ring   : t.ring = State.reset.ring
  bypass : t.pins.bypass = none
  life   : t.keeper.lifecycle = s.keeper.lifecycle
  seed   : t.keeper.seed = s.keeper.seed
  keys   : t.keeper.registry = s.keeper.registry
  gone   : t.keeper.keys = [] ∧ t.keeper.records = []
  stored : t.power.stored = s.power.stored

/-! ## Bounds that the spec gives Keeper and the debug port -/

/-- A legal lifecycle state, at most 4 operator roots, 256 registered keys and 4,096 sealed records, and a port level and a
requested level of at most FULL (R390, R395, R407, R421, R428). -/
structure State.bounded (s : State) : Prop where
  life     : s.keeper.lifecycle ≤ 3
  roots    : s.keeper.roots.length ≤ 4
  registry : s.keeper.registry.length ≤ 256
  records  : s.keeper.records.length ≤ 4096
  level    : s.port.level ≤ 2
  request  : s.port.request ≤ 2

end Machine

end Sys2Proof
end

