-- ==== Sys2Proof/Certificates/Slice0/Obligations.lean ====
section
/-! DEFINITION. The statements for the provers. Cited rules are those of spec/; where a statement rests on a choice of the
model its docstring says so and names the log entry. -/

open Sys2Proof Sys2Proof.Machine

/-! ## Steps, reset, invariants -/

/-- A step takes the command at the front of the queue and runs it on the state with the rest of the queue; with no command
waiting the block idles (the model's choice, log entry 2). -/
def Obligations.StepRunsFrontCommand : Prop :=
  (∀ (s : State) (i : Instr) (rest : List Instr),
    step { s with pending := i :: rest } = exec i { s with pending := rest }) ∧
  (∀ s : State, s.pending = [] → step s = .next s)

/-- At reset the memories, registers and objects are in canonical form, no event waits, every cell is FREE and as a cell reset
leaves it, the ring has no node number, BYPASS_N is not driven, and Keeper and the port keep within their bounds
(R323, R337, R390, R407, R428, R452). -/
def Obligations.ResetHolds : Prop :=
  State.reset.canonical ∧ State.reset.quiet ∧ State.reset.bounded ∧ State.reset.pending = [] ∧
    (∀ c, State.reset.cell c = Cell.reset ∧ (State.reset.cell c).sess.state = .free) ∧ State.reset.ring.node = 0xFF ∧
    State.reset.pins.bypass = none ∧ State.reset.power.phase = .reset ∧ State.reset.tx = []

/-- The invariant of the stored forms: a step from a state whose memories, registers and objects are in canonical form, with no
event waiting between steps, answers such a state, whatever the command. -/
def Obligations.CanonicalKept : Prop :=
  ∀ s t : State, s.canonical → s.quiet → step s = .next t → t.canonical ∧ t.quiet

/-- The bounds of Keeper and of the debug port hold through every step: a legal lifecycle state, at most 4 roots, 256 keys and
4,096 records, and a port level of at most FULL (R390, R395, R407, R421, R428). -/
def Obligations.BoundsKept : Prop := ∀ s t : State, s.bounded → step s = .next t → t.bounded

/-! ## Cell processor -/

/-- ALU, MUL and DIV instructions write rd from their operands, take 1, 2 and 34 counted cycles, move pc past themselves and
retire; x0 stays 0; nothing else of the cell and nothing of the device changes (R26, R27). `x` is the cell behind a store
whose fourth cycle lies before. -/
def Obligations.ArithmeticInstructions : Prop :=
  ∀ (s : State) (c : CellId) (x : Cell), (s.cell c).flush = x → x.outbox = [] →
    (∀ i short, Ready x short → ∃ t, exec (.aluInstruction c i short) s = .next t ∧ OnlyCell c s t ∧
      ProcessorOnly x (t.cell c) ∧ Retired x (t.cell c) 1 (nextPc x short) ∧
      GprOnly (aluDest i) (aluValue x i) x (t.cell c)) ∧
    (∀ op rd a b, Ready x false → ∃ t, exec (.mul c op rd a b) s = .next t ∧ OnlyCell c s t ∧
      ProcessorOnly x (t.cell c) ∧ Retired x (t.cell c) 2 (nextPc x false) ∧
      GprOnly rd (mulOp op (x.x a) (x.x b)) x (t.cell c)) ∧
    (∀ op rd a b, Ready x false → ∃ t, exec (.div c op rd a b) s = .next t ∧ OnlyCell c s t ∧
      ProcessorOnly x (t.cell c) ∧ Retired x (t.cell c) 34 (nextPc x false) ∧
      GprOnly rd (divOp op (x.x a) (x.x b)) x (t.cell c))

/-- BRANCH takes 3 cycles to its target or 1 to the next instruction; JAL and JALR take 3, link the next instruction and jump,
JALR to an even address; FENCE takes 1 and does nothing; MRET takes 4, goes to mepc, restores MIE from MPIE and sets MPIE
(R27). -/
def Obligations.ControlTransferInstructions : Prop :=
  ∀ (s : State) (c : CellId) (x : Cell), (s.cell c).flush = x → x.outbox = [] →
    (∀ op a b off short, Ready x short → ∃ t, exec (.branch c op a b off short) s = .next t ∧ OnlyCell c s t ∧
      ProcessorOnly x (t.cell c) ∧ (∀ r, (t.cell c).x r = x.x r) ∧
      (if branchTaken op (x.x a) (x.x b) then Retired x (t.cell c) 3 (x.cpu.pc + sext off)
        else Retired x (t.cell c) 1 (nextPc x short))) ∧
    (∀ rd off short, Ready x short → ∃ t, exec (.jalJalr c (.jal rd off) short) s = .next t ∧ OnlyCell c s t ∧
      ProcessorOnly x (t.cell c) ∧ Retired x (t.cell c) 3 (x.cpu.pc + sext off) ∧
      GprOnly rd (nextPc x short) x (t.cell c)) ∧
    (∀ rd a off short, Ready x short → ∃ t, exec (.jalJalr c (.jalr rd a off) short) s = .next t ∧ OnlyCell c s t ∧
      ProcessorOnly x (t.cell c) ∧ Retired x (t.cell c) 3 ((x.x a + sext off) &&& ~~~1) ∧
      GprOnly rd (nextPc x short) x (t.cell c)) ∧
    (Ready x false → ∃ t, exec (.fence c) s = .next t ∧ OnlyCell c s t ∧ ProcessorOnly x (t.cell c) ∧
      (∀ r, (t.cell c).x r = x.x r) ∧ Retired x (t.cell c) 1 (nextPc x false)) ∧
    (Ready x false → ∃ t, exec (.mret c) s = .next t ∧ OnlyCell c s t ∧ EnginesKept x (t.cell c) ∧
      (∀ r, (t.cell c).x r = x.x r) ∧ Retired x (t.cell c) 4 x.cpu.mepc ∧ (t.cell c).cpu.mie = x.cpu.mpie ∧
      (t.cell c).cpu.mpie = true ∧ (t.cell c).cpu.mepc = x.cpu.mepc ∧ (t.cell c).cpu.mcause = x.cpu.mcause ∧
      (t.cell c).cpu.mtval = x.cpu.mtval)

/-- LOAD: an aligned load of readable memory takes 2 cycles, 3 from VRAM, and writes the extended bytes; a word load of a
register takes 6 and writes what the register samples in the first cycle, with the latch that the read has; a misaligned one
and one of an address that may not be read trap with the address in mtval (R27, R34 to R38, R49). -/
def Obligations.LoadInstruction : Prop :=
  ∀ (s : State) (c : CellId) (x : Cell), (s.cell c).flush = x → x.outbox = [] →
    ∀ op rd a off short, Ready x short → ∀ addr : Word, x.x a + sext off = addr →
      (addr.toNat % op.bytes ≠ 0 → ∃ t, exec (.load c op rd a off short) s = .next t ∧ OnlyCell c s t ∧
        EnginesKept x (t.cell c) ∧ Trapped x (t.cell c) 4 addr) ∧
      (addr.toNat % op.bytes = 0 → x.access addr.toNat op.bytes false = .fault →
        ∃ t, exec (.load c op rd a off short) s = .next t ∧ OnlyCell c s t ∧
          EnginesKept x (t.cell c) ∧ Trapped x (t.cell c) 5 addr) ∧
      (∀ r o, addr.toNat % op.bytes = 0 → x.access addr.toNat op.bytes false = .mem r o →
        x.badIn r o (o + op.bytes) = false → ∃ t, exec (.load c op rd a off short) s = .next t ∧ OnlyCell c s t ∧
          ProcessorOnly x (t.cell c) ∧ Retired x (t.cell c) (if r = .vram then 3 else 2) (nextPc x short) ∧
          GprOnly rd (op.extend (leNat ((x.mem.region r).readBytes o op.bytes))) x (t.cell c)) ∧
      (∀ o, addr.toNat % op.bytes = 0 → x.access addr.toNat op.bytes false = .reg o →
        ∃ t, exec (.load c op rd a off short) s = .next t ∧ OnlyCell c s t ∧ ProcessorOnly (x.readEffect o) (t.cell c) ∧
          Retired x (t.cell c) 6 (nextPc x short) ∧ GprOnly rd (x.loadReg o) x (t.cell c))

/-- A load that reads an uncorrectable word traps with the address and records MEM_UNCORR; so does a fetch. No address of
PRAM and none of the asset window may be stored to, none of the asset window loaded from, and a register takes words only
(R31, R34 to R37). -/
def Obligations.MemoryFaults : Prop :=
  (∀ (s : State) (c : CellId) (x : Cell), (s.cell c).flush = x → x.outbox = [] → Sparse.wf regReset x.regs = true →
    x.blt.wb = [] →
    (∀ op rd a off short r o, Ready x short → (x.x a + sext off).toNat % op.bytes = 0 →
      x.access (x.x a + sext off).toNat op.bytes false = .mem r o → x.badIn r o (o + op.bytes) = true →
      ∃ t, exec (.load c op rd a off short) s = .next t ∧ OnlyCell c s t ∧
        Trapped x (t.cell c) 5 (x.x a + sext off) ∧ (t.cell c).rbit Reg.CELL_DIVSTAT 4 = true ∧ (t.cell c).mem = x.mem) ∧
    (∀ i short addr, x.cpuReady = true → x.fetchFault (if short then 2 else 4) = some (addr, true) →
      ∃ t, exec (.aluInstruction c i short) s = .next t ∧ OnlyCell c s t ∧ Trapped x (t.cell c) 1 addr ∧
        (t.cell c).rbit Reg.CELL_DIVSTAT 4 = true ∧ (t.cell c).mem = x.mem)) ∧
  (∀ (x : Cell) (a n : Nat),
    (a < 0x80000 → x.access a n true = .fault) ∧
    (0x80000000 ≤ a → ∀ w, x.access a n w = .fault) ∧
    (0x40000000 ≤ a ∧ a < 0x40010000 → n ≠ 4 → ∀ w, x.access a n w = .fault))

/-- STORE to memory takes 1 cycle and changes exactly the bytes it stores; one to a register takes 4, and the register takes
the word in the fourth, or waits for the beam events that lie before it; a misaligned one and one to an address that may
not be written (PRAM among them) trap with the address in mtval (R27, R34 to R38, R49). -/
def Obligations.StoreInstruction : Prop :=
  ∀ (s : State) (c : CellId) (x : Cell), (s.cell c).flush = x → x.outbox = [] → x.mem.wf = true → x.blt.wb = [] →
    x.mem.bad = [] →
    ∀ op a b off short, Ready x short → ∀ addr : Word, x.x a + sext off = addr →
      (addr.toNat % op.bytes ≠ 0 → ∃ t, exec (.store c op a b off short) s = .next t ∧ OnlyCell c s t ∧
        EnginesKept x (t.cell c) ∧ Trapped x (t.cell c) 6 addr) ∧
      (addr.toNat % op.bytes = 0 → x.access addr.toNat op.bytes true = .fault →
        ∃ t, exec (.store c op a b off short) s = .next t ∧ OnlyCell c s t ∧
          EnginesKept x (t.cell c) ∧ Trapped x (t.cell c) 7 addr) ∧
      (∀ r o, addr.toNat % op.bytes = 0 → x.access addr.toNat op.bytes true = .mem r o →
        ∃ t, exec (.store c op a b off short) s = .next t ∧ OnlyCell c s t ∧ Retired x (t.cell c) 1 (nextPc x short) ∧
          (∀ q, (t.cell c).x q = x.x q) ∧ (t.cell c).regs = x.regs ∧
          (∀ q, q ≠ r → (t.cell c).mem.region q = x.mem.region q) ∧
          (∀ k, k < o ∨ o + op.bytes ≤ k → ((t.cell c).mem.region r).read k = (x.mem.region r).read k) ∧
          (∀ k, k < op.bytes → ((t.cell c).mem.region r).read (o + k) = BitVec.ofNat 8 ((x.x b).toNat / 256 ^ k))) ∧
      (∀ o, addr.toNat % op.bytes = 0 → x.access addr.toNat op.bytes true = .reg o →
        ∃ t, exec (.store c op a b off short) s = .next t ∧ SameDevice s t ∧
          (if (x.retire 4 (nextPc x short)).eventBefore o (x.beam.fpos + 3) then
            ProcessorOnly { x with cpu := { x.cpu with straddle := some (o, x.x b, x.beam.fpos + 3) } } (t.cell c) ∧
              Retired x (t.cell c) 4 (nextPc x short)
          else (t.cell c).regs = ((x.retire 4 (nextPc x short)).storeReg o (x.x b) (x.beam.fpos + 3)).regs))

/-- ECALL, an illegal instruction and, without EBRKHALT, EBREAK trap with their causes; with EBRKHALT, EBREAK halts the
processor with HALTCAUSE 2 (R26, R27, R435). The mtval of the illegal-instruction and breakpoint exceptions is the
implementation's choice between the instruction's bits, or its address, and 0 (log entry 17). -/
def Obligations.TrapInstructions : Prop :=
  ∀ (s : State) (c : CellId) (x : Cell), (s.cell c).flush = x → x.outbox = [] →
    (Ready x false → ∃ t, exec (.ecall c) s = .next t ∧ OnlyCell c s t ∧ EnginesKept x (t.cell c) ∧
      Trapped x (t.cell c) 11 0) ∧
    (∀ bits : Word, Ready x (bits.toNat % 4 != 3) → ∃ t, exec (.illegalInstruction c bits) s = .next t ∧ OnlyCell c s t ∧
      EnginesKept x (t.cell c) ∧ Trapped x (t.cell c) 2 (illegalTval bits)) ∧
    (∀ short, Ready x short → (s.dbg[c]).waiting = [] →
      ∃ t, exec (.ebreak c short) s = .next t ∧ OnlyCell c s t ∧
        (x.cpu.dbg.ebrkHalt = false → EnginesKept x (t.cell c) ∧
          Trapped x (t.cell c) 3 (if Config.ebreakTvalHoldsPc then x.cpu.pc else 0)) ∧
        (x.cpu.dbg.ebrkHalt = true → (t.cell c).cpu.dbg.halted = true ∧ (t.cell c).cpu.dbg.cause = 2 ∧
          (t.cell c).cpu.pc = x.cpu.pc ∧ (t.cell c).beam = x.beam ∧ (t.cell c).mem = x.mem))

/-- CSR_INSTRUCTION on an implemented CSR puts its old value into rd and takes 1 cycle; the CSRs that a program may write
hold the value written, with the bits that each has; an access to a CSR that is not implemented, and a write to one of the
read-only numbers, raise the illegal-instruction exception (R32, R33). -/
def Obligations.CsrInstruction : Prop :=
  ∀ (s : State) (c : CellId) (x : Cell), (s.cell c).flush = x → x.outbox = [] → Ready x false →
    ∀ op csr rd src,
      (∀ old, x.csrRead csr.toNat = some old → ¬ (csrWrites op src = true ∧ 0xC00 ≤ csr.toNat) →
        csr ≠ 0x7C0 ∨ csrWrites op src = false →
        ∃ t, exec (.csrInstruction c op csr rd src) s = .next t ∧ OnlyCell c s t ∧ EnginesKept x (t.cell c) ∧
          (t.cell c).cpu.pc = nextPc x false ∧ (t.cell c).beam.fpos = x.beam.fpos + 1 ∧
          (if csrReads op rd then GprOnly rd old x (t.cell c) else ∀ r, (t.cell c).x r = x.x r) ∧
          (csrWrites op src = false → ProcessorOnly x (t.cell c) ∧ Retired x (t.cell c) 1 (nextPc x false)) ∧
          (csrWrites op src = true → ∀ v, csrValue op old (x.csrSource src) = v →
            (csr = 0x300 → (t.cell c).csrRead 0x300 = some (0x1800 ||| (v &&& 0x88))) ∧
            (csr = 0x305 → (t.cell c).csrRead 0x305 = some (if mtvecOk v then v else x.cpu.mtvec)) ∧
            (csr = 0x304 → (t.cell c).csrRead 0x304 = some (v &&& 0x800)) ∧
            (csr = 0x340 → (t.cell c).csrRead 0x340 = some v) ∧
            (csr = 0x341 → (t.cell c).csrRead 0x341 = some (v &&& ~~~1)) ∧
            (csr = 0x342 → (t.cell c).csrRead 0x342 = some v) ∧
            (csr = 0x343 → (t.cell c).csrRead 0x343 = some v) ∧
            (csr = 0x320 → (t.cell c).csrRead 0x320 = some (v &&& 0x5)) ∧
            (csr = 0xB00 → (t.cell c).csrRead 0xB00 = some v) ∧
            (csr = 0xB80 → (t.cell c).csrRead 0xB80 = some v) ∧
            (csr = 0xB02 → (t.cell c).csrRead 0xB02 = some v) ∧
            (csr = 0xB82 → (t.cell c).csrRead 0xB82 = some v) ∧
            (csr = 0x7C1 → (t.cell c).cpu.mode = v.getLsbD 0 ∧ (t.cell c).cpu.passed = x.cpu.passed ∧
              (t.cell c).cpu.intr = x.cpu.intr))) ∧
      (x.csrRead csr.toNat = none ∨ (csrWrites op src = true ∧ 0xC00 ≤ csr.toNat) →
        ∃ t, exec (.csrInstruction c op csr rd src) s = .next t ∧ OnlyCell c s t ∧ EnginesKept x (t.cell c) ∧
          Trapped x (t.cell c) 2 (illegalTval (csrBits op csr rd src)))

/-- If LINE is not below the session's total lines, or CYCLE is not below its cycles per line, MLWAIT_WRITE raises the
illegal-instruction exception, mtval holds the value written, and no wait begins (R40). -/
def Obligations.MlwaitRange : Prop :=
  ∀ (s : State) (c : CellId) (x : Cell), (s.cell c).flush = x → x.outbox = [] → Ready x false →
    ∀ op rd src, csrWrites op src = true → ∀ v, csrValue op x.cpu.mlwait (x.csrSource src) = v →
      x.vtotal ≤ bits v.toNat 31 20 ∨ x.cpl ≤ bits v.toNat 19 0 →
      ∃ t, exec (.mlwaitWrite c op rd src) s = .next t ∧ OnlyCell c s t ∧ EnginesKept x (t.cell c) ∧
        Trapped x (t.cell c) 2 v ∧ (t.cell c).cpu.wait = x.cpu.wait ∧ (t.cell c).cpu.mlwait = x.cpu.mlwait

/-- MLWAIT_WRITE with the target in the raster begins the wait of R39, one cycle after the write, in the frame of that cycle;
WAIT_TARGET_REACHED ends an mlwait wait exactly at its target; WFI takes 1 cycle and holds the processor unless an
enabled interrupt is pending; WFI_WAKE ends that hold; INTERRUPT_TAKEN traps with cause 0x8000_000B and ends a wait, with
mlwctl.INTR set unless the wait's target is reached in that cycle. A source event counts from the cycle after its own: a
waiting processor is at that cycle, and no interrupt is taken before it (R27, R39, R41 to R43). -/
def Obligations.WaitsAndInterrupts : Prop :=
  ∀ (s : State) (c : CellId),
    (∀ f T, (s.cell c).outbox = [] → (s.cell c).cpu.wait = .line f T → (s.cell c).reached f T = true →
      (s.cell c).cpu.dbg.halted = false →
      ∃ t, exec (.waitTargetReached c) s = .next t ∧ OnlyCell c s t ∧ (t.cell c).cpu.wait = .none ∧
        (t.cell c).beam.fpos = T ∧ (t.cell c).cpu.pc = (s.cell c).cpu.pc ∧
        (t.cell c).cpu.minstret = (s.cell c).cpu.minstret ∧ (∀ r, (t.cell c).x r = (s.cell c).x r)) ∧
    (∀ x, (s.cell c).flush = x → x.outbox = [] →
      (Ready x false → x.blt.wb = [] → ∃ t, exec (.wfi c) s = .next t ∧ OnlyCell c s t ∧ EnginesKept x (t.cell c) ∧
        Retired x (t.cell c) 1 (nextPc x false) ∧ (∀ r, (t.cell c).x r = x.x r) ∧
        (t.cell c).cpu.wait = if x.cpu.meie && x.meip && decide (x.evt.irqFrom ≤ x.beam.fpos + 1) then .none else .wfi) ∧
      (∀ y, x.cpu.wait = .wfi → x.awaitsIrq y → y.cpu.meie = true → y.running = true → y.beam.inPorch = false →
        ∃ t, exec (.wfiWake c) s = .next t ∧ OnlyCell c s t ∧
          t.cell c = { y with cpu := { y.cpu with wait := .none } }) ∧
      (∀ y, (x.cpu.wait = .none → y = x ∧ x.meipSeen = true) → (x.cpu.wait ≠ .none → x.awaitsIrq y) →
        y.cpu.mie = true → y.cpu.meie = true → ({ y with cpu := { y.cpu with wait := .none } } : Cell).cpuReady →
        ∃ t, exec (.interruptTaken c) s = .next t ∧ OnlyCell c s t ∧ EnginesKept x (t.cell c) ∧
          Trapped y (t.cell c) 0x8000000B 0 ∧ (t.cell c).cpu.wait = .none ∧
          (∀ f T, x.cpu.wait = .line f T →
            (t.cell c).cpu.intr = if f = y.beam.frame ∧ T ≤ y.beam.fpos then x.cpu.intr else true)) ∧
      (s.cell c = x → x.cpu.wait = .none → x.beam.fpos < x.evt.irqFrom → ∃ t, exec (.interruptTaken c) s = .next t ∧ OnlyCell c s t ∧
        t.cell c = s.cell c) ∧
      (∀ op rd src v T, Ready x false → csrWrites op src = true → csrValue op x.cpu.mlwait (x.csrSource src) = v →
        bits v.toNat 31 20 < x.vtotal → bits v.toNat 19 0 < x.cpl → x.beam.fpos + 1 < x.counted → x.blt.wb = [] →
        bits v.toNat 31 20 * x.cpl + bits v.toNat 19 0 = T →
        ∃ t, exec (.mlwaitWrite c op rd src) s = .next t ∧ OnlyCell c s t ∧ EnginesKept x (t.cell c) ∧
          Retired x (t.cell c) 1 (nextPc x false) ∧ (t.cell c).cpu.mlwait = v ∧
          (if csrReads op rd then GprOnly rd x.cpu.mlwait x (t.cell c) else ∀ r, (t.cell c).x r = x.x r) ∧
          (t.cell c).cpu.intr = false ∧ (t.cell c).cpu.passed = decide (T < x.beam.fpos + 1) ∧
          (t.cell c).cpu.wait = (if T = x.beam.fpos + 1 then .none else if x.beam.fpos + 1 < T then .line x.beam.frame T
            else if x.cpu.mode then .none else .line (x.beam.frame + 1) T)))

/-! ## Register writes -/

/-- REGISTER_WRITE: at a register without a behaviour of its own RW bits take the value, W1C bits written 1 clear and every
other bit stays; at an offset that no register occupies nothing changes; RST_CL takes a line of 1 to VACTIVE and no other;
nothing else of the cell changes (R8, R10, R37, R78, R87). -/
def Obligations.RegisterWrite : Prop :=
  ∀ (s : State) (c : CellId) (x : Cell), Live s c x → ∀ (off : BitVec 16) (v : Word) (o : Nat), off.toNat / 4 * 4 = o →
    (∀ d, o ∈ plainRegisters → regDesc o = some d → ∃ t, exec (.registerWrite c off v) s = .next t ∧ OnlyCell c s t ∧
      RegistersOnly x (t.cell c) ∧ RegsOnly [o] x (t.cell c) ∧
      (t.cell c).reg o = ((x.reg o &&& ~~~(BitVec.ofNat 32 d.rw)) ||| (v &&& BitVec.ofNat 32 d.rw)) &&&
        ~~~(v &&& BitVec.ofNat 32 d.w1c)) ∧
    (regDesc o = none → ∃ t, exec (.registerWrite c off v) s = .next t ∧ OnlyCell c s t ∧ RegistersOnly x (t.cell c) ∧
      RegsOnly [] x (t.cell c)) ∧
    (o = Reg.RST_CL → ∃ t, exec (.registerWrite c off v) s = .next t ∧ OnlyCell c s t ∧ RegistersOnly x (t.cell c) ∧
      RegsOnly [o] x (t.cell c) ∧ (t.cell c).fld Reg.RST_CL 11 0 =
        if 1 ≤ bits v.toNat 11 0 ∧ bits v.toNat 11 0 ≤ x.vactive then bits v.toNat 11 0 else x.fld Reg.RST_CL 11 0)

/-- COMMIT_GO: before line CL the commit is armed for the next frame; from line CL on for the frame after it, with
RST_STAT.LATE and a count in the raster record; while one is armed nothing happens but the dirty event (R74, R76, R84).
CMP_PALDATA_WRITE and SCL_CDATA_WRITE store at the index of CMP_PALIDX and of SCL_CIDX, whose index moves on when bit 31 is
set, the coefficient index in the order of R155 (R140, R155). INP_POP removes the head message; INP_RPTSEND queues the
report that INP_RPT0 to INP_RPT7 hold under the next number, or records a length above 32 and a full queue and queues
nothing (R292, R295). -/
def Obligations.CommandRegisters : Prop :=
  (∀ (s : State) (c : CellId) (x : Cell), Live s c x → s.objsWf = true →
    ∃ t, exec (.commitGo c) s = .next t ∧ OnlyCell c s t ∧ (t.cell c).mem = x.mem ∧ (t.cell c).cpu = x.cpu ∧
      (t.cell c).pic.dirty = true ∧ (t.cell c).pic.armed = true ∧
      (x.pic.armed = true → (t.cell c).pic.applyFrame = x.pic.applyFrame ∧ RegsOnly [] x (t.cell c)) ∧
      (x.pic.armed = false → x.beam.fpos < x.clLine * x.cpl →
        (t.cell c).pic.applyFrame = x.beam.frame + 1 ∧ RegsOnly [] x (t.cell c)) ∧
      (x.pic.armed = false → x.clLine * x.cpl ≤ x.beam.fpos →
        (t.cell c).pic.applyFrame = x.beam.frame + 2 ∧ RegsOnly [Reg.RST_STAT] x (t.cell c) ∧
          (t.cell c).reg Reg.RST_STAT = (x.reg Reg.RST_STAT ||| 1) ∧
          t.obj (cellObj c 0x1B) 3 = Nat.min (s.obj (cellObj c 0x1B) 3 + 1) (objMax (cellObj c 0x1B) 3))) ∧
  (∀ (s : State) (c : CellId) (x : Cell) (v : Word), Live s c x →
    Sparse.wf (fun _ => (0 : Word)) x.pic.palette = true → Sparse.wf coefDefault x.pic.coefPend = true →
    (∃ t, exec (.cmpPaldataWrite c v) s = .next t ∧ OnlyCell c s t ∧ (t.cell c).mem = x.mem ∧
      (∀ k, Sparse.get (fun _ => (0 : Word)) (t.cell c).pic.palette k = if k = x.fld Reg.CMP_PALIDX 11 0 then v
        else Sparse.get (fun _ => (0 : Word)) x.pic.palette k) ∧
      RegsOnly [Reg.CMP_PALIDX] x (t.cell c) ∧ (t.cell c).fld Reg.CMP_PALIDX 11 0 =
        if x.rbit Reg.CMP_PALIDX 31 then (x.fld Reg.CMP_PALIDX 11 0 + 1) % 4096 else x.fld Reg.CMP_PALIDX 11 0) ∧
    (∃ t, exec (.sclCdataWrite c v) s = .next t ∧ OnlyCell c s t ∧ (t.cell c).mem = x.mem ∧
      (∀ k, Sparse.get coefDefault (t.cell c).pic.coefPend k =
        if k = x.coefIdx then BitVec.ofNat 32 (bits v.toNat 25 16 * 65536 + bits v.toNat 9 0)
        else Sparse.get coefDefault x.pic.coefPend k) ∧
      RegsOnly [Reg.SCL_CIDX] x (t.cell c) ∧
      (t.cell c).coefIdx = if x.rbit Reg.SCL_CIDX 31 then nextCoef x.coefIdx % 512 else x.coefIdx)) ∧
  (∀ (s : State) (c : CellId) (x : Cell) (v : Word), Live s c x →
    (∃ t, exec (.inpPop c) s = .next t ∧ OnlyCell c s t ∧ (t.cell c).str = { x.str with fifo := x.str.fifo.tail } ∧
      RegsOnly [] x (t.cell c) ∧ (t.cell c).mem = x.mem) ∧
    (∃ t, exec (.inpRptsend c v) s = .next t ∧ OnlyCell c s t ∧ (t.cell c).mem = x.mem ∧
      (bits v.toNat 5 0 ≤ 32 → x.str.reports.length < 16 →
        (t.cell c).str.reports = x.str.reports ++ [⟨bits v.toNat 31 28, ((x.reg Reg.INP_RPTSEQ).toNat + 1) % 2 ^ 32,
          x.reportBytes.take (bits v.toNat 5 0)⟩] ∧ RegsOnly [Reg.INP_RPTSEQ] x (t.cell c) ∧
        (t.cell c).reg Reg.INP_RPTSEQ = x.reg Reg.INP_RPTSEQ + 1) ∧
      (32 < bits v.toNat 5 0 ∨ 16 ≤ x.str.reports.length → (t.cell c).str = x.str ∧
        RegsOnly [Reg.INP_STAT] x (t.cell c) ∧ (t.cell c).reg Reg.INP_STAT = (x.reg Reg.INP_STAT |||
          (if 32 < bits v.toNat 5 0 then 8 else 0) ||| (if 16 ≤ x.str.reports.length then 4 else 0)))))

/-- TMR_GO stops the timers of bits 15:8 and starts those of bits 7:0 that are not stopped, a start counting up with its
prescaler cleared; a write of TMRn_CNT takes the value; a read of the even count of a linked pair latches the odd one (R199,
R203, R204). A tick of a timer moves its count as its mode says and uses up its prescaler's source events; one that wraps
sets TMR_STAT.WRAPn, one that leaves the count at CMP sets TMR_STAT.CMPn; a period skip sets TMR_STAT.SKIPn and restarts the
count (R197, R198, R200, R201). -/
def Obligations.Timers : Prop :=
  (∀ (s : State) (c : CellId) (x : Cell) (v : Word), Live s c x →
    (∃ t, exec (.tmrGo c v) s = .next t ∧ OnlyCell c s t ∧ (t.cell c).mem = x.mem ∧
      (∀ n : Fin 8, (t.cell c).reg (Cell.tmrCnt n.val) = x.reg (Cell.tmrCnt n.val) ∧
        (t.cell c).rbit (Cell.tmrCtl n.val) 0 = (!v.getLsbD (8 + n.val) && (v.getLsbD n.val || x.rbit (Cell.tmrCtl n.val) 0)) ∧
        (v.getLsbD (8 + n.val) = false → v.getLsbD n.val = true →
          (t.cell c).tmr.presc[n] = 0 ∧ (t.cell c).rbit (Cell.tmrCtl n.val) 2 = false))) ∧
    (∀ n : Fin 8, ∃ t, exec (.timerCntWrite c n v) s = .next t ∧ OnlyCell c s t ∧ (t.cell c).mem = x.mem ∧
      (t.cell c).reg (Cell.tmrCnt n.val) = v ∧ RegsOnly [Cell.tmrCnt n.val] x (t.cell c)) ∧
    (∀ n : Fin 8, ∃ t, exec (.timerCntRead c n) s = .next t ∧ OnlyCell c s t ∧ (t.cell c).regs = x.regs ∧
      (t.cell c).mem = x.mem ∧ (n.val % 2 = 0 → x.pairLinked n = true →
        (t.cell c).tmr.latch[n.val / 2]'(by omega) = x.sampleCounts.reg (Cell.tmrCnt (n.val + 1))) ∧
      (n.val % 2 = 1 ∨ x.pairLinked n = false → t.cell c = x))) ∧
  (∀ (s : State) (c : CellId) (x : Cell) (n : Fin 8), Beaming s c x → x.blt.wb = [] → x.timerOn n.val 0 = false →
    (x.tickDue n = true →
      (∃ t, exec (.timerTick c n) s = .next t ∧ OnlyCell c s t ∧ (t.cell c).mem = x.mem ∧ (t.cell c).cpu = x.cpu ∧
        (t.cell c).reg (Cell.tmrCnt n.val) = BitVec.ofNat 32 (tickOutcome (x.fld (Cell.tmrCtl n.val) 5 4)
          (x.reg (Cell.tmrCnt n.val)).toNat (x.reg (Cell.tmrPer n.val)).toNat (x.rbit (Cell.tmrCtl n.val) 2)).1 ∧
        (∀ m : Fin 8, m ≠ n → (t.cell c).reg (Cell.tmrCnt m.val) = x.reg (Cell.tmrCnt m.val))) ∧
      ((x.tickResult n).2.2 = true → ∃ t, exec (.timerWrap c n) s = .next t ∧ OnlyCell c s t ∧ (t.cell c).mem = x.mem ∧
        (t.cell c).rbit Reg.TMR_STAT (8 + n.val) = true ∧
        (t.cell c).reg (Cell.tmrCnt n.val) = BitVec.ofNat 32 (x.tickResult n).1) ∧
      (x.tickMatches n = true → ∃ t, exec (.compareMatch c n) s = .next t ∧ OnlyCell c s t ∧ (t.cell c).mem = x.mem ∧
        (t.cell c).rbit Reg.TMR_STAT n.val = true ∧
        (t.cell c).reg (Cell.tmrCnt n.val) = x.reg (Cell.tmrCmp n.val))) ∧
    (x.skipDue n = true → ∃ t, exec (.periodSkip c n) s = .next t ∧ OnlyCell c s t ∧ (t.cell c).mem = x.mem ∧
      (t.cell c).rbit Reg.TMR_STAT (16 + n.val) = true ∧
      (t.cell c).reg (Cell.tmrCnt n.val) =
        if x.fld (Cell.tmrCtl n.val) 5 4 = 1 then x.reg (Cell.tmrPer n.val) else 0))

/-- WDG_FEED of 0xFEED reloads the count and ends the bark; WDG_KEY of 0xA5C3 opens the window; WDG_CFG and WDG_LOAD take a
value only inside the window, which then closes; every other store of these sets WDG_STAT.SEQERR (R207, R208). The watchdog,
enabled with its count at 0, barks first and bites next: WDG_STAT.BARK or BITE, the count reloaded; a bite with ACTION 1
ends the session at the next boundary; the window of a key closes 16 window cycles on (R207, R208, R327). -/
def Obligations.Watchdog : Prop :=
  (∀ (s : State) (c : CellId) (x : Cell) (v : Word), Live s c x →
    (∃ t, exec (.wdgFeed c v) s = .next t ∧ OnlyCell c s t ∧ (t.cell c).mem = x.mem ∧
      (v = 0xFEED → RegsOnly [Reg.WDG_CNT] x (t.cell c) ∧ (t.cell c).reg Reg.WDG_CNT = x.reg Reg.WDG_LOAD ∧
        (t.cell c).tmr.barked = false) ∧
      (v ≠ 0xFEED → RegsOnly [Reg.WDG_STAT] x (t.cell c) ∧ (t.cell c).reg Reg.WDG_STAT = (x.reg Reg.WDG_STAT ||| 4) ∧
        (t.cell c).tmr.barked = x.tmr.barked)) ∧
    (∃ t, exec (.wdgKey c v) s = .next t ∧ OnlyCell c s t ∧ (t.cell c).mem = x.mem ∧
      (v = 0xA5C3 → RegsOnly [] x (t.cell c) ∧ (t.cell c).tmr.window = some 0) ∧
      (v ≠ 0xA5C3 → RegsOnly [Reg.WDG_STAT] x (t.cell c) ∧ (t.cell c).reg Reg.WDG_STAT = (x.reg Reg.WDG_STAT ||| 4) ∧
        (t.cell c).tmr.window = none)) ∧
    (∀ r, ∃ t, exec (.wdgValueStore c r v) s = .next t ∧ OnlyCell c s t ∧ (t.cell c).mem = x.mem ∧
      (t.cell c).tmr.window = none ∧
      (x.windowOpen = false ∨ x.rbit Reg.WDG_CFG 2 = true → RegsOnly [Reg.WDG_STAT] x (t.cell c) ∧
        (t.cell c).reg Reg.WDG_STAT = (x.reg Reg.WDG_STAT ||| 4)) ∧
      (x.windowOpen = true → x.rbit Reg.WDG_CFG 2 = false → r = .load → RegsOnly [Reg.WDG_LOAD] x (t.cell c) ∧
        (t.cell c).reg Reg.WDG_LOAD = if bits v.toNat 23 0 = 0 then x.reg Reg.WDG_LOAD else BitVec.ofNat 32 (bits v.toNat 23 0)) ∧
      (x.windowOpen = true → x.rbit Reg.WDG_CFG 2 = false → r = .cfg →
        RegsOnly [Reg.WDG_CFG, Reg.WDG_CNT] x (t.cell c) ∧ (t.cell c).fld Reg.WDG_CFG 2 0 = bits v.toNat 2 0 ∧
        (t.cell c).fld Reg.WDG_CFG 11 8 = (if bits v.toNat 11 8 = 0 then x.fld Reg.WDG_CFG 11 8 else bits v.toNat 11 8) ∧
        (t.cell c).reg Reg.WDG_CNT = if x.rbit Reg.WDG_CFG 0 = false ∧ v.getLsbD 0 = true then x.reg Reg.WDG_LOAD
          else x.reg Reg.WDG_CNT))) ∧
  (∀ (s : State) (c : CellId) (x : Cell), Beaming s c x →
    (x.wdgZero = true → x.tmr.barked = false → ∃ t, exec (.watchdogBark c) s = .next t ∧ OnlyCell c s t ∧
      RegsOnly [Reg.WDG_STAT, Reg.WDG_CNT] x (t.cell c) ∧ (t.cell c).reg Reg.WDG_STAT = (x.reg Reg.WDG_STAT ||| 1) ∧
      (t.cell c).reg Reg.WDG_CNT = x.reg Reg.WDG_LOAD ∧ (t.cell c).tmr.barked = true ∧ (t.cell c).sess = x.sess ∧
      (t.cell c).mem = x.mem ∧ (t.cell c).cpu = x.cpu) ∧
    (x.wdgZero = true → x.tmr.barked = true → ∃ t, exec (.watchdogBite c) s = .next t ∧ OnlyCell c s t ∧
      RegsOnly [Reg.WDG_STAT, Reg.WDG_CNT] x (t.cell c) ∧ (t.cell c).reg Reg.WDG_STAT = (x.reg Reg.WDG_STAT ||| 2) ∧
      (t.cell c).reg Reg.WDG_CNT = x.reg Reg.WDG_LOAD ∧
      (t.cell c).sess.biteEnd = (x.rbit Reg.WDG_CFG 1 || x.sess.biteEnd) ∧ (t.cell c).sess.state = x.sess.state ∧
      (t.cell c).mem = x.mem ∧ (t.cell c).cpu = x.cpu) ∧
    (∀ k, x.tmr.window = some k → 16 < k → ∃ t, exec (.wdgWindowExpiry c) s = .next t ∧ OnlyCell c s t ∧
      (t.cell c).tmr.window = none ∧ RegsOnly [] x (t.cell c) ∧ (t.cell c).mem = x.mem))

/-- Audio registers: AUD_PDATA stores a parameter of the pending bank at AUD_PIDX, AUD_SWAP asks for the swap, a TRIG of a
voice and a position are held for the next sample boundary (R219, R222, R224, R229, R234). SAMPLE_BOUNDARY counts the
boundary, numbers it in AUD_SPOS and takes a pending bank swap; AUDIO_PROGRAM runs the mixing program on the outputs of the
voices with registers A0 to A31 that are free (log entry 11), and adds one sample, limited to 24 bits, to the packet buffer;
OPUS_PACKET takes a packet's samples out (R214, R215, R226, R229, R231, R281). -/
def Obligations.Audio : Prop :=
  (∀ (s : State) (c : CellId) (x : Cell) (v : Word), Live s c x → Sparse.wf (fun _ => (0 : Word)) x.aud.bankP = true →
    (∃ t, exec (.audPdataWrite c v) s = .next t ∧ OnlyCell c s t ∧ (t.cell c).mem = x.mem ∧
      RegsOnly [Reg.AUD_PIDX] x (t.cell c) ∧ (t.cell c).aud.bankA = x.aud.bankA ∧
      (∀ k, Sparse.get (fun _ => (0 : Word)) (t.cell c).aud.bankP k =
        if k = x.fld Reg.AUD_PIDX 9 0 ∧ k < x.nparam then v else Sparse.get (fun _ => (0 : Word)) x.aud.bankP k)) ∧
    (∃ t, exec (.audSwapGo c) s = .next t ∧ OnlyCell c s t ∧ RegistersOnly x (t.cell c) ∧
      RegsOnly [Reg.AUD_BSTAT] x (t.cell c) ∧ (t.cell c).reg Reg.AUD_BSTAT = (x.reg Reg.AUD_BSTAT ||| 1)) ∧
    (∀ n : Fin 32, ∃ t, exec (.sampleVoiceTrig c n v) s = .next t ∧ OnlyCell c s t ∧ (t.cell c).mem = x.mem ∧
      RegsOnly [svReg Reg.AUD_SVCTL n.val] x (t.cell c) ∧
      (t.cell c).rbit (svReg Reg.AUD_SVCTL n.val) 0 = v.getLsbD 0 ∧
      (t.cell c).aud.sv[n].trig = (v.getLsbD 7 || x.aud.sv[n].trig) ∧
      (∀ m : Fin 32, m ≠ n → (t.cell c).aud.sv[m] = x.aud.sv[m])) ∧
    (∀ w : Fin 8, ∃ t, exec (.waveVoiceTrig c w v) s = .next t ∧ OnlyCell c s t ∧ (t.cell c).mem = x.mem ∧
      RegsOnly [wvReg Reg.AUD_WVCTL w.val] x (t.cell c) ∧
      (t.cell c).reg (wvReg Reg.AUD_WVCTL w.val) = BitVec.ofNat 32 (v.toNat % 128) ∧
      (t.cell c).aud.wv[w].trig = (v.getLsbD 7 || x.aud.wv[w].trig) ∧
      (∀ m : Fin 8, m ≠ w → (t.cell c).aud.wv[m] = x.aud.wv[m])) ∧
    (∀ n : Fin 32, ∃ t, exec (.audPosWrite c n v) s = .next t ∧ OnlyCell c s t ∧ (t.cell c).mem = x.mem ∧
      RegsOnly [] x (t.cell c) ∧ (t.cell c).aud.sv[n].posW = some (bits v.toNat 31 12) ∧ (t.cell c).aud.sv[n].cons = 0 ∧
      (t.cell c).aud.sv[n].i = x.aud.sv[n].i ∧ (∀ m : Fin 32, m ≠ n → (t.cell c).aud.sv[m] = x.aud.sv[m]))) ∧
  (∀ (s : State) (c : CellId) (x : Cell), Beaming s c x → x.blt.wb = [] →
    (∀ p, x.nextBoundary = some p → x.aud.voices = none → ∃ t, exec (.sampleBoundary c) s = .next t ∧ OnlyCell c s t ∧
      (t.cell c).mem = x.mem ∧ (t.cell c).aud.next = x.aud.next + 1 ∧ (t.cell c).aud.count = x.aud.count + 1 ∧
      (t.cell c).aud.voices.isSome = true ∧ (t.cell c).reg Reg.AUD_SAMPLE = x.reg Reg.AUD_SAMPLE + 1 ∧
      (t.cell c).reg Reg.AUD_SPOS = BitVec.ofNat 32 x.aud.next ∧ (t.cell c).beam.fpos = Nat.max x.beam.fpos p ∧
      (t.cell c).aud.bankP = x.aud.bankP ∧
      (t.cell c).aud.bankA = if x.rbit Reg.AUD_BSTAT 0 then x.aud.bankP else x.aud.bankA) ∧
    (∀ vs intact m, x.aud.voices = some vs → x.lpcm = false →
      x.aud.program.foldl (mixStep vs x.aud.bankA)
        ⟨freeRegisters s.fresh, List.replicate 16 0, x.aud.biquad, x.aud.delays, (0, 0)⟩ = m →
      ∃ t, exec (.audioProgram c intact) s = .next t ∧ (t.cell c).mem = x.mem ∧ (t.cell c).aud.voices = none ∧
        (t.cell c).aud.biquad = m.biquad ∧ t.fresh = s.fresh + 32 ∧
        (t.cell c).aud.out = (clampInt (-8388608) 8388607 m.out.1, clampInt (-8388608) 8388607 m.out.2) ∧
        (t.cell c).aud.buf = x.aud.buf ++ [(t.cell c).aud.out]) ∧
    (∀ intact, x.lpcm = false → x.packetSamples + 120 ≤ x.aud.buf.length →
      ∃ t u, exec (.opusPacket c intact) s = .next t ∧ OnlyCell c s t ∧ (t.cell c).regs = x.regs ∧
        (t.cell c).mem = x.mem ∧ (t.cell c).aud.buf = x.aud.buf.drop x.packetSamples ∧
        (t.cell c).str.queue = x.str.queue ++ [u] ∧ u.kind = .audio ∧ u.intact = intact ∧
        u.check = crc32c u.nals.flatten ∧ (x.audioBytes ≠ 0 → u.nals.flatten.length = x.audioBytes)))

/-- STIM_PORT_WRITE of an enabled port counts and sends one packet toward the trace buffer, of a disabled one does nothing;
ID_LO_READ latches the high half of the 64-bit counter that its register belongs to (R408, R438). -/
def Obligations.StimAndCounters : Prop :=
  ∀ (s : State) (c : CellId) (x : Cell) (v : Word), Live s c x →
    (∀ k : Fin 32, ∃ t, exec (.stimPortWrite c k v) s = .next t ∧ OnlyCell c s t ∧ RegistersOnly x (t.cell c) ∧
      RegsOnly [Reg.STIM_CNT] x (t.cell c) ∧
      (t.cell c).reg Reg.STIM_CNT = (if x.rbit Reg.STIM_EN k.val then x.reg Reg.STIM_CNT + 1 else x.reg Reg.STIM_CNT) ∧
      (x.rbit Reg.STIM_EN k.val = true → s.effLevel c ≠ 0 → x.sess.role ≠ .shadow → (s.dbg[c]).trace.length < 4096 →
        (t.dbg[c]).trace = (s.dbg[c]).trace ++
          [tracePacket 0x01 k.val (x.posAt x.beam.fpos).1 (x.posAt x.beam.fpos).2 x.beam.frame v]) ∧
      (x.rbit Reg.STIM_EN k.val = false → t.dbg = s.dbg)) ∧
    (∀ k, ∃ t, exec (.idLoRead c k) s = .next t ∧ OnlyCell c s t ∧ RegistersOnly x (t.cell c) ∧ (match k with
      | .vbytes => RegsOnly [Reg.ID_VBYTESHI] x (t.cell c) ∧
          (t.cell c).reg Reg.ID_VBYTESHI = BitVec.ofNat 32 (x.str.vtot / 2 ^ 32)
      | .abytes => RegsOnly [Reg.ID_ABYTESHI] x (t.cell c) ∧
          (t.cell c).reg Reg.ID_ABYTESHI = BitVec.ofNat 32 (x.str.atot / 2 ^ 32)
      | .cyc => RegsOnly [Reg.ID_CYCHI] x (t.cell c) ∧
          (t.cell c).reg Reg.ID_CYCHI = BitVec.ofNat 32 (x.str.ctot / 2 ^ 32)))

/-- DMA_START of a channel that does not run takes its program counter from DMA_CHnPC, clears both loop counters and enters
RUN, with its instruction due four cycles on, or faults with 0x01 where its quota is 0; DMA_STOP of a waiting channel makes
it IDLE, of a running one makes its current instruction the last; DMA_EVTSET sets event bits (R181 to R185, R193, R194).
BLT_SUBMIT: a command that fails a check made before the schedule, or finds no line, is refused with the code in BLT_LASTSUB
and BLT_STAT.REFUSED set and queues nothing; one that is accepted is queued last with a fence over its destination, and
counted (R173 to R176, R180). -/
def Obligations.EngineCommands : Prop :=
  (∀ (s : State) (c : CellId) (x : Cell) (ch : Fin 8), Live s c x →
    (∃ t, exec (.dmaStart c ch) s = .next t ∧ OnlyCell c s t ∧ (t.cell c).cpu = x.cpu ∧
      (∀ k : Fin 8, k ≠ ch → (t.cell c).dma[k] = x.dma[k]) ∧
      ((x.chan ch).state = 1 ∨ (x.chan ch).state = 2 → (t.cell c).dma[ch] = x.dma[ch] ∧ (t.cell c).mem = x.mem) ∧
      ((x.chan ch).state ≠ 1 → (x.chan ch).state ≠ 2 → x.fld (chReg Reg.DMA_CHQUOTA ch) 23 0 ≠ 0 →
        ((t.cell c).chan ch).state = 1 ∧ ((t.cell c).chan ch).pc = x.fld (chReg Reg.DMA_CHPC ch) 17 4 * 16 ∧
        ((t.cell c).chan ch).cnt0 = 0 ∧ ((t.cell c).chan ch).cnt1 = 0 ∧ ((t.cell c).chan ch).acts = x.beam.fpos + 4 ∧
        (t.cell c).mem = x.mem ∧ RegsOnly [] x (t.cell c)) ∧
      ((x.chan ch).state ≠ 1 → (x.chan ch).state ≠ 2 → x.fld (chReg Reg.DMA_CHQUOTA ch) 23 0 = 0 →
        (x.reg (chReg Reg.DMA_CHFREC ch)).getLsbD 0 = false →
        ((t.cell c).chan ch).state = 4 ∧ ((t.cell c).chan ch).code = 1 ∧ (t.cell c).mem = x.mem ∧
          (t.cell c).rbit Reg.DMA_STAT (8 + ch.val) = true)) ∧
    (∃ t, exec (.dmaStop c ch) s = .next t ∧ OnlyCell c s t ∧ (t.cell c).cpu = x.cpu ∧ (t.cell c).mem = x.mem ∧
      RegsOnly [] x (t.cell c) ∧ (∀ k : Fin 8, k ≠ ch → (t.cell c).dma[k] = x.dma[k]) ∧
      ((x.chan ch).state = 2 → ((t.cell c).chan ch).state = 0 ∧ ((t.cell c).chan ch).held = .none) ∧
      ((x.chan ch).state = 1 → (x.chan ch).held = .none → ((t.cell c).chan ch).ending = true ∧
        ((t.cell c).chan ch).state = 1) ∧
      ((x.chan ch).state ≠ 1 → (x.chan ch).state ≠ 2 → (t.cell c).dma[ch] = x.dma[ch])) ∧
    (∀ v, ∃ t, exec (.dmaEvtsetWrite c v) s = .next t ∧ OnlyCell c s t ∧ RegistersOnly x (t.cell c) ∧
      RegsOnly [Reg.DMA_EVT] x (t.cell c) ∧
      (t.cell c).reg Reg.DMA_EVT = (x.reg Reg.DMA_EVT ||| BitVec.ofNat 32 (bits v.toNat 15 0)))) ∧
  (∀ (s : State) (c : CellId) (x : Cell) (v : Word), Live s c x → ∀ block ws, bits v.toNat 17 5 * 32 = block →
    (List.range 8).map (fun i => x.mem.wram.read32 (block + 4 * i)) = ws →
    ∃ t, exec (.bltSubmit c v) s = .next t ∧ OnlyCell c s t ∧ (t.cell c).cpu = x.cpu ∧ (t.cell c).dma = x.dma ∧
      (t.cell c).mem.wram = x.mem.wram ∧ (t.cell c).mem.vram = x.mem.vram ∧ (t.cell c).mem.asset = x.mem.asset ∧
      (∀ code, x.bltRefusal block (bltFields ws) (bits (ws.getD 0 0).toNat 27 26) = code → code ≠ 0 →
        (t.cell c).blt.queue = x.blt.queue ∧ (t.cell c).mem.fences = x.mem.fences ∧
        (t.cell c).reg Reg.BLT_LASTSUB = bltStatus 1 0 0 code ∧
        (t.cell c).reg Reg.BLT_STAT = (x.reg Reg.BLT_STAT ||| 2) ∧
        RegsOnly [Reg.BLT_LASTSUB, Reg.BLT_STAT] x (t.cell c)) ∧
      (x.bltRefusal block (bltFields ws) (bits (ws.getD 0 0).toNat 27 26) = 0 →
        ((t.cell c).blt.queue = x.blt.queue ∧ (t.cell c).reg Reg.BLT_LASTSUB = bltStatus 1 0 0 0x0C ∧
          (t.cell c).reg Reg.BLT_STAT = (x.reg Reg.BLT_STAT ||| 2)) ∨
        (∃ q, (t.cell c).blt.queue = x.blt.queue ++ [q] ∧ q.block = block ∧ q.words = ws ∧ q.landed = false ∧
          (t.cell c).mem.fences.length = x.mem.fences.length + 1 ∧
          (t.cell c).reg Reg.BLT_ACCCNT = x.reg Reg.BLT_ACCCNT + 1 ∧ (t.cell c).blt.count = x.blt.count + 1)))

/-! ## Beam, frames and porches -/

/-- LINE_START begins the next line at its cycle 0; at line CL it sets RST_STAT.CL and takes a commit that is armed for the
next frame, which is then staged; nothing in it moves the processor (R13, R75, R87). -/
def Obligations.LineStart : Prop :=
  ∀ (s : State) (c : CellId) (x : Cell), Beaming s c x → x.lineDue = true → x.pic.lnl = none →
    ∃ t, exec (.lineStart c) s = .next t ∧ SameDevice s t ∧ (t.cell c).beam.started = x.beam.started + 1 ∧
      (t.cell c).beam.frame = x.beam.frame ∧ (t.cell c).beam.inPorch = false ∧
      (t.cell c).beam.fpos = Nat.max x.beam.fpos (x.beam.started * x.cpl) ∧ (t.cell c).cpu.pc = x.cpu.pc ∧
      (∀ r, (t.cell c).x r = x.x r) ∧ (t.cell c).pic.lnl.isSome = x.rbit Reg.LNL_CTL 0 ∧
      (x.beam.started = x.clLine → (t.cell c).rbit Reg.RST_STAT 2 = true ∧
        (x.pic.armed = true → x.pic.applyFrame = x.beam.frame + 1 →
          (t.cell c).pic.armed = false ∧ (t.cell c).pic.staged = true)) ∧
      (x.beam.started ≠ x.clLine → (t.cell c).pic.armed = x.pic.armed ∧ (t.cell c).pic.staged = x.pic.staged)

/-- PORCH_START, with the work of the frame done, stops the counting for the programmed porch with the correction of at most
4 cycles and what was carried; FRAME_BOUNDARY then begins the next frame at line 0, cycle 0, applies a staged commit with
RST_STAT.APPLIED, and counts the frame that ended (R12, R45, R75, R86). -/
def Obligations.FramesAndPorches : Prop :=
  ∀ (s : State) (c : CellId) (x : Cell), Beaming s c x → s.up = true → x.frameDone = true → x.pic.lnl = none →
    (∀ delta, x.beam.inPorch = false → s.mirrorState c ≠ 4 →
      ∃ t, exec (.porchStart c delta) s = .next t ∧ SameDevice s t ∧ (t.cell c).beam.inPorch = true ∧
        (t.cell c).beam.porchLen = ((x.porch : Int) + s.porchDelta delta + x.beam.porchCarry).toNat ∧
        (t.cell c).beam.porchCarry = min 0 ((x.porch : Int) + s.porchDelta delta + x.beam.porchCarry) ∧
        (t.cell c).beam.started = x.beam.started ∧ (t.cell c).beam.frame = x.beam.frame ∧
        -4 ≤ s.porchDelta delta ∧ s.porchDelta delta ≤ 4 ∧ (s.house.loop = .holdover → s.porchDelta delta = 0)) ∧
    (x.beam.inPorch = true → x.sess.biteEnd = false → ¬ (x.sess.copies = false ∧ (s.mirrors[c]).phase = .idle ∧
        (s.mirrors[c]).g = x.beam.frame + 1) → (s.dbg[c]).waiting = [] → x.beam.fpos ≤ x.counted →
      ∃ t, exec (.frameBoundary c) s = .next t ∧ SameDevice s t ∧ (t.cell c).beam.frame = x.beam.frame + 1 ∧
        (t.cell c).beam.started = 0 ∧ (t.cell c).beam.fpos = 0 ∧ (t.cell c).beam.inPorch = false ∧
        (t.cell c).cpu.pc = x.cpu.pc ∧ (t.cell c).aud.next = 0 ∧ (t.cell c).pic.staged = false ∧
        (t.cell c).pic.activeRegs = (if x.pic.staged then x.pic.stagedRegs else x.pic.activeRegs) ∧
        (x.pic.staged = true → (t.cell c).rbit Reg.RST_STAT 1 = true) ∧
        (t.cell c).reg Reg.ID_AFRAMES = (if x.pic.quiet then x.reg Reg.ID_AFRAMES else x.reg Reg.ID_AFRAMES + 1) ∧
        (t.cell c).reg Reg.ID_QFRAMES = (if x.pic.quiet then x.reg Reg.ID_QFRAMES + 1 else x.reg Reg.ID_QFRAMES))

/-! ## Fetches, line lists, overlay -/

/-- RST_LCMP_MATCH at the position in RST_LCMP sets RST_STAT.LCMP and no other flag, once, and not where a write of
RST_LCMP took effect at or past that position; FETCH_URGENCY raises every request of the
next line that has not returned; FETCH_DATA_RETURN and TAG_RETRY_RETURN complete the requests they name; none of them
touches memory or the processor's registers (R80, R81, R87, R108). -/
def Obligations.BeamPositionEvents : Prop :=
  ∀ (s : State) (c : CellId) (x : Cell), Beaming s c x → x.blt.wb = [] →
    (∀ p, x.beam.inPorch = false → x.fld Reg.RST_LCMP 31 20 + 1 = x.beam.started → x.fld Reg.RST_LCMP 19 0 < x.cpl →
      x.fld Reg.RST_LCMP 31 20 * x.cpl + x.fld Reg.RST_LCMP 19 0 = p →
      ∃ t, exec (.rstLcmpMatch c) s = .next t ∧ OnlyCell c s t ∧ (t.cell c).mem = x.mem ∧
        RegsOnly [Reg.RST_STAT] x (t.cell c) ∧ (t.cell c).evt.lcmpFrom = Nat.max x.evt.lcmpFrom (p + 1) ∧
        (t.cell c).reg Reg.RST_STAT = if x.evt.lcmpFrom ≤ p then x.reg Reg.RST_STAT ||| 8 else x.reg Reg.RST_STAT) ∧
    (x.beam.started ≠ 0 → x.beam.inPorch = false →
      ∃ t, exec (.fetchUrgency c) s = .next t ∧ OnlyCell c s t ∧ (t.cell c).mem = x.mem ∧ (t.cell c).regs = x.regs ∧
        (t.cell c).pic.fetch.length = x.pic.fetch.length ∧
        ∀ f ∈ (t.cell c).pic.fetch, f.arrived = false →
          (if x.beam.started < x.vtotal then f.frame = x.beam.frame ∧ f.line = x.beam.started
            else f.frame = x.beam.frame + 1 ∧ f.line = 0) → f.urgent = true) ∧
    (∀ l line bad f rest, x.pic.fetch = f :: rest → f.layer = l → f.line = line → f.arrived = false →
      ∃ t, exec (.fetchDataReturn c l line bad) s = .next t ∧ OnlyCell c s t ∧ (t.cell c).mem = x.mem ∧
        (t.cell c).regs = x.regs ∧ (t.cell c).cpu = x.cpu ∧ (t.cell c).pic.fetch.tail = rest ∧
        ((t.cell c).pic.fetch.head?.map fun g => (g.arrived, g.data, g.failed)) = some (true, f.data, f.failed)) ∧
    (∀ l line addr ok f rest, x.pic.fetch = f :: rest → f.layer = l → f.line = line → addr / 64 * 64 ∈ f.retry →
      ∃ t, exec (.tagRetryReturn c l line addr ok) s = .next t ∧ OnlyCell c s t ∧ (t.cell c).mem = x.mem ∧
        (t.cell c).regs = x.regs ∧ (t.cell c).cpu = x.cpu ∧ (t.cell c).pic.fetch.tail = rest ∧
        ((t.cell c).pic.fetch.head?.map FetchLine.failed) = some (if ok then f.failed else f.failed ++ [addr / 64 * 64]) ∧
        ((t.cell c).pic.fetch.head?.map fun g => decide (addr / 64 * 64 ∈ g.retry)) = some false)

/-- LINE_LIST_ENTRY carries out the next slot: a write to a register that a line list may write takes effect, one to any other
records BADTGT, the slot behind LMAX entries records OVER; the first error of LNL_STAT is kept in LNL_ERR (R127, R130,
R131). -/
def Obligations.LineListEntries : Prop :=
  ∀ (s : State) (c : CellId) (x : Cell) (r : LnlRun) (slot : LnlSlot), Beaming s c x → x.beam.inPorch = false →
    x.beam.started ≠ 0 → x.blt.wb = [] → x.pic.lnl = some r → r.slots[r.next]? = some slot →
    ∃ t, exec (.lineListEntry c) s = .next t ∧ SameDevice s t ∧
      (t.cell c).pic.lnl = some { r with next := r.next + 1 } ∧
      (t.cell c).beam.fpos = Nat.max x.beam.fpos (x.slotPos (x.beam.started - 1) r.next) ∧ (t.cell c).mem = x.mem ∧
      (∀ off v d, slot = .write off v → lnlTarget off = true → off ∈ plainRegisters → regDesc off = some d →
        RegsOnly [off] x (t.cell c) ∧ (t.cell c).reg off =
          ((x.reg off &&& ~~~(BitVec.ofNat 32 d.rw)) ||| (v &&& BitVec.ofNat 32 d.rw)) &&& ~~~(v &&& BitVec.ofNat 32 d.w1c)) ∧
      (∀ off v, slot = .write off v → lnlTarget off = false →
        RegsOnly [Reg.LNL_STAT, Reg.LNL_ERR, Reg.LNL_ERRFRAME] x (t.cell c) ∧
        (t.cell c).reg Reg.LNL_STAT = (x.reg Reg.LNL_STAT ||| 2) ∧
        (t.cell c).reg Reg.LNL_ERR = if x.reg Reg.LNL_STAT = 0 then BitVec.ofNat 32 (r.line * 2 ^ 20 + 256 + r.next)
          else x.reg Reg.LNL_ERR) ∧
      (∀ lmax, slot = .over lmax → (t.cell c).reg Reg.LNL_STAT = (x.reg Reg.LNL_STAT ||| 1) ∧
        (t.cell c).reg Reg.LNL_ERR = if x.reg Reg.LNL_STAT = 0 then BitVec.ofNat 32 (r.line * 2 ^ 20 + lmax)
          else x.reg Reg.LNL_ERR)

/-- OVERLAY_APPLY of an unmirrored session submits the pending set for the frame that follows, when it lies inside the
native picture and the admitted size; IDR_REQUEST of one places a stamp at least 2 frames ahead and at least IDRMIN behind
the last (R143, R159, R253, R254). -/
def Obligations.OverlayAndIdrRequests : Prop :=
  ∀ (s : State) (c : CellId), s.objsWf = true → s.up = true → s.admittedIn c = true → s.mirrorState c = 0 →
    (s.overlayFits c = true → ∃ t, exec (.overlayApply c) s = .next t ∧ OnlyCell c s t ∧ t.objs = s.objs ∧
      (t.cell c).regs = (s.cell c).regs ∧ (t.cell c).mem = (s.cell c).mem ∧
      (t.cell c).pic.overlay.submitted = some (s.pendingOverlay c,
        if (s.cell c).running then (s.cell c).beam.frame + 1 else (s.cell c).beam.frame)) ∧
    (∀ src, (s.cell c).enc.lastIdr < (s.cell c).beam.frame + 2 →
      ∃ t n, exec (.idrRequest c src) s = .next t ∧ OnlyCell c s t ∧ (t.cell c).regs = (s.cell c).regs ∧
        (t.cell c).enc.stamps = (s.cell c).enc.stamps ++ [n] ∧ (t.cell c).enc.lastIdr = n ∧
        n = Nat.max ((s.cell c).beam.frame + 2) ((s.cell c).enc.lastIdr + (s.cell c).enc.cfg.idrmin))

/-! ## Encoder -/

/-- STRIPE_CLOSE hands the next stripe of the picture to the packet engine, with its check value, and the last one ends the
picture; KEEPALIVE hands over the keep-alive that is due; REFERENCE_DATA_RETURN keeps the reference lines that failed for
the stripe in progress; none of them touches memories, processor or beam (R239, R260, R263, R300). -/
def Obligations.EncoderEvents : Prop :=
  ∀ (s : State) (c : CellId) (x : Cell), Beaming s c x →
    (∀ intact, x.stripeReady = true → ∃ t u, exec (.stripeClose c intact) s = .next t ∧ OnlyCell c s t ∧
      (t.cell c).str.queue = x.str.queue ++ [u] ∧ u.kind = .video ∧ u.frame = x.beam.frame ∧ u.stripe = x.enc.stripe ∧
      u.intact = intact ∧ u.check = stripeCheck x.nlc u.nals ∧ u.key = (x.enc.pic == .idr) ∧
      u.last = decide (x.enc.stripe + 1 = x.stripes) ∧ (t.cell c).enc.stripe = x.enc.stripe + 1 ∧
      (t.cell c).enc.pic = (if x.enc.stripe + 1 = x.stripes then .none else x.enc.pic) ∧
      (t.cell c).mem = x.mem ∧ (t.cell c).regs = x.regs ∧ (t.cell c).cpu = x.cpu ∧ (t.cell c).beam = x.beam) ∧
    (x.enc.keepDue = true → x.stripeLine 0 < x.beam.started → ∃ t u, exec (.keepalive c) s = .next t ∧ OnlyCell c s t ∧
      (t.cell c).str.queue = x.str.queue ++ [u] ∧ u.kind = .keepalive ∧ u.nals = [] ∧ u.check = 0 ∧
      u.frame = x.beam.frame ∧ (t.cell c).enc = { x.enc with keepDue := false } ∧ (t.cell c).mem = x.mem ∧
      (t.cell c).regs = x.regs ∧ (t.cell c).cpu = x.cpu) ∧
    (∀ bad, x.stripeReady = true → x.enc.pic = .active →
      ∃ t, exec (.referenceDataReturn c bad) s = .next t ∧ SameDevice s t ∧
        (t.cell c).enc.refBad = x.enc.refBad ++ bad ∧ (t.cell c).mem = x.mem ∧ (t.cell c).cpu = x.cpu ∧
        (bad = [] → (t.cell c).regs = x.regs) ∧
        (bad ≠ [] → (t.cell c).rbit Reg.CELL_DIVSTAT 3 = true))

/-! ## Block copy and DMA -/

/-- BLT_COMMAND_LAND writes the command's picture into the asset window once the commands accepted earlier that share a
line of data with it have landed; BLT_COMMAND_VISIBLE drops its fence and counts it at its line; DMA_MOVE_LAND stores the
move's rows; DMA_MOVE_VISIBLE drops its fence, counts it and sets its event (R165 to R167, R170, R177, R192). -/
def Obligations.TransferCompletion : Prop :=
  ∀ (s : State) (c : CellId) (x : Cell), Beaming s c x →
    (∀ n bad q, (x.blt.queue.find? fun p => p.seq = n) = some q → q.landed = false →
      (∀ p ∈ x.blt.queue, p.seq < n → p.landed = false → (bltFields p.words).shares (bltFields q.words) = false) →
      ∃ t, exec (.bltCommandLand c n bad) s = .next t ∧ OnlyCell c s t ∧
        (t.cell c).mem = { x.mem with asset := (bltFields q.words).run bad x.mem.asset } ∧ (t.cell c).regs = x.regs ∧
        (t.cell c).cpu = x.cpu ∧ (∀ p ∈ (t.cell c).blt.queue, p.seq = n → p.landed = true)) ∧
    (∀ n q, (x.blt.queue.find? fun p => p.seq = n) = some q → q.landed = true → x.dueNext q.vis = true →
      ∃ t, exec (.bltCommandVisible c n) s = .next t ∧ OnlyCell c s t ∧ (∀ p ∈ (t.cell c).blt.queue, p.seq ≠ n) ∧
        (∀ f ∈ (t.cell c).mem.fences, f.owner ≠ .blt n) ∧ (t.cell c).mem.asset = x.mem.asset ∧
        (t.cell c).reg Reg.BLT_DONECNT = x.reg Reg.BLT_DONECNT + 1 ∧ (t.cell c).rbit Reg.BLT_STAT 0 = true ∧
        (t.cell c).cpu = x.cpu) ∧
    (∀ ch n m, ((x.chan ch).moves.find? fun p => p.seq = n) = some m → m.landed = false → m.dst < 0x80000000 →
      m.src < 0x80000000 → ∃ t, exec (.dmaMoveLand c ch n []) s = .next t ∧ OnlyCell c s t ∧
        (t.cell c).mem = (((dmaRows m.dst m.dstride m.rows).zip ((m.data.zip (dmaRows m.src m.sstride m.rows)).map
          Prod.fst)).foldl (fun y p => y.storeRow p.1 p.2) x).mem ∧ (t.cell c).cpu = x.cpu ∧
        (∀ p ∈ ((t.cell c).chan ch).moves, p.seq = n → p.landed = true)) ∧
    (∀ ch m rest, (x.chan ch).moves = m :: rest → m.landed = true → x.dueNext m.due = true →
      ∃ t, exec (.dmaMoveVisible c ch) s = .next t ∧ OnlyCell c s t ∧ (∀ p ∈ ((t.cell c).chan ch).moves, p.seq ≠ m.seq) ∧
        (∀ f ∈ (t.cell c).mem.fences, f.owner ≠ .dma ch m.seq) ∧ (t.cell c).mem.wram = x.mem.wram ∧
        (t.cell c).mem.vram = x.mem.vram ∧ (t.cell c).mem.asset = x.mem.asset ∧
        (t.cell c).reg (chReg Reg.DMA_CHVIS ch) = x.reg (chReg Reg.DMA_CHVIS ch) + 1 ∧
        (∀ e, m.vevt = some e → e < 16 → (t.cell c).rbit Reg.DMA_EVT e = true))

/-- The instructions of a ready channel whose words are read: END makes it ENDED, SIGNAL sets its events and goes on, LOOP
jumps to its target while its counter is not 0, WAIT holds the channel, a MOVE whose fields pass waits to issue; a word with
a reserved opcode faults the channel with 0x03 (R184, R191, R194). -/
def Obligations.DmaInstructions : Prop :=
  ∀ (s : State) (c : CellId) (x : Cell) (ch : Fin 8) (ws : List Word) (w0 : Nat), Beaming s c x → x.blt.wb = [] →
    x.dmaReady ch = true → (x.chan ch).ending = false → (x.chan ch).words = ws → ws ≠ [] → (ws.getD 0 0).toNat = w0 →
    (bits w0 31 28 = 5 → ∃ t, exec (.dmaEnd c ch) s = .next t ∧ OnlyCell c s t ∧ ((t.cell c).chan ch).state = 3 ∧
      (t.cell c).mem = x.mem ∧ RegsOnly [Reg.DMA_STAT] x (t.cell c) ∧
      (bit w0 27 = true → (t.cell c).rbit Reg.DMA_STAT ch.val = true)) ∧
    (bits w0 31 28 = 4 → ∃ t, exec (.dmaSignal c ch) s = .next t ∧ OnlyCell c s t ∧ (t.cell c).mem = x.mem ∧
      ((t.cell c).chan ch).pc = (x.chan ch).pc + 16 ∧ ((t.cell c).chan ch).state = 1 ∧
      RegsOnly [Reg.DMA_EVT, Reg.DMA_STAT] x (t.cell c) ∧
      (t.cell c).reg Reg.DMA_EVT = (x.reg Reg.DMA_EVT ||| BitVec.ofNat 32 (w0 % 65536)) ∧
      (bit w0 27 = true → (t.cell c).rbit Reg.DMA_STAT (16 + ch.val) = true)) ∧
    (∀ tgt n, bits w0 31 28 = 2 → (ws.getD 1 0).toNat = 0x10000000 + tgt → tgt < 0x40000 → tgt % 16 = 0 → w0 % 65536 ≠ 0xFFFF →
      (if bit w0 27 then (if (x.chan ch).armed1 then (x.chan ch).cnt1 else w0 % 65536)
        else if (x.chan ch).armed0 then (x.chan ch).cnt0 else w0 % 65536) = n →
      ∃ t, exec (.dmaLoop c ch) s = .next t ∧ OnlyCell c s t ∧ (t.cell c).mem = x.mem ∧ RegsOnly [] x (t.cell c) ∧
        ((t.cell c).chan ch).pc = (if n = 0 then (x.chan ch).pc + 16 else tgt) ∧
        (if bit w0 27 then ((t.cell c).chan ch).cnt1 = n - 1 ∧ ((t.cell c).chan ch).armed1 = decide (n ≠ 0)
          else ((t.cell c).chan ch).cnt0 = n - 1 ∧ ((t.cell c).chan ch).armed0 = decide (n ≠ 0))) ∧
    (bits w0 31 28 = 3 → bits w0 27 26 = 2 → ∃ t, exec (.dmaWait c ch) s = .next t ∧ OnlyCell c s t ∧
      (t.cell c).mem = x.mem ∧ RegsOnly [] x (t.cell c) ∧ ((t.cell c).chan ch).state = 2 ∧
      ((t.cell c).chan ch).held = .waitEvent ((ws.getD 1 0).toNat % 65536)) ∧
    (∀ rows width src dst ss ds, bits w0 31 28 = 1 → w0 % 4096 = rows → (ws.getD 3 0).toNat % 2 ^ 24 = width →
      ((ws.getD 1 0) + (x.chan ch).sofs).toNat = src → ((ws.getD 2 0) + (x.chan ch).dofs).toNat = dst →
      bits (x.chan ch).stride.toNat 31 16 = ss → bits (x.chan ch).stride.toNat 15 0 = ds → x.moveFault ch rows width src dst ss ds = 0 →
      ∃ t, exec (.dmaMove c ch) s = .next t ∧ OnlyCell c s t ∧ (t.cell c).mem = x.mem ∧ RegsOnly [] x (t.cell c) ∧
        ((t.cell c).chan ch).held = .move rows width src dst ss ds (bit w0 27) (bit w0 26)
          (if bit w0 25 then some (bits w0 23 20) else none)) ∧
    (bits w0 31 28 = 0 ∨ 6 ≤ bits w0 31 28 → (x.reg (chReg Reg.DMA_CHFREC ch)).getLsbD 0 = false →
      ∃ t, exec (.dmaMove c ch) s = .next t ∧ OnlyCell c s t ∧ ((t.cell c).chan ch).state = 4 ∧
        ((t.cell c).chan ch).code = 3 ∧ (t.cell c).mem = x.mem ∧ (t.cell c).rbit Reg.DMA_STAT (8 + ch.val) = true)

/-- DMA_WAIT_END ends a WAIT whose request is asserted, acknowledging it, and one whose event bits are set; DMA_MOVE_ISSUE
issues a checked MOVE that may issue: it holds a fence, joins the moves in flight with its due line and is counted
(R50, R187, R191). -/
def Obligations.DmaWaitEndAndIssue : Prop :=
  ∀ (s : State) (c : CellId) (x : Cell) (ch : Fin 8), Beaming s c x →
    (∀ req p, (x.chan ch).held = .waitReq req → x.dmaPos ch = p → x.reqOn req p = true →
      ∃ t, exec (.dmaWaitEnd c ch) s = .next t ∧ OnlyCell c s t ∧ (t.cell c).mem = x.mem ∧ (t.cell c).regs = x.regs ∧
        ((t.cell c).chan ch).state = 1 ∧ ((t.cell c).chan ch).held = .none ∧
        ((t.cell c).chan ch).pc = (x.chan ch).pc + 16 ∧ (t.cell c).aud = (x.reqAck req p).aud ∧
        (t.cell c).tmr = (x.reqAck req p).tmr ∧
        (t.cell c).evt.ackPos = (if req < 40 then p else x.evt.ackPos) ∧ ((t.cell c).chan ch).acts = p + 4) ∧
    (∀ mask, (x.chan ch).held = .waitEvent mask → (x.reg Reg.DMA_EVT).toNat &&& mask ≠ 0 → (x.chan ch).low = false →
      ∃ t, exec (.dmaWaitEnd c ch) s = .next t ∧ OnlyCell c s t ∧ (t.cell c).mem = x.mem ∧
        ((t.cell c).chan ch).state = 1 ∧ ((t.cell c).chan ch).held = .none ∧ RegsOnly [Reg.DMA_EVT] x (t.cell c) ∧
        (t.cell c).reg Reg.DMA_EVT = x.reg Reg.DMA_EVT &&& ~~~(BitVec.ofNat 32 mask)) ∧
    (∀ rows width src dst ss ds sadv dadv vevt f frame,
      (x.chan ch).held = .move rows width src dst ss ds sadv dadv vevt →
      x.mayIssue ch rows width src dst ss ds = some (f, frame) →
      ∃ t m, exec (.dmaMoveIssue c ch) s = .next t ∧ OnlyCell c s t ∧
        (t.cell c).mem = { x.mem with fences := x.mem.fences ++ [f] } ∧ ((t.cell c).chan ch).state = 1 ∧
        ((t.cell c).chan ch).held = .none ∧ ((t.cell c).chan ch).pc = (x.chan ch).pc + 16 ∧
        ((t.cell c).chan ch).tprev = frame ∧ ((t.cell c).chan ch).moves = (x.chan ch).moves ++ [m] ∧
        m.landed = false ∧ m.src = src ∧ m.dst = dst ∧ m.rows = rows ∧ m.width = width ∧
        m.due = frame * x.vtotal + x.fld (chReg Reg.DMA_CHDUE ch) 31 20 ∧
        (t.cell c).reg (chReg Reg.DMA_CHISS ch) = x.reg (chReg Reg.DMA_CHISS ch) + 1)

/-! ## House timing -/

/-- SYNC_IN edges, with SYNC as the source: the first after ACQUIRE is the reference edge; a stray edge is counted and
becomes the reference edge in ACQUIRE and HOLDOVER alone; a qualifying edge becomes the reference edge and moves the loop;
three predicted edges in a row without one put a tracking loop into HOLDOVER (R69). A house-frame edge of the device is
counted, opens SYNC_OUT but in ACQUIRE, and takes an epoch that is due; with SYNC it moves a tracking loop by its phase
error; SYNC_OUT_END closes SYNC_OUT (R69, R72, R353). -/
def Obligations.HouseEdges : Prop :=
  (∀ (s : State) (tm : Nat), s.up = true → s.timeFrames = false → s.objsWf = true →
    (∀ err, s.house.refEdge = none → ∃ t, exec (.syncInEdge tm err) s = .next t ∧ t = { s with house := t.house } ∧
      t.house.refEdge = some tm ∧ t.house.good = 0 ∧ t.house.loop = s.house.loop ∧ t.house.edges = s.house.edges) ∧
    (∀ err r, s.house.refEdge = some r → s.qualifies (tm - r) = none →
      ∃ t, exec (.syncInEdge tm err) s = .next t ∧ CellsKept s t ∧ t.house.loop = s.house.loop ∧
        t.obj 0x2000 4 = addCount 0x2000 4 (s.obj 0x2000 4) 1 ∧
        t.house.refEdge = (if s.house.loop.tracking then some r else some tm) ∧
        t.house.good = (if s.house.loop.tracking then s.house.good else 0)) ∧
    (∀ err r k, s.house.refEdge = some r → s.qualifies (tm - r) = some k →
      ∃ t, exec (.syncInEdge tm err) s = .next t ∧ CellsKept s t ∧ t.house.refEdge = some tm ∧ t.house.missed = 0 ∧
        t.house.loop = loopAfter s.house.loop (if k = 1 then s.house.good + 1 else 0) err ∧
        t.house.lastEdge = s.house.lastEdge) ∧
    (s.house.loop.tracking = true → ∃ t, exec (.predictedEdge tm) s = .next t ∧ CellsKept s t ∧
      t.house.refEdge = s.house.refEdge ∧ t.house.good = 0 ∧
      t.house.loop = (if s.house.missed + 1 < 3 then s.house.loop else .holdover) ∧
      t.house.missed = if s.house.missed + 1 < 3 then s.house.missed + 1 else 0)) ∧
  (∀ (s : State) (tm : Nat) (err : Int),
    (s.up = true → s.timeFrames = false → ∃ t, exec (.houseFrameEdge tm err) s = .next t ∧ CellsKept s t ∧
      t.house.edges = s.house.edges + 1 ∧ t.house.lastEdge = tm ∧ t.house.refEdge = s.house.refEdge ∧
      t.house.loop = (if s.house.loop.tracking then loopAfter s.house.loop s.house.good err else s.house.loop) ∧
      t.house.syncOut = decide (t.house.loop ≠ .acquire) ∧
      t.ring.epoch = match s.ring.nextEpoch with
        | some (v, at') => if at' ≤ tm then v else s.ring.epoch
        | none => s.ring.epoch) ∧
    (∃ t, exec .syncOutEnd s = .next t ∧ t = { s with house := { s.house with syncOut := false } }))

/-- House time: a PPS_IN edge sets it to the second that the operator gave and goes on counting seconds, while neither PTP
nor the ring is the source; PPS_OUT goes high at a whole second unless house time runs free; a PTP exchange sets it on the
active manager; the loss of a source leaves the next one (R65, R66, R72). -/
def Obligations.HouseTime : Prop :=
  ∀ (s : State) (tm : Nat),
    (∀ sec, s.up = true → s.house.ptp = false → s.obj 0x2000 8 ≠ 0 → s.timeSource ≠ 3 → s.house.ppsNext = some sec →
      ∃ t, exec (.ppsInEdge tm) s = .next t ∧
        t = { s with house := { s.house with time := sec * 1000000000, ppsNext := some (sec + 1), pps := true } }) ∧
    (∃ t, exec (.houseSecond tm) s = .next t ∧ t = { s with house := t.house } ∧ t.house.loop = s.house.loop ∧
      t.house.ppsOut = (s.up && decide (s.timeSource ≠ 2) && decide (tm % 1000000000 = 0))) ∧
    (∃ t, exec .ppsOutEnd s = .next t ∧ t = { s with house := { s.house with ppsOut := false } }) ∧
    (∀ m off delay, s.up = true → s.obj 0x2001 1 = 1 → s.isManager = true → m.transport = s.obj 0x2001 2 →
      m.domain = s.obj 0x2001 3 → m.event = .measured off delay → 2 ≤ s.obj 0x2001 7 → s.objsWf = true →
      ∃ t, exec (.ptpMessage m) s = .next t ∧ CellsKept s t ∧ t.house.ptp = true ∧
        t.house.time = ((s.house.time : Int) - off).toNat ∧ t.obj 0x2001 5 = wrap 64 off ∧
        t.obj 0x2001 6 = delay % 2 ^ 32 ∧ t.obj 0x2001 7 = 3) ∧
    (∀ m, m.event = .unsupported → exec (.ptpMessage m) s = .next s) ∧
    (s.isManager = true → ∃ t, exec .houseTimeSourceLoss s = .next t ∧ CellsKept s t ∧ t.house.time = s.house.time ∧
      t.timeSource = if s.house.ptp && s.house.pps then 1 else 2)

/-! ## Streams and input -/

/-- STREAM_PACKET_EGRESS on the active manager: the next packet of the unit at the head of the queue leaves by the session's
uplink interface as one frame, uses one sequence number of its stream and is counted; the unit goes with its last packet. A
withheld unit uses its numbers and sends nothing; while the device is fenced nothing leaves (R272, R275, R278, R301, R355).
UPLINK_FRAME_RECEIVE counts the frame; one with a wrong FCS, an oversized one and one outside the receive VLAN are dropped
and counted; an ARP request for an address of the interface is answered (R283). -/
def Obligations.UplinkTraffic : Prop :=
  (∀ (s : State) (c : CellId) (x : Cell) (u : EUnit) (rest : List EUnit) (n : Nat), s.cell c = x → s.up = true →
    s.power.withdrawn = false → x.sess.state = .running ∨ x.sess.state = .migrating → x.str.egress = true →
    x.str.queue = u :: rest → (x.unitPayloads u).length = n → s.objsWf = true →
    (∀ k, u.intact = true → s.fenced = false → (s.mirrors[c]).reopen = false → s.keysOf c = some k → s.isManager = true →
      ∃ t, exec (.streamPacketEgress c) s = .next t ∧ OnlyCell c s t ∧
        t.tx = s.tx ++ [.uplink x.uplinkIf (x.fixEpoch.packetFrame (s.uplinkAddr x.uplinkIf) k.master k.salt u
          (x.fixEpoch.unitPayloads u))] ∧
        t.obj (cellObj c 0x1F) (if u.isAudio then 3 else 2) =
          addCount (cellObj c 0x1F) (if u.isAudio then 3 else 2) (s.obj (cellObj c 0x1F) (if u.isAudio then 3 else 2)) 1 ∧
        (t.cell c).str.queue = (if x.str.sent + 1 < n then u :: rest else rest) ∧
        (t.cell c).str.sent = (if x.str.sent + 1 < n then x.str.sent + 1 else 0) ∧
        (u.isAudio = false → (t.cell c).str.vseq = (x.str.vseq + 1) % 65536 ∧ (t.cell c).str.aseq = x.str.aseq ∧
          (t.cell c).str.vroc = x.str.vroc + (x.str.vseq + 1) / 65536) ∧
        (u.isAudio = true → (t.cell c).str.aseq = (x.str.aseq + 1) % 65536 ∧ (t.cell c).str.vseq = x.str.vseq ∧
          (t.cell c).str.aroc = x.str.aroc + (x.str.aseq + 1) / 65536) ∧
        (t.cell c).regs = x.regs ∧ (t.cell c).mem = x.mem) ∧
    (u.intact = false → ∃ t, exec (.streamPacketEgress c) s = .next t ∧ OnlyCell c s t ∧ t.tx = s.tx ∧ t.objs = s.objs ∧
      (t.cell c).str.queue = rest ∧ (t.cell c).str.sent = 0 ∧
      (u.isAudio = false → (t.cell c).str.vseq = (x.str.vseq + (n - x.str.sent)) % 65536)) ∧
    (u.intact = true → s.fenced = true → ∃ t, exec (.streamPacketEgress c) s = .next t ∧ OnlyCell c s t ∧ t.tx = s.tx ∧
      (t.cell c).str.queue = rest ∧ (t.mirrors[c]).reopen = true)) ∧
  (∀ (s : State) (i : Fin 2) (f : Bytes), s.up = true → s.power.uplink = true → s.objsWf = true →
    (∃ t, exec (.uplinkFrameReceive i f false) s = .next t ∧ t = { s with objs := t.objs } ∧
      t.obj 0x2011 1 = addCount 0x2011 1 (s.obj 0x2011 1) 1 ∧ t.obj 0x2011 2 = addCount 0x2011 2 (s.obj 0x2011 2) 1 ∧
      t.obj 0x2011 3 = s.obj 0x2011 3) ∧
    (1518 < f.length ∨ vlanView (s.obj 0x2010 8) f = none →
      ∃ t, exec (.uplinkFrameReceive i f true) s = .next t ∧ t = { s with objs := t.objs } ∧
        t.obj 0x2011 1 = addCount 0x2011 1 (s.obj 0x2011 1) 1 ∧ t.obj 0x2011 3 = addCount 0x2011 3 (s.obj 0x2011 3) 1 ∧
        t.obj 0x2011 2 = s.obj 0x2011 2) ∧
    (∀ p, f.length ≤ 1518 → vlanView (s.obj 0x2010 8) f = some (0x0806, p) → isArp (s.uplinkAddr i.val) p = true →
      ∃ t, exec (.uplinkFrameReceive i f true) s = .next t ∧ t = { s with objs := t.objs, tx := t.tx } ∧
        t.obj 0x2011 1 = addCount 0x2011 1 (s.obj 0x2011 1) 1 ∧ t.obj 0x2011 3 = s.obj 0x2011 3 ∧
        t.tx = s.tx ++ [.uplink i.val (ethernet (field p 8 6) (s.uplinkAddr i.val).mac (s.obj 0x2010 8) 0 0x0806
          (arpReply (s.uplinkAddr i.val) p))]))

/-- PLI and FIR: an authentic SRTCP packet with a request for a session's video stream, with an index above the last one
accepted, stamps an IDR at least 2 frames ahead in every cell of the session here, and is counted; one that does not
authenticate or repeats an index has no effect. A PICTURE_LOSS that is authentic, new and for a running session does the
same and stamps nothing (R253, R284, R287). -/
def Obligations.ViewerRequests : Prop :=
  ∀ (s : State), s.up = true → s.isManager = true → s.objsWf = true →
    (∀ (p : Srtcp) (h : RingSession) (last : Option Nat),
      (s.hosts.find? fun h => decide (h.role = 1) && h.admitted && field h.desc 144 4 == p.ssrc.toNat &&
        field h.desc 138 2 + 1 == p.dstPort && field h.desc 164 16 == p.srcAddr) = some h →
      (s.net.srtcp.find? fun q => q.1 = h.session).map Prod.snd = last →
      ∀ i ∈ [Instr.pli p, Instr.fir p],
        (p.authentic = true → (∀ k, last = some k → k < p.index) → ∃ t, exec i s = .next t ∧ SameDevice s t ∧
          (h.session, p.index) ∈ t.net.srtcp ∧
          t.cells = (s.stampIdrHere h.session (s.idrFrame h.session)).cells ∧
          (h.node = s.ring.node → t.obj (0x3000 + 0x20 * (h.cell % 64) + 0x1F) 6 =
            addCount (0x3000 + 0x20 * (h.cell % 64) + 0x1F) 6 (s.obj (0x3000 + 0x20 * (h.cell % 64) + 0x1F) 6) 1)) ∧
        (p.authentic = false → exec i s = .next s) ∧
        (∀ k, last = some k → p.index ≤ k → exec i s = .next s)) ∧
    (∀ (tm : Nat) (src : NetAddr) (u : Bytes) (h : RingSession), InputFor s u h → field u 1 1 = 2 →
      (h.state = 3 ∨ h.state = 5) →
      ((s.inputOf h.session).players.find? fun p => p.player = field u 2 1) = none →
      ∃ t, exec (.pictureLoss tm src u) s = .next t ∧ t.ridges = s.ridges ∧ t.keeper = s.keeper ∧ t.net.inputQ = s.net.inputQ ∧
        match opened u h with
        | none => t.cells = s.cells ∧ t.obj 0x2011 8 = addCount 0x2011 8 (s.obj 0x2011 8) 1
        | some _ => t.cells = (s.stampIdrHere h.session (s.idrFrame h.session)).cells)

/-- INPUT_MESSAGE: a datagram that passes steps 1 and 2 of R287 is counted and dropped when its tag does not verify; with
a SEQ not above the player's last one it is a replay, counted and never stamped; for a session that does not run its SEQ
is recorded alone; otherwise it is stamped, the stamped message waits for the ring, or it is counted as an OVERLOAD when
no stamp is left (R287, R289, R290). -/
def Obligations.InputMessages : Prop :=
  ∀ (s : State) (tm : Nat) (src : NetAddr) (u : Bytes) (h : RingSession) (i : SessInput) (o : Nat),
    InputFor s u h → field u 1 1 = 1 → s.inputOf h.session = i → s.objsWf = true → h.node = s.ring.node →
    0x3000 + 0x20 * (h.cell % 64) + 0x1F = o →
    ∃ t, exec (.inputMessage tm src u) s = .next t ∧ CellsKept s t ∧
      match opened u h with
      | none => t.net = s.net ∧ t.obj 0x2011 8 = addCount 0x2011 8 (s.obj 0x2011 8) 1 ∧ t.tx = s.tx
      | some payload =>
        if (i.players.find? fun p => p.player = field u 2 1).any (fun p => decide (field u 12 4 ≤ p.seq)) then
          t.net = s.net ∧ t.obj o 5 = addCount o 5 (s.obj o 5) (2 ^ 32) ∧ t.tx = s.tx
        else if h.state ≠ 3 ∧ h.state ≠ 5 then
          t.net.inputQ = s.net.inputQ ∧ t.obj o 5 = addCount o 5 (s.obj o 5) 1 ∧
            t.inputOf h.session = i.note (field u 2 1) (field u 12 4) none
        else match (i.note (field u 2 1) (field u 12 4) (some src)).stamp (s.beamLine h i tm) h.delay with
          | none => t.net.inputQ = s.net.inputQ ∧ t.obj o 0x0B = addCount o 0x0B (s.obj o 0x0B) 1 ∧
              t.inputOf h.session = i.note (field u 2 1) (field u 12 4) (some src)
          | some (a, j) => t.inputOf h.session = j ∧ t.objs = s.objs ∧
              t.net.inputQ = s.net.inputQ ++ [stampedBytes h.session (a / h.vtotal % 2 ^ 32) (a % h.vtotal) (field u 2 1)
                j.seq (fitBytes (field u 3 1) payload)]

/-- The stamps of R289: a stamped line lies at least DELAY lines ahead and never before the last stamped one, takes at most 8
stamps, and the sequence number rises by one; with 120 stamps on lines that are not yet past there is none left. -/
def Obligations.InputStamps : Prop :=
  ∀ (i : SessInput) (now delay : Nat), Sparse.wf (fun _ => 0) i.stamped = true → 1 ≤ delay →
    (i.stamp now delay = none ↔
      120 ≤ ((i.stamped.filter fun q => decide (now + 1 ≤ q.1 + delay)).map Prod.snd).sum) ∧
    (∀ a j, i.stamp now delay = some (a, j) → (∀ b, i.count b ≤ 8) →
      now + delay ≤ a ∧ i.lastA ≤ a ∧ j.lastA = a ∧ j.seq = (i.seq + 1) % 2 ^ 32 ∧ j.session = i.session ∧
      (∀ b, j.count b ≤ 8) ∧ j.count a = i.count a + 1 ∧
      (∀ b, b ≠ a → now + 1 ≤ b + delay → j.count b = i.count b) ∧
      (∀ b, Nat.max (now + delay) i.lastA ≤ b → b < a → i.count b = 8))

/-- INPUT_FRAME_SEND: up to four stamped messages leave in one INPUT frame both ways round; STAMPED_MESSAGE_RECEIVE brings a
stamped message to every cell here that holds its session and to no other; INPUT_APPLY makes a message readable once its
line is reached, or drops and counts it on a full FIFO; REPORT_SEND sends a report to its player's address, or drops and
counts it (R52, R290, R293, R294). -/
def Obligations.InputDelivery : Prop :=
  ∀ (s : State), s.up = true → s.objsWf = true →
    (∀ m ms, s.isManager = true → s.net.inputQ = m :: ms → s.onRing = true → s.ring.east.failed = false →
      s.ring.west.failed = false → s.ring.order ≠ [] →
      ∃ t f, exec .inputFrameSend s = .next t ∧ t.net.inputQ = ms.drop 3 ∧ f.cls = .input ∧ f.bcast = true ∧
        f.payload = (m :: ms.take 3).flatten ∧ f.hops = s.ring.order.length - 1 ∧
        Tx.ring .east f ∈ t.tx ∧ Tx.ring .west f ∈ t.tx) ∧
    (∀ m, (∀ c, (s.cell c).outbox = []) → ∃ t, exec (.stampedMessageReceive m) s = .next t ∧ SameDevice s t ∧
      ∀ c, t.cell c = (if s.takesStamped c m then { (s.cell c).stampedReceive m with outbox := [] } else s.cell c) ∧
        t.obj (cellObj c 0x1F) 4 =
          if s.takesStamped c m then addCount (cellObj c 0x1F) 4 (s.obj (cellObj c 0x1F) 4) 1 else s.obj (cellObj c 0x1F) 4) ∧
    (∀ c x m, Beaming s c x → x.str.staging = [m] → m.late = false → x.passed m.frame m.line x.beam.started = true →
      m.seq = (x.str.lastSeq + 1) % 2 ^ 32 → ∃ t, exec (.inputApply c) s = .next t ∧ OnlyCell c s t ∧
        (t.cell c).str.lastSeq = m.seq ∧ (t.cell c).str.staging = [] ∧ (t.cell c).mem = x.mem ∧ (t.cell c).cpu = x.cpu ∧
        (x.str.fifo.length < 64 → (t.cell c).str.fifo = x.str.fifo ++ [m] ∧ (t.cell c).rbit Reg.INP_STAT 0 = true ∧
          RegsOnly [Reg.INP_STAT] x (t.cell c)) ∧
        (64 ≤ x.str.fifo.length → (t.cell c).str.fifo = x.str.fifo ∧ (t.cell c).rbit Reg.INP_STAT 1 = true ∧
          RegsOnly [Reg.INP_STAT, Reg.INP_DROPS] x (t.cell c))) ∧
    (∀ session r rest h, s.isManager = true → s.net.reports = (session, r) :: rest → s.sessionInfo session = some h →
      ∃ t, exec .reportSend s = .next t ∧ CellsKept s t ∧ t.net = { s.net with reports := rest } ∧
        match ((s.inputOf session).players.find? fun p => p.player = r.player).bind Player.addr with
        | some dst => t.objs = s.objs ∧
            t.tx = (s.toPlayer h dst (protectedMsg h.key h.salt 0x82 2 r.player session r.seq r.payload)).tx
        | none => h.node = s.ring.node → t.tx = s.tx ∧ t.obj (0x3000 + 0x20 * (h.cell % 64) + 0x1F) 8 =
            addCount (0x3000 + 0x20 * (h.cell % 64) + 0x1F) 8 (s.obj (0x3000 + 0x20 * (h.cell % 64) + 0x1F) 8) 1)

/-! ## Sessions -/

/-- DESCRIPTOR_WRITE on a device that is awake: a descriptor with a wrong field, of a session that a cell of the ring holds,
or for a cell that is not FREE is refused with 0x01, 0x02 or 0x03, and nothing else of a cell changes; otherwise the cell
enters LOADING as a primary, reset, and its ridge is wanted. A device that is PARKED wakes first and keeps the descriptor
(R313, R323, R443, R445). -/
def Obligations.DescriptorWrite : Prop :=
  ∀ (s : State) (c : CellId) (desc : Bytes), s.up = true → s.objsWf = true → field desc 1 1 ≠ 1 →
    (s.power.state ≠ .parked → s.power.moving = none →
      (∀ o, descFault desc (!s.power.twin) = some o → ∃ t, exec (.descriptorWrite c desc) s = .next t ∧ CellsKept s t ∧
        t.obj (cellObj c 0x10) 7 = 0x01 * 2 ^ 24 + o % 2 ^ 24) ∧
      (descFault desc (!s.power.twin) = none →
        ((s.hosts.any fun h => decide (h.session = field desc 4 8 ∧ h.state ≠ 0)) = true →
          ∃ t, exec (.descriptorWrite c desc) s = .next t ∧ CellsKept s t ∧ t.obj (cellObj c 0x10) 7 = 0x02 * 2 ^ 24) ∧
        ((s.hosts.any fun h => decide (h.session = field desc 4 8 ∧ h.state ≠ 0)) = false →
          ((s.cell c).sess.state ≠ .free → ∃ t, exec (.descriptorWrite c desc) s = .next t ∧ CellsKept s t ∧
            t.obj (cellObj c 0x10) 7 = 0x03 * 2 ^ 24 + (s.ring.node % 256 * 256 + c.val) % 2 ^ 24) ∧
          ((s.cell c).sess.state = .free → ∃ t, exec (.descriptorWrite c desc) s = .next t ∧
            (t.cell c).sess = { Session.reset with state := .loading, role := .primary, desc := desc } ∧
            (t.cell c).mem = Store.reset ∧ (t.cell c).cpu = Cpu.reset ∧ (t.ridges[ridgeOf c]).wanted = true ∧
            t.keeper = s.keeper ∧ t.house = s.house ∧
            ∀ d, d ≠ c → (t.cell d).sess = (s.cell d).sess ∧ (t.cell d).mem = (s.cell d).mem ∧
              (t.cell d).cpu = (s.cell d).cpu)))) ∧
    (s.power.state = .parked → s.power.moving = none → (s.cell c).sess.state = .free →
      ∃ t, exec (.descriptorWrite c desc) s = .next t ∧ t.power.moving = some .idle ∧
        t.power.waitDesc = s.power.waitDesc ++ [c] ∧ (t.cell c).sess.desc = desc ∧ (t.cell c).sess.state = .free ∧
        t.objs = s.objs ∧ ∀ d, d ≠ c → t.cell d = s.cell d)

/-- ADMISSION_CALCULUS on a LOADING cell whose image is whole: a refusal returns the cell to FREE, without keys, and is
recorded with its code and detail; an accepted plain session of a device in PRODUCTION with a delivery key is ADMITTED as
the calculus leaves it, with keys of its own; while a hold or a handover is in force the calculus waits (R313, R387, R397,
R398). -/
def Obligations.AdmissionCalculus : Prop :=
  ∀ (s : State) (c : CellId) (v : RingView), s.up = true → s.objsWf = true → (s.cell c).sess.state = .loading →
    (s.cell c).sess.image.complete = true → (s.mirrors[c]).keyx = false →
    (∀ code detail, s.calcReady c = true → s.verdict c v = .inl (code, detail) →
      ∃ t, exec (.admissionCalculus c v) s = .next t ∧ (t.cell c).sess = Session.reset ∧ (t.cell c).mem = Store.reset ∧
        t.keysOf c = none ∧ t.obj (cellObj c 0x10) 7 = code * 2 ^ 24 + detail % 2 ^ 24) ∧
    (∀ y dk, s.calcReady c = true → s.verdict c v = .inr y → CellEvent.idr ∉ y.outbox → y.sess.role = .primary →
      y.mirrored = false → s.keeper.lifecycle = 2 → s.keeper.restarting = false → s.deliveryKey (y.desc 12 8) = some dk →
      ∃ t k, exec (.admissionCalculus c v) s = .next t ∧ t.cell c = { y with outbox := [] } ∧ t.keysOf c = some k ∧
        k.master.length = (if y.desc 127 1 = 0 then 16 else 32) ∧ k.salt.length = 12 ∧ k.input.length = 16 ∧
        k.isalt.length = 12 ∧ (∀ d, d ≠ c → t.cell d = s.cell d ∧ t.keysOf d = s.keysOf d) ∧
        t.power.ticket = s.power.ticket + 1) ∧
    (s.calcReady c = false → ∃ t, exec (.admissionCalculus c v) s = .next t ∧ OnlyCell c s t ∧
      t.cell c = { s.cell c with sess := { (s.cell c).sess with view := some v } })

/-- Commands of a session: one that comes while another pends takes result 2, END excepted; one that its state does not
allow takes result 1; nothing of a cell changes. On the active manager an accepted START, PARK or END pends with the stamp of
R324; a RESUME whose repeated checks pass, and a MIGRATE whose target accepts, pend with a stamp too; otherwise they are
refused and pend no longer (R324, R325, R326). -/
def Obligations.SessionCommands : Prop :=
  ∀ (s : State) (c : CellId) (tm : Nat) (v : RingView), s.up = true → s.objsWf = true →
    (∀ q ∈ [(Instr.start c tm, SessCmd.start), (.park c tm, .park), (.resume c tm v, .resume), (.endSession c tm, .endIt),
        (.migrate c tm v, .migrate)],
      ((s.cell c).sess.pending = none → q.2.applies (s.cell c).sess.state = false →
        ∃ t, exec q.1 s = .next t ∧ CellsKept s t ∧ t.obj (cellObj c 0x10) 8 = 1) ∧
      (∀ p, (s.cell c).sess.pending = some p → p.2 ≠ 0 → q.2 ≠ .endIt →
        ∃ t, exec q.1 s = .next t ∧ CellsKept s t ∧ t.obj (cellObj c 0x10) 8 = 2)) ∧
    (∀ q ∈ [(Instr.start c tm, SessCmd.start), (.park c tm, .park), (.endSession c tm, .endIt)], ∀ h,
      s.isManager = true → s.waits = false → (s.cell c).sess.pending = none →
      q.2.applies (s.cell c).sess.state = true → s.sessionInfo (s.cell c).sessionId = some h →
      ∃ t, exec q.1 s = .next t ∧ t.obj (cellObj c 0x10) 8 = 0 ∧ (t.cell c).sess.state = (s.cell c).sess.state ∧
        (t.cell c).sess.pending = some (q.2, (s.at tm).stampTime h.phase) ∧
        ∀ d, (t.cell d).mem = (s.cell d).mem ∧ (t.cell d).cpu = (s.cell d).cpu ∧ (t.cell d).regs = (s.cell d).regs) ∧
    (s.isManager = true → s.waits = false → (s.cell c).sess.pending = none → (s.cell c).sess.state = .parked →
      (∀ f, s.resumeRefusal c tm v = some f → ∃ t, exec (.resume c tm v) s = .next t ∧ t.obj (cellObj c 0x10) 8 = 0 ∧
        t.obj (cellObj c 0x10) 7 = f.1 * 2 ^ 24 + f.2 % 2 ^ 24 ∧ OnlyCell c (s.at tm) t ∧
        t.cell c = { s.cell c with sess := { (s.cell c).sess with pending := none, view := none } }) ∧
      (s.resumeRefusal c tm v = none → ∃ t T, exec (.resume c tm v) s = .next t ∧ t.obj (cellObj c 0x10) 8 = 0 ∧
        (t.cell c).sess.pending = some (.resume, T) ∧ (t.cell c).sess.state = .parked ∧ (t.cell c).mem = (s.cell c).mem)) ∧
    (s.isManager = true → s.waits = false → (s.cell c).sess.pending = none → (s.cell c).sess.state = .running →
      s.fullOn c = false →
      (v.partnerCode ≠ 0 → ∃ t, exec (.migrate c tm v) s = .next t ∧ t.obj (cellObj c 0x10) 8 = 0 ∧
        t.obj (cellObj c 0x10) 7 = v.partnerCode * 2 ^ 24 ∧ (t.cell c).sess.pending = none) ∧
      (v.partnerCode = 0 → ∃ t T, exec (.migrate c tm v) s = .next t ∧ t.obj (cellObj c 0x10) 8 = 0 ∧
        (t.cell c).sess.pending = some (.migrate, T) ∧ (t.cell c).sess.state = .running ∧
        (t.cell c).mem = (s.cell c).mem))

/-- The stamped boundaries: START runs the session from its entry point with egress on a primary alone; PARK stops it after the
frame that ends; RESUME runs it on with the frame it stopped before; MIGRATE makes the source MIGRATING with a mirror that is
DIVERGED; END clears memories and keys and leaves the cell ENDED, or FREE when it never ran (R29, R323, R325, R326, R327,
R388). -/
def Obligations.StampedBoundaries : Prop :=
  ∀ (s : State) (c : CellId) (T : Nat), s.up = true → s.objsWf = true → (s.cell c).outbox = [] → (s.dbg[c]).waiting = [] →
    (s.stampOf c .start = some T → (s.cell c).sess.state = .admitted → ∃ t, exec (.startApply c) s = .next t ∧
      (t.cell c).sess = { (s.cell c).sess with state := .running, pending := none, first := T } ∧
      (t.cell c).cpu = { Cpu.reset with pc := BitVec.ofNat 32 (field (s.cell c).sess.image.req 4 4), inReset := false } ∧
      (t.cell c).str.egress = decide ((s.cell c).sess.role = .primary) ∧ (t.cell c).mem = (s.cell c).mem ∧
      (t.cell c).beam = Beam.reset ∧ ∀ d, d ≠ c → t.cell d = s.cell d) ∧
    (s.stampOf c .park = some T → s.atBoundary c = true → (s.cell c).sess.biteEnd = false → (s.cell c).beam.held = false →
      ∃ t, exec (.parkApply c) s = .next t ∧ (t.cell c).sess.state = .parked ∧ (t.cell c).sess.pending = none ∧
        (t.cell c).sess.first = T ∧ (t.cell c).beam.frame = (s.cell c).beam.frame + 1 ∧ (t.cell c).beam.started = 0 ∧
        ∀ d, d ≠ c → t.cell d = s.cell d) ∧
    (s.stampOf c .resume = some T → (s.cell c).sess.state = .parked → (s.cell c).beam.held = false →
      ∃ t, exec (.resumeApply c) s = .next t ∧ (t.cell c).sess.state = .running ∧ (t.cell c).sess.pending = none ∧
        (t.cell c).sess.first = T ∧ (t.cell c).beam.frame = (s.cell c).beam.frame ∧ ∀ d, d ≠ c → t.cell d = s.cell d) ∧
    (s.stampOf c .migrate = some T → s.atBoundary c = true → (s.cell c).sess.biteEnd = false →
      ∃ t, exec (.migrateApply c) s = .next t ∧ (t.cell c).sess.state = .migrating ∧ (t.cell c).sess.pending = none ∧
        (t.cell c).beam.frame = (s.cell c).beam.frame + 1 ∧ t.mirrorState c = 2 ∧ ∀ d, d ≠ c → t.cell d = s.cell d) ∧
    (s.stampOf c .endIt = some T →
      (s.atBoundary c = true ∨ (s.cell c).sess.state = .parked → ∃ t, exec (.endApply c) s = .next t ∧
        (t.cell c).sess.state = .ended ∧ (t.cell c).mem = Store.reset ∧ t.keysOf c = none ∧ t.mirrorState c = 0 ∧
        t.obj (cellObj c 0x10) 0x0B = 1 ∧ ∀ d, d ≠ c → t.cell d = s.cell d) ∧
      ((s.cell c).sess.state = .admitted → ∃ t, exec (.endApply c) s = .next t ∧ (t.cell c).sess = Session.reset ∧
        (t.cell c).mem = Store.reset ∧ t.keysOf c = none ∧ t.obj (cellObj c 0x10) 0x0B = 1))

/-! ## Ring -/

/-- Every ring frame that is not for this node goes on out of the other port with one hop less, or ends here without an
effect when no hop is left; the second copy of a broadcast is not taken; a frame for this node whose CRC fails is counted
and not taken (R332, R334, R342). -/
def Obligations.RingForwarding : Prop :=
  ∀ (s : State) (p : PortSide) (f : RingFrame) (rt : Nat) (i : Instr), s.power.phase = .running → frameRow p f rt = some i →
    (f.bcast = false → f.dst ≠ s.ring.node → 1 < f.hops →
      exec i s = .next ((s.setRing (s.ring.hear f.src)).emit (otherSide p) (s.onward p f))) ∧
    (f.bcast = false → f.dst ≠ s.ring.node → f.hops ≤ 1 → exec i s = .next (s.setRing (s.ring.hear f.src))) ∧
    (f.bcast = false → f.dst = s.ring.node → f.crcOk = false → ∃ t, exec i s = .next t ∧
      t = s.setRing { s.ring.hear f.src with crcFails := s.ring.crcFails + 1 }) ∧
    (f.bcast = true → f.crcOk = true → s.ring.firstCopy f = false → 1 < f.hops →
      exec i s = .next ((s.setRing (s.ring.hear f.src)).emit (otherSide p) (s.onward p f))) ∧
    (f.bcast = true → f.crcOk = true → s.ring.firstCopy f = false → f.hops ≤ 1 →
      exec i s = .next (s.setRing (s.ring.hear f.src)))

/-- SYNC sets house time from TIME and ACCUM, the lease state and the edge offset; a BEACON without an active manager's bit,
divergences and entries records what the node says of itself; a STREAM frame leaves on the uplink of an active manager that
may egress (R333, R342, R344, R346, R352). -/
def Obligations.SyncBeaconStream : Prop :=
  ∀ (s : State) (p : PortSide) (f : RingFrame), Taken s f →
    (f.cls = .sync → s.isManager = false → f.src = s.ring.manager → s.objsWf = true →
      ∃ t, exec (.syncFrame p f) s = .next t ∧ CellsKept s t ∧
        t.house = { s.house with time := field f.payload 0 8 + field f.payload 8 4 / 16 } ∧
        t.ring.syncLease = bit (field f.payload 24 1) 7 ∧ t.ring.syncTime = t.house.time ∧
        t.obj 0x6000 0x0C = wrap 32 ((s.house.lastEdge : Int) - (field f.payload 12 8 : Nat))) ∧
    (f.cls = .beacon → f.src ≠ s.ring.node → bit (field f.payload 12 1) 5 = false → field f.payload 16 8 = 0 →
      field f.payload 13 1 = 0 → ∃ t, exec (.beacon p f) s = .next t ∧ CellsKept s t ∧ t.house = s.house ∧
        t.objs = s.objs ∧ t.tx = s.tx ∧ (t.ring.peer f.src).missed = 0 ∧ (t.ring.peer f.src).heard = true ∧
        (t.ring.peer f.src).lost = false ∧ (t.ring.peer f.src).warn = bit (field f.payload 12 1) 7 ∧
        (t.ring.peer f.src).fenced = bit (field f.payload 12 1) 2 ∧ (t.ring.peer f.src).epoch = field f.payload 8 4 ∧
        ∀ n, n ≠ f.src → t.ring.peer n = s.ring.peer n) ∧
    (f.cls = .stream → s.isManager = true → s.power.withdrawn = false → ∃ t, exec (.streamFrame p f) s = .next t ∧
      CellsKept s t ∧ t.objs = s.objs ∧
      t.tx = if s.fenced then s.tx else s.tx ++ [.uplink (f.typ % 2) f.payload])

/-- The frames of membership and of managers, with the content that their payload has: TOPO of no older generation sets the
ring order; PROBE is answered in the node's next slot; PROBE_REPLY of the probed joiner puts it into the ring order, and
any other sets the link latency; JOIN names the node of a joiner; LEAVE removes a node, or takes this device off the ring;
PROMOTED names the primary of a session; EPOCH waits for its time; ACTIVE names the manager; ROLE names the standby
(R333, R339 to R343, R347, R353, R354, R356). -/
def Obligations.MembershipFrames : Prop :=
  ∀ (s : State) (p : PortSide) (f : RingFrame), Taken s f → f.cls = .control →
    (f.typ = 0 → ∃ t, exec (.topo p f) s = .next t ∧ CellsKept s t ∧ match Config.ringParse 0 f.payload with
      | some (.topo order _ gen) => t.ring.order = (if gen < s.ring.topo then s.ring.order else order) ∧
          t.ring.topo = Nat.max gen s.ring.topo
      | _ => t = s.arrived f) ∧
    (f.typ = 1 → s.ring.member = true → ∃ t g, exec (.probe p f) s = .next t ∧ CellsKept s t ∧ t.tx = s.tx ∧
      t.ring.ctl = s.ring.ctl ++ [g] ∧ g.typ = 2 ∧ g.dst = f.src % 16 ∧ g.payload = beBytes 8 Config.deviceId.toNat) ∧
    (∀ rt, f.typ = 2 → s.ring.join = none → ∃ t, exec (.probeReply p f rt) s = .next t ∧ CellsKept s t ∧ t.tx = s.tx ∧
      (t.portOf p).latency = rt / 2 ∧ (t.portOf p).state = (s.portOf p).state ∧ t.portOf (otherSide p) = s.portOf (otherSide p)) ∧
    (∀ rt j, f.typ = 2 → s.ring.join = some j → j.probed = true → j.node = f.src → field f.payload 0 8 = j.device →
      s.objsWf = true → ∃ t, exec (.probeReply p f rt) s = .next t ∧ CellsKept s t ∧ t.ring.join = none ∧
        j.node ∈ t.ring.order ∧ t.ring.order.length = s.ring.order.length + 1 ∧ t.obj 0x6001 5 = 0) ∧
    (f.typ = 3 → s.ring.member = false → s.onRing = false → ∃ t, exec (.join p f) s = .next t ∧ CellsKept s t ∧
      t.ring.node = (if field f.payload 0 8 = Config.deviceId.toNat then field f.payload 8 1 else s.ring.node) ∧
      t.ring.joining = if field f.payload 0 8 = Config.deviceId.toNat then
        some (field f.payload 8 1, field f.payload 9 8) else s.ring.joining) ∧
    (f.typ = 4 → ∃ t, exec (.leave p f) s = .next t ∧ t.cells = s.cells ∧ t.keeper = s.keeper ∧
      match Config.ringParse 4 f.payload with
      | some (.leave n) => if n = s.ring.node then t.pins.bypass = some false ∧ t.ring.node = 0xFF ∧ t.ring.order = []
          else t.pins = s.pins ∧ t.ring.order = s.ring.order.filter (fun k => k ≠ n)
      | _ => t = s.arrived f) ∧
    (f.typ = 5 → ∃ t, exec (.promoted p f) s = .next t ∧ t.ridges = s.ridges ∧ t.keeper = s.keeper ∧
      match Config.ringParse 5 f.payload with
      | some (.promoted session node cell) =>
        t.net.remote = (s.net.remote.filterMap fun h => if h.session ≠ session then some h
          else if h.node = node ∧ h.cell = cell then some { h with role := 1 }
          else if h.role = 1 then none else some h) ∧ (s.cellsOf session = [] → t.cells = s.cells)
      | _ => t = s.arrived f) ∧
    (f.typ = 6 → ∃ t, exec (.epoch p f) s = .next t ∧ CellsKept s t ∧ t.ring.epoch = s.ring.epoch ∧
      match Config.ringParse 6 f.payload with
      | some (.epoch v at') => t.ring.nextEpoch = if s.ring.epoch < v then some (v, at') else s.ring.nextEpoch
      | _ => t = s.arrived f) ∧
    (f.typ = 7 → s.isManager = false → s.ring.member = true → ∃ t, exec (.active p f) s = .next t ∧ CellsKept s t ∧
      match Config.ringParse 7 f.payload with
      | some (.active node _ _) => t.ring.manager = node ∧ t.ring.heardManager = true
      | _ => t = s.arrived f) ∧
    (f.typ = 12 → ∃ t, exec (.role p f) s = .next t ∧ CellsKept s t ∧ match Config.ringParse 12 f.payload with
      | some (.role node r) => r = 2 → node ≠ s.ring.node → t.ring.standby = node ∧ t.ring.armed = s.ring.armed
      | _ => t = s.arrived f)

/-- The frames of mirrors and stamps for a session that one cell of this device holds: RESYNC names the start frame to a
running shadow, which is then DIVERGED; SWITCH names the end frame; STAMP puts a session command or an IDR into the cell;
the answer to KEYX admits a primary that waits for it; STATE writes a page of a copy into a held shadow
(R324, R349, R398). -/
def Obligations.MirrorFrames : Prop :=
  ∀ (s : State) (p : PortSide) (f : RingFrame) (c : CellId), Taken s f → s.objsWf = true →
    (f.cls = .control → f.typ = 8 → (s.cell c).sess.role = .shadow → (s.cell c).sess.state = .running →
      (s.cell c).beam.held = false → s.cellsOf (s.cell c).sessionId = [c] →
      ∃ t, exec (.resync p f) s = .next t ∧ match Config.ringParse 8 f.payload with
        | some (.resync session g) => session = (s.cell c).sessionId → CellsKept s t ∧
            (t.mirrors[c]).g = g ∧ (t.mirrors[c]).h = 0 ∧ (t.mirrors[c]).phase = .idle ∧ t.mirrorState c = 2
        | _ => t = s.arrived f) ∧
    (f.cls = .control → f.typ = 9 → (s.cell c).sess.copies = false → s.cellsOf (s.cell c).sessionId = [c] →
      ∃ t, exec (.switch p f) s = .next t ∧ match Config.ringParse 9 f.payload with
        | some (.switch session h) => session = (s.cell c).sessionId → CellsKept s t ∧
            t.mirrors[c] = { s.mirrors[c] with h := h }
        | _ => t = s.arrived f) ∧
    (f.cls = .control → f.typ = 10 → s.cellsOf (s.cell c).sessionId = [c] →
      ∃ t, exec (.stamp p f) s = .next t ∧ match Config.ringParse 10 f.payload with
        | some (.stamp kind session _ T) => session = (s.cell c).sessionId →
            (∀ k, kind.cmd = some k → k.applies (s.cell c).sess.state = true →
              (t.cell c).sess.pending = some (k, T) ∧ ∀ d, d ≠ c → t.cell d = s.cell d) ∧
            (kind = .idr → t.cell c = (s.cell c).stampIdr T) ∧
            (kind = .swap → t.mirrors[c] = { s.mirrors[c] with swap := some T } ∧ t.cells = s.cells)
        | _ => t = s.arrived f) ∧
    (f.cls = .control → f.typ = 11 → f.payload.length = 40 → field f.payload 0 8 = (s.cell c).sessionId →
      s.cellsOf (s.cell c).sessionId = [c] → (s.mirrors[c]).keyx = true → (s.cell c).sess.state = .loading →
      (s.cell c).outbox = [] → ∃ t, exec (.keyx p f) s = .next t ∧
        (t.cell c).sess.state = (if slice f.payload 8 32 = pairDigest (s.cell c).sess.ticket then .admitted else .loading) ∧
        (t.mirrors[c]).keyx = decide (slice f.payload 8 32 ≠ pairDigest (s.cell c).sess.ticket) ∧
        (t.cell c).mem = (s.cell c).mem ∧ t.keeper = s.keeper) ∧
    (f.cls = .state → (s.cell c).sess.role = .shadow → (s.cell c).beam.held = true → (s.cell c).mem.wf = true →
      ∃ t, exec (.stateFrame p f) s = .next t ∧ match Config.stateParse f.payload with
        | some (.write cell region off bs) => toCell cell = c → region = 1 → OnlyCell c s t ∧
            t.cell c = { s.cell c with mem := { (s.cell c).mem with wram := (s.cell c).mem.wram.writeBytes off bs } } ∧
            (∀ a, a < off ∨ off + bs.length ≤ a → (t.cell c).mem.wram.read a = (s.cell c).mem.wram.read a)
        | some _ => True
        | none => t = s.arrived f)

/-- Ports, slots and beacons: a port that comes UP clears its segment and one that fails wraps it, each with a TOPO of the next
generation; in its slot a node sends its BEACON and forgets what it carried; a missed beacon is counted, and the second in a
row, or the first after WARN, starts a confirmation; a confirmation in which nothing was heard promotes the shadows that may
be promoted and no other cell; a unit held too long is discarded and counted (R331, R336, R343 to R347). -/
def Obligations.PortsSlotsAndBeacons : Prop :=
  ∀ (s : State) (p : PortSide), s.power.phase = .running → s.objsWf = true →
    (∃ t, exec (.portUp p) s = .next t ∧ CellsKept s t ∧ (t.portOf p).state = 2 ∧ (t.portOf p).rdi = false ∧
      t.portOf (otherSide p) = s.portOf (otherSide p) ∧ (s.onRing = true → s.ring.member = true →
        t.ring.topo = (s.ring.topo + 1) % 2 ^ 32 ∧ s.ring.segment p ∉ t.ring.down)) ∧
    (∀ rdi, ∃ t, exec (.portDown p rdi) s = .next t ∧ CellsKept s t ∧
      (t.portOf p).state = (if rdi then (s.portOf p).state else if s.onRing && s.ring.member then 3 else 0) ∧
      (t.portOf p).rdi = (rdi || (s.portOf p).rdi) ∧ t.portOf (otherSide p) = s.portOf (otherSide p) ∧
      t.obj 0x6000 0x0B = (if rdi then s.obj 0x6000 0x0B else addCount 0x6000 0x0B (s.obj 0x6000 0x0B) 1) ∧
      (s.onRing = true → s.ring.member = true →
        t.ring.topo = (s.ring.topo + 1) % 2 ^ 32 ∧ s.ring.segment p ∈ t.ring.down)) ∧
    (∀ tm, s.slotAt tm = true → s.ring.leaving = false → s.ring.east.failed = false →
      ∃ t g, exec (.superframeSlot tm) s = .next t ∧ CellsKept s t ∧ t.ring.entries = s.ring.entries.drop 23 ∧
        t.ring.div = 0 ∧ Tx.ring .east g ∈ t.tx ∧ g.cls = .beacon ∧ g.payload = (s.at tm).beaconBytes tm ∧
        t.ring.ctl = if s.isManager && decide (tm / 8000 % 2 = 0) then s.ring.ctl else s.ring.ctl.tail) ∧
    (∀ n : Fin 16, s.ring.member = true → n.val ≠ s.ring.node → n.val ∈ s.ring.order →
      (s.ring.peer n.val).confirming = false → ∃ t, exec (.beaconMissed n) s = .next t ∧ CellsKept s t ∧
        (t.ring.peer n.val).missed = (s.ring.peer n.val).missed + 1 ∧
        (t.ring.peer n.val).confirming = (decide (1 ≤ (s.ring.peer n.val).missed) || (s.ring.peer n.val).warn)) ∧
    (∀ n : Fin 16, (s.ring.peer n.val).confirming = true → (s.ring.peer n.val).heard = true →
      ∃ t, exec (.confirmationEnd n) s = .next t ∧ CellsKept s t ∧ (t.ring.peer n.val).confirming = false ∧
        (t.ring.peer n.val).lost = false) ∧
    (∀ n : Fin 16, (s.ring.peer n.val).confirming = true → (s.ring.peer n.val).heard = false →
      ∃ t, exec (.confirmationEnd n) s = .next t ∧ (t.ring.peer n.val).lost = true ∧ t.keeper = s.keeper ∧
        ∀ c, t.cell c = if s.mayPromote c n.val then (s.cell c).promoted else s.cell c) ∧
    (∀ c u rest, (s.cell c).running = true → (s.cell c).sess.role = .shadow → (s.cell c).str.queue = u :: rest →
      u.kind ≠ .keepalive → ∃ t, exec (.heldUnitTimeout c) s = .next t ∧ OnlyCell c s t ∧ (t.cell c).str.queue = rest ∧
        (t.cell c).regs = (s.cell c).regs ∧ t.obj (cellObj c 0x11) 6 = addCount (cellObj c 0x11) 6 (s.obj (cellObj c 0x11) 6) 1 ∧
        t.mirrorState c = if s.mirrorState c = 0 ∨ s.mirrorState c = 5 then s.mirrorState c else 2)

/-- Joining and leaving: a manager that heard no ring forms one as node 0; JOIN_REQUEST assigns the lowest free node number, or
fails when none is free; at its time the joiner drives BYPASS_N high; without an answer to its PROBE a joiner is told to
leave; LEAVE_REQUEST takes a node out of the order; STANDBY_COPY sends the standby every player record (R337 to R341,
R359). -/
def Obligations.JoiningAndLeaving : Prop :=
  ∀ (s : State), s.up = true → s.objsWf = true →
    (s.power.uplink = true → s.power.healthy = true → s.ring.heardManager = false → s.ring.node = 0xFF →
      ∃ t, exec .managerListenExpiry s = .next t ∧ t.cells = s.cells ∧ t.ring.node = 0 ∧ t.ring.order = [0] ∧
        t.isManager = true ∧ t.pins.bypass = some true ∧ (t.ring.ctl.map RingFrame.typ).getLast? = some 7) ∧
    (∀ device, s.isManager = true → s.ring.join = none → s.ring.order ≠ [] →
      ∃ t, exec (.joinRequest device) s = .next t ∧ CellsKept s t ∧
        match (List.range 15).find? fun k => !(s.ring.order.contains (k + 1)) with
        | some k => t.ring.join = some ⟨device, k + 1, false, none, []⟩ ∧ t.objs = s.objs ∧
            t.ring.ctl.length = s.ring.ctl.length + 1 ∧ (t.ring.ctl.getLast?.map fun g => (g.typ, g.bcast, g.payload)) =
              some (3, true, beBytes 8 device ++ [BitVec.ofNat 8 (k + 1)] ++ beBytes 8 (s.house.time + 2000000))
        | none => t.ring.join = none ∧ t.obj 0x6001 5 = 4) ∧
    (s.ring.joining.isSome = true → s.power.healthy = true → s.onRing = false → ∃ t, exec .joinTime s = .next t ∧
      t.cells = s.cells ∧ t.pins = { s.pins with bypass := some true } ∧ t.onRing = true ∧ t.ring.east.state = 1 ∧
      t.ring.west.state = 1 ∧ t.ring.order = s.ring.order) ∧
    (∀ j, s.ring.join = some j → j.probed = true → s.ring.order ≠ [] → ∃ t, exec .probeTimeout s = .next t ∧
      CellsKept s t ∧ t.ring.join = none ∧ t.obj 0x6001 5 = 1 ∧ t.ring.order = s.ring.order ∧
      (t.ring.ctl.getLast?.map fun g => (g.typ, g.payload)) = some (4, Config.ringBuild (.leave j.node))) ∧
    (∃ t, exec .joinWaitTimeout s = .next t ∧ t = s.setRing t.ring ∧
      t.ring.wantsJoin = (s.ring.joining.isSome && s.ring.wantsJoin)) ∧
    (∀ n, s.isManager = true → n ∈ s.ring.order → n ≠ s.ring.node → ∃ t, exec (.leaveRequest n) s = .next t ∧
      CellsKept s t ∧ t.ring.order = s.ring.order.filter (fun k => k ≠ n) ∧ t.obj 0x6001 5 = 0) ∧
    (s.isManager = true → s.ring.node ∈ s.ring.order → ∃ t, exec (.leaveRequest s.ring.node) s = .next t ∧
      CellsKept s t ∧ t.ring.order = s.ring.order ∧ t.ring.leaving = true ∧ t.obj 0x6001 5 = 0) ∧
    (s.isManager = true → s.ring.standby ∈ s.ring.order → s.ring.standby < 16 → s.ring.standby ≠ s.ring.node →
      s.onRing = true → s.ring.east.failed = false → s.ring.west.failed = false →
      ∃ t, exec .standbyCopy s = .next t ∧ CellsKept s t ∧ t.net = s.net ∧ ∀ i ∈ s.net.inputs, ∃ q g,
        Tx.ring q g ∈ t.tx ∧ g.cls = .state ∧ g.dst = s.ring.standby ∧ g.payload = Config.stateBuild (.standby i))

/-- Leases and epochs: a renewal with an epoch below the one in use has no effect; the active manager's renewal holds the lease
and announces a higher epoch, the standby's is a standby grant; a lapse fences a manager; at a frame boundary a session takes
the epoch in use (R346, R352, R353, R360). -/
def Obligations.LeasesAndEpochs : Prop :=
  ∀ (s : State), s.up = true →
    (∀ e, e < s.ring.epoch ∨ s.leaseServed = false → exec (.leaseRenew e) s = .next s) ∧
    (∀ e, s.isManager = true → s.ring.epoch ≤ e → ∃ t, exec (.leaseRenew e) s = .next t ∧ CellsKept s t ∧
      t.ring.lease = 1 ∧ t.ring.leaseAt = some s.house.time ∧ t.fenced = false ∧ t.ring.epoch = s.ring.epoch ∧
      t.ring.nextEpoch = if e = s.ring.epoch then s.ring.nextEpoch else some (e, s.epochTime)) ∧
    (∀ e, s.leaseServed = true → s.isManager = false → s.ring.epoch ≤ e →
      (s.ring.peer s.ring.manager).lost = false → ∃ t, exec (.leaseRenew e) s = .next t ∧
        t = s.setRing { s.ring with lease := 3, leaseAt := some s.house.time }) ∧
    (s.ring.lease = 1 → ∃ t, exec .leaseLapse s = .next t ∧ CellsKept s t ∧ t.ring.lease = 2 ∧
      (s.isManager = true → t.fenced = true)) ∧
    (s.ring.lease = 3 → ∃ t, exec .standbyGrantLapse s = .next t ∧ CellsKept s t ∧ t.ring.lease = 2 ∧
      t.ring.underGrant = false) ∧
    (∃ t, exec .syncLeaseAgeExpiry s = .next t ∧ t = s.setRing { s.ring with syncLease := false }) ∧
    (∀ c, (s.cell c).running = true → (s.cell c).beam.started = 0 → (s.cell c).str.epoch ≠ s.ring.epoch →
      ∃ t, exec (.epochApply c) s = .next t ∧
        t = s.setCell c { s.cell c with str := { (s.cell c).str with epoch := s.ring.epoch } })

/-- Mirrors: RESYNC_REQUEST on a primary makes its mirror DIVERGED, counts a resync and names its start frame; a new partner
that passes the checks is taken, one that fails is recorded and changes nothing of the cell; the boundary record brings the
shadow the state of the primary; at W a migration's source ends and its target goes on in the role it takes; a migration
that is not in step in time runs on at its source; without an answer to KEYX the session is refused (R313, R326, R349 to
R351, R361, R398). -/
def Obligations.MirrorsAndMigrations : Prop :=
  ∀ (s : State) (c : CellId) (x : Cell), s.cell c = x → s.up = true → s.objsWf = true → x.outbox = [] →
    (x.running = true → x.sess.role = .primary → s.mirrorState c ≠ 0 → s.mirrorState c ≠ 5 → s.fullOn c = false →
      ∃ t, exec (.resyncRequest c) s = .next t ∧ CellsKept s t ∧ t.mirrorState c = 2 ∧
        (t.mirrors[c]).g = x.beam.frame + 3 ∧ (t.mirrors[c]).phase = .idle ∧
        t.obj (cellObj c 0x11) 4 = addCount (cellObj c 0x11) 4 (s.obj (cellObj c 0x11) 4) 1) ∧
    (∀ node cell v, x.sess.state = .running → x.sess.role = .primary → s.mirrorState c = 0 →
      (∀ f, newPartnerFault s.ring.order s.ring.node node x.sess.ticket v = some f →
        ∃ t, exec (.mirrorNewPartner c node cell v) s = .next t ∧ t.cells = s.cells ∧ t.mirrorState c = 0 ∧
          t.obj (cellObj c 0x10) 7 = f.1 * 2 ^ 24 + f.2 % 2 ^ 24) ∧
      (newPartnerFault s.ring.order s.ring.node node x.sess.ticket v = none →
        ∃ t, exec (.mirrorNewPartner c node cell v) s = .next t ∧
          t.cell c = { x with sess := { x.sess with partNode := node, partCell := cell } } ∧
          (∀ d, d ≠ c → t.cell d = s.cell d) ∧ t.mirrorState c = (if s.fullOn c then 5 else 2) ∧
          t.obj (cellObj c 0x11) 2 = node % 256 * 256 + cell % 256)) ∧
    (∀ rec slip, x.sess.role = .shadow → x.beam.held = true → (s.mirrors[c]).phase = .hold →
      ((s.mirrors[c]).record.any fun q => q.2 == rec) = true →
      ∃ t, exec (.boundaryRecordApplied c rec slip) s = .next t ∧ match Config.boundaryCell rec with
        | none => t = s
        | some r => OnlyCell c s t ∧ t.cell c = x.applyRecord r ∧ t.obj (cellObj c 0x11) 3 = slip ∧
            t.mirrorState c = if slip = 0 then 1 else 4) ∧
    (∀ T, (s.mirrors[c]).swap = some T → s.atBoundary c = true → (s.dbg[c]).waiting = [] →
      (x.sess.state = .migrating → ∃ t, exec (.migrationSwap c) s = .next t ∧ (t.cell c).sess.state = .ended ∧
        (t.cell c).mem = Store.reset ∧ t.keysOf c = none ∧ t.obj (cellObj c 0x10) 0x0B = 3) ∧
      (∀ k, x.sess.state = .running → x.sess.role = .shadow → (s.mirrors[c]).takes = some k →
        ∃ t, exec (.migrationSwap c) s = .next t ∧ (t.cell c).sess.state = .running ∧
          (t.cell c).sess.role = (if k.1 % 4 = 2 then .shadow else .primary) ∧
          (t.cell c).str.egress = decide (k.1 % 4 ≠ 2) ∧ (t.cell c).sess.partNode = k.2.1 ∧
          (t.cell c).beam.frame = x.beam.frame + 1 ∧ ∀ d, d ≠ c → t.cell d = s.cell d)) ∧
    (x.sess.state = .migrating → s.mirrorState c ≠ 1 → ∃ t, exec (.migrationTimeout c) s = .next t ∧ OnlyCell c s t ∧
      t.cell c = { x with sess := { x.sess with state := .running } } ∧ (t.mirrors[c]).swap = none) ∧
    ((s.mirrors[c]).keyx = true → x.sess.state = .loading → ∃ t, exec (.keyxTimeout c) s = .next t ∧
      (t.cell c).sess = Session.reset ∧ t.keysOf c = none ∧ t.obj (cellObj c 0x10) 7 = 0x36 * 2 ^ 24)

/-! ## Dictionary -/

/-- Channels: an acceptable HELLO gets a channel that is not open yet, a refused one is counted, one beyond the limit is
ignored; FINISH opens the channel when it verifies, and ends it otherwise; CLOSE, the handshake's and the idle timeout end
it, with its transfers; NOTIFY_ACK settles a notification; an unacknowledged one is sent again, ten times at most
(R367, R370 to R372, R380). -/
def Obligations.ChannelsAndNotifications : Prop :=
  ∀ (s : State), s.objsWf = true →
    (∀ service src body, s.channels = true → s.keeper.restarting = false → body.length = 1644 →
      (s.channelsFull (field body 32 1) = true → exec (.hello service src body) s = .next s) ∧
      (s.channelsFull (field body 32 1) = false → ∃ t, exec (.hello service src body) s = .next t ∧ CellsKept s t ∧
        if s.helloGood service body then t.objs = s.objs ∧ t.dict.nextId = s.dict.nextId + 1 ∧ ∃ c : Channel,
            t.dict.channels = s.dict.channels ++ [c] ∧ c.id = s.dict.nextId ∧ c.isOpen = false ∧ c.role = field body 32 1 ∧
            c.session = field body 36 8 ∧ c.keyid = slice body 44 32 ∧ c.addr = src ∧ c.service = service ∧ c.replies = []
        else t.dict = s.dict ∧ t.obj 0x1100 5 = addCount 0x1100 5 (s.obj 0x1100 5) 1)) ∧
    (∀ c : Channel, s.channel c.id = some c → c.isOpen = false →
      (∀ body, s.keeper.restarting = false → s.channelsFull c.role = false →
        ∃ t, exec (.finish c.id body) s = .next t ∧ CellsKept s t ∧
          if s.finishGood c body then (∀ d, t.channel c.id = some d → d.isOpen = true ∧ d.keys.length = 88 ∧ d.role = c.role) ∧
            (c.txSeq = 0 → (∀ q ∈ s.dict.queues, q.notes = []) → (t.channel c.id).isSome = true)
          else t.channel c.id = none ∧ t.obj 0x1100 5 = addCount 0x1100 5 (s.obj 0x1100 5) 1) ∧
      (∃ t, exec (.handshakeTimeout c.id) s = .next t ∧ CellsKept s t ∧ t.objs = s.objs ∧
        t.dict.channels = s.dict.channels.filter fun d => d.id ≠ c.id)) ∧
    (∀ c : Channel, s.channel c.id = some c → c.isOpen = true →
      (∀ rseq, c.takes rseq = true → ∃ t, exec (.close c.id rseq true) s = .next t ∧ t.channel c.id = none ∧
        (∀ x ∈ t.dict.xfers, x.client.node = none → x.client.channel ≠ c.id) ∧
        ((∀ x ∈ s.dict.xfers, x.down = false) → CellsKept s t)) ∧
      (∃ t, exec (.channelIdleTimeout c.id) s = .next t ∧ t.channel c.id = none ∧
        (∀ x ∈ t.dict.xfers, x.client.node = none → x.client.channel ≠ c.id) ∧
        ((∀ x ∈ s.dict.xfers, x.down = false) → CellsKept s t)) ∧
      (∀ r x, Heard s c r → r.msg.mtype = 0x11 → x ∈ c.sent → x.nseq = r.msg.aux → (∀ y ∈ c.sent, y.nseq ≤ c.nseq) →
        (∀ y ∈ c.sent, y.nseq = x.nseq → y = x) → x.note < s.dict.nextNote →
        ∃ t, exec (.notifyAck r) s = .next t ∧ CellsKept s t ∧ t.objs = s.objs ∧ t.settled c.id x.nseq x.note) ∧
      (∀ x, x ∈ c.sent → (∀ y ∈ c.sent, y.nseq ≤ c.nseq) → (∀ y ∈ c.sent, y.nseq = x.nseq → y = x) →
        x.note < s.dict.nextNote → c.txSeq + 1 < 2 ^ 32 →
        (∀ n, x.tries < 10 → s.noteOf x.note = some n → ∃ t, exec (.notifyResendTimeout c.id x.nseq) s = .next t ∧
          CellsKept s t ∧ t.objs = s.objs ∧ (t.channel c.id).map Channel.sent = some (c.sent.map fun y =>
            if y.nseq = x.nseq then { y with tries := y.tries + 1 } else y) ∧
          t.tx = (s.sendMsg c.id ⟨0x10, s.ring.node % 256, 0, field n.data 2 2, field n.data 4 1, 0, x.nseq, n.data⟩).tx) ∧
        (10 ≤ x.tries → ∃ t, exec (.notifyResendTimeout c.id x.nseq) s = .next t ∧ CellsKept s t ∧ t.objs = s.objs ∧
          t.settled c.id x.nseq x.note)))

/-- Requests: a record that is not accepted does nothing; a repeated TID gets the kept reply again and has no further effect;
READ is answered with the value or an error; WRITE without the right, of a wrong length or out of range is answered with its
error and changes no object; a write of a stored setting changes that one and is answered WRITE_RSP
(R362, R363, R369, R373 to R375, R378). -/
def Obligations.DictionaryRequests : Prop :=
  ∀ (s : State) (c : Channel) (r : DictRec), s.objsWf = true →
    (s.accepted r.channel r.rseq r.tagOk = none → exec (.read r) s = .next s ∧ exec (.write r) s = .next s ∧
      exec (.segInitDl r) s = .next s ∧ exec (.segInitUl r) s = .next s ∧ exec (.segData r) s = .next s ∧
      exec (.segAck r) s = .next s ∧ exec (.segAbort r) s = .next s ∧ exec (.notifyAck r) s = .next s) ∧
    (∀ q, Heard s c r → (c.replies.find? fun p => p.1 = r.msg.tid) = some q →
      let t := (s.setChannel (c.noteRseq r.rseq)).sendMsg c.id q.2
      (r.msg.mtype = 1 → exec (.read r) s = .next t) ∧ (r.msg.mtype = 2 → exec (.write r) s = .next t) ∧
      (r.msg.mtype = 6 → exec (.segInitDl r) s = .next t) ∧ (r.msg.mtype = 7 → exec (.segInitUl r) s = .next t)) ∧
    (Heard s c r → NewTid s c r.msg.tid → r.msg.mtype = 1 → ∃ t, exec (.read r) s = .next t ∧ CellsKept s t ∧
      t.objs = s.objs ∧ ∃ a, a = (s.setChannel (c.noteRseq r.rseq)).readReply c.client r.msg ∧
        Replied s t c (s.back r.msg a.1 a.2.1 a.2.2)) ∧
    (Heard s c r → NewTid s c r.msg.tid → r.msg.mtype = 2 →
      (∀ e, s.accessError c.client r.msg.index r.msg.sub true = e → e ≠ 0 → ∃ t, exec (.write r) s = .next t ∧
        CellsKept s t ∧ t.objs = s.objs ∧ Replied s t c (s.back r.msg 5 e [])) ∧
      (∀ d, s.accessError c.client r.msg.index r.msg.sub true = 0 → s.downloading r.msg.index r.msg.sub = false →
        objDesc r.msg.index r.msg.sub = some d → d.typ ≠ .domain → objAccept r.msg.index r.msg.sub r.msg.data = none →
        ∃ t, exec (.write r) s = .next t ∧ CellsKept s t ∧ t.objs = s.objs ∧
          Replied s t c (s.back r.msg 5 (if r.msg.data.length ≠ d.size then 0x06 else 0x07) [])) ∧
      (∀ v, s.accessError c.client r.msg.index r.msg.sub true = 0 → s.downloading r.msg.index r.msg.sub = false →
        (r.msg.index, r.msg.sub) ∈ storedObjects → objAccept r.msg.index r.msg.sub r.msg.data = some v →
        ∃ t, exec (.write r) s = .next t ∧ CellsKept s t ∧ t.obj r.msg.index r.msg.sub = v ∧
          (∀ i j, objKey i j ≠ objKey r.msg.index r.msg.sub → t.obj i j = s.obj i j) ∧
          Replied s t c (s.back r.msg 4 0 [])))

/-- Transfers: SEG_INIT_DL and SEG_INIT_UL begin one, an upload of the value of that moment, with at most 32 segments beyond
the last acknowledgement; the expected segment of a download is appended, every eighth acknowledged, any other acknowledged
again at the expected offset; SEG_ACK moves an upload on, to its end; SEG_ABORT ends it; without SEG_ACK its segments are
sent again from the acknowledged offset; without progress it ends with SEG_ABORT TIMEOUT; a node that does not reply gets
the client ERROR NODE (R364, R376 to R378). -/
def Obligations.DictionaryTransfers : Prop :=
  ∀ (s : State) (c : Channel) (r : DictRec), Heard s c r →
    (NewTid s c r.msg.tid → r.msg.mtype = 6 → s.accessError c.client r.msg.index r.msg.sub true = 0 →
      ((objDesc r.msg.index r.msg.sub).any fun d => d.typ == .domain) = true → s.downloading r.msg.index r.msg.sub = false →
      (∀ d, sessionCell r.msg.index = some d → r.msg.sub = 2 → s.imageWanted d = true) → r.msg.aux ≠ 0 →
      ∃ t, exec (.segInitDl r) s = .next t ∧ t.cells = s.cells ∧ t.objs = s.objs ∧ Replied s t c (s.back r.msg 9 0 []) ∧
        t.dict.xfers = s.dict.xfers ++ [⟨c.client, r.msg.tid, r.msg.index, r.msg.sub, true, r.msg.aux, 0, 0, 0, []⟩] ∧
        t.keeper = if r.msg.index = 0x8000 then { s.keeper with download := some ⟨[], 0, 0, []⟩ } else s.keeper) ∧
    (NewTid s c r.msg.tid → r.msg.mtype = 7 → s.accessError c.client r.msg.index r.msg.sub false = 0 →
      ((objDesc r.msg.index r.msg.sub).any fun d => d.typ == .domain) = true → s.downloading r.msg.index r.msg.sub = false →
      s.xferOf c.client r.msg = none → ∃ t, exec (.segInitUl r) s = .next t ∧ CellsKept s t ∧ t.objs = s.objs ∧
        match (s.setChannel (c.noteRseq r.rseq)).readValue c.client r.msg.index r.msg.sub with
        | .inl e => Replied s t c (s.back r.msg 5 e []) ∧ t.dict.xfers = s.dict.xfers
        | .inr bs => (t.channel c.id).map (fun d => d.replies.getLast?) =
              some (some (r.msg.tid, s.back r.msg 9 bs.length [])) ∧
            t.dict.xfers = s.dict.xfers ++ if bs = [] then [] else
              [⟨c.client, r.msg.tid, r.msg.index, r.msg.sub, false, bs.length, Nat.min bs.length 32768, 0, 0, bs⟩]) ∧
    (r.msg.mtype = 8 → s.xferOf c.client r.msg = none → ∃ t, exec (.segData r) s = .next t ∧ CellsKept s t ∧
      t.objs = s.objs ∧ t.dict.xfers = s.dict.xfers ∧ t.tx = (s.sendMsg c.id (s.back r.msg 5 0x0A [])).tx) ∧
    (∀ x, r.msg.mtype = 8 → s.xferOf c.client r.msg = some x → x.client = c.client → x.down = true → x.streams = false →
      (r.msg.aux ≠ x.next → ∃ t, exec (.segData r) s = .next t ∧ CellsKept s t ∧ t.objs = s.objs ∧
        t.dict.xfers = s.dict.xfers ∧ t.tx = (s.sendMsg c.id (s.back x.msg 9 x.next [])).tx) ∧
      (r.msg.aux = x.next → r.msg.data ≠ [] → r.msg.flags = 0 → x.next + r.msg.data.length < x.total →
        ∃ t, exec (.segData r) s = .next t ∧ CellsKept s t ∧ t.objs = s.objs ∧
          t.dict.xfers = (s.dict.xfers.map fun y => if y = x then { x with
            next := x.next + r.msg.data.length, unacked := if x.unacked = 7 then 0 else x.unacked + 1
            data := x.data ++ r.msg.data } else y) ∧
          t.tx = if x.unacked = 7 then (s.sendMsg c.id (s.back x.msg 9 (x.next + r.msg.data.length) [])).tx else s.tx)) ∧
    (∀ x, r.msg.mtype = 9 → s.xferOf c.client r.msg = some x → x.client = c.client → x.down = false →
      x.data.length = x.total → x.acked < r.msg.aux → r.msg.aux ≤ x.next →
      ∃ t, exec (.segAck r) s = .next t ∧ CellsKept s t ∧ t.objs = s.objs ∧
        if r.msg.aux = x.total then t.dict.xfers = s.dict.xfers.filter (fun y => y != x) ∧ t.tx = s.tx
        else ∃ y ∈ t.dict.xfers, y.client = x.client ∧ y.tid = x.tid ∧ y.data = x.data ∧ y.acked = r.msg.aux ∧ x.next ≤ y.next ∧
          (y.next = Nat.max x.next x.total ∨ r.msg.aux + 32768 ≤ y.next)) ∧
    (∀ x, r.msg.mtype = 0x0A → s.xferOf c.client r.msg = some x → x.streams = false → ∃ t, exec (.segAbort r) s = .next t ∧
      CellsKept s t ∧ t.objs = s.objs ∧ t.dict.xfers = s.dict.xfers.filter (fun y => y != x) ∧ t.tx = s.tx) ∧
    (∀ x tid, s.xferBy c.id tid = some x → x.client = c.client →
      (x.down = false → x.acked < x.total → x.data.length = x.total → ∃ t rest, exec (.segResendTimeout c.id tid) s = .next t ∧
        CellsKept s t ∧ t.objs = s.objs ∧ (∃ y ∈ t.dict.xfers, y.client = x.client ∧ y.tid = tid ∧ y.acked = x.acked ∧
          (y.next = x.total ∨ x.acked + 32768 ≤ y.next)) ∧
        t.tx = (s.sendMsg c.id { s.back x.msg 8 x.acked (slice x.data x.acked 1024) with
          flags := b2n (decide (x.total ≤ x.acked + 1024)) }).tx ++ rest) ∧
      (x.streams = false → ∃ t, exec (.segProgressTimeout c.id tid) s = .next t ∧ CellsKept s t ∧ t.objs = s.objs ∧
        t.dict.xfers = s.dict.xfers.filter (fun y => y != x) ∧ t.tx = (s.sendMsg c.id (s.back x.msg 0x0A 0x0B [])).tx)) ∧
    (∀ f, (s.dict.forwards.find? fun f => f.channel == c.id && f.tid == r.msg.tid) = some f →
      ∃ t, exec (.nodeReplyTimeout c.id r.msg.tid) s = .next t ∧ CellsKept s t ∧ t.objs = s.objs ∧
        t.dict.forwards = s.dict.forwards.filter (fun g => g != f) ∧
        Replied s t c (s.back ⟨0, 0xFF, r.msg.tid, 0, 0, 0, 0, []⟩ 5 0x0C []))

/-- The writes and reads that have rows of their own: family and house-frame source put the loop into ACQUIRE, and are
refused while a cell has a session; house time is written while it runs free; the designated standby is a node opposite the
manager; the nonce is the channel's, and the quote an upload of the quote of that moment; a DICT frame's READ is answered by
a DICT frame to the node it came from (R65, R71, R341, R359, R376, R384, R400). -/
def Obligations.NamedAccesses : Prop :=
  ∀ (s : State) (c : Channel) (tid : Nat), s.objsWf = true →
    (∀ (sub : Fin 3) v, Asks s c tid → sub.val ≠ 0 → s.accessError c.client 0x2000 sub true = 0 →
      s.downloading 0x2000 sub = false →      objAccept 0x2000 sub (beBytes 1 v) = some v → s.obj 0x2000 sub ≠ v →
      if (∀ d, (s.cell d).sess.state = .free) then
        ∃ t, exec (.familyWrite c.id tid sub v) s = .next t ∧ CellsKept s t ∧ t.obj 0x2000 sub = v ∧
          t.house.loop = .acquire ∧ t.house.refEdge = none ∧ t.house.syncOut = false ∧ t.house.time = s.house.time ∧
          ∀ d, t.channel c.id = some d → d.replies.getLast?.map (fun q => (q.1, q.2.mtype)) = some (tid, 4)
      else ∃ t, exec (.familyWrite c.id tid sub v) s = .next t ∧ CellsKept s t ∧ t.objs = s.objs ∧ t.house = s.house ∧
        Replied s t c (s.back ⟨2, 0xFF, tid, 0x2000, sub, 0, 0, []⟩ 5 0x08 [])) ∧
    (∀ v, Asks s c tid → s.accessError c.client 0x2000 5 true = 0 → v < 2 ^ 64 → s.downloading 0x2000 5 = false →
      ∃ t, exec (.houseTimeWrite c.id tid v) s = .next t ∧ CellsKept s t ∧ t.objs = s.objs ∧
        t.house = (if s.timeSource = 2 then { s.house with time := v } else s.house) ∧
        Replied s t c (if s.timeSource < 2 then s.back ⟨2, 0xFF, tid, 0x2000, 5, 0, 0, []⟩ 5 0x08 []
          else s.back ⟨2, 0xFF, tid, 0x2000, 5, 0, 0, []⟩ 4 0 [])) ∧
    (∀ node, Asks s c tid → s.accessError c.client 0x6001 4 true = 0 → node < 256 → s.downloading 0x6001 4 = false →
      ∃ t, exec (.designatedStandbyWrite c.id tid node) s = .next t ∧ CellsKept s t ∧
        if s.isManager = false then t.ring = s.ring ∧ t.objs = s.objs ∧
          Replied s t c (s.back ⟨2, 0xFF, tid, 0x6001, 4, 0, 0, []⟩ 5 0x05 [])
        else if node = 0xFF then t.ring.standby = 0xFF ∧ t.obj 0x6001 4 = 0xFF ∧ t.obj 0x6001 5 = 0
        else if node = s.ring.node ∨ s.ring.opposite node = false then t.ring = s.ring ∧ t.obj 0x6001 5 = 3 ∧
          t.obj 0x6001 4 = s.obj 0x6001 4 ∧ Replied s t c (s.back ⟨2, 0xFF, tid, 0x6001, 4, 0, 0, []⟩ 5 0x0F [3])
        else t.ring.standby = node ∧ t.obj 0x6001 4 = node ∧ t.obj 0x6001 5 = 0 ∧ (s.ring.order ≠ [] →
          (t.ring.ctl.getLast?.map fun g => (g.typ, g.bcast, g.payload)) = some (12, true, Config.ringBuild (.role node 2)))) ∧
    (∀ nonce, Asks s c tid → s.accessError c.client 0x5020 1 true = 0 → nonce.length ≤ 1024 → s.downloading 0x5020 1 = false →
      ∃ t, exec (.quoteNonceWrite c.id tid nonce) s = .next t ∧ CellsKept s t ∧ t.objs = s.objs ∧
        if nonce.length = 32 then t.dict.nonces = (s.dict.nonces.filter fun q => q.1 ≠ c.id) ++ [(c.id, nonce)] ∧
          Replied s t c (s.back ⟨2, 0xFF, tid, 0x5020, 1, 0, 0, []⟩ 4 0 [])
        else t.dict.nonces = s.dict.nonces ∧ Replied s t c (s.back ⟨2, 0xFF, tid, 0x5020, 1, 0, 0, []⟩ 5 0x06 [])) ∧
    (Asks s c tid → s.keeper.restarting = false → s.accessError c.client 0x5020 2 false = 0 → s.downloading 0x5020 2 = false →
      s.xferOf c.client ⟨7, 0xFF, tid, 0x5020, 2, 0, 0, []⟩ = none →
      ∃ t, exec (.quoteRead c.id tid) s = .next t ∧ CellsKept s t ∧ t.objs = s.objs ∧ t.dict.xfers = s.dict.xfers ++
        [⟨c.client, tid, 0x5020, 2, false, (s.quote c.client).length, Nat.min (s.quote c.client).length 32768, 0, 0,
          s.quote c.client⟩]) ∧
    (∀ p f, Taken s f → f.cls = .dict → s.onRing = true → s.ring.east.failed = false → s.ring.west.failed = false →
      f.src ∈ s.ring.order → f.src ≠ s.ring.node → f.src < 16 → s.noTender = false → s.keeper.restarting = false →
      ∃ t, exec (.dictFrame p f) s = .next t ∧ match parseMsg f.payload with
        | none => t = s.arrived f
        | some m => m.mtype = 1 → m.node = 0xFF ∨ m.node = s.ring.node → m.data.length ≤ 1024 → CellsKept s t ∧
            t.objs = s.objs ∧ ∃ q g who a, who = (⟨field f.payload 0 1, field f.payload 4 8, field f.payload 2 2, some f.src⟩ : Client) ∧
              a = (s.arrived f).readReply who m ∧ Tx.ring q g ∈ t.tx ∧ g.cls = .dict ∧ g.dst = f.src ∧
              g.payload = who.prefixBytes ++ msgBytes (s.back m a.1 a.2.1 a.2.2))

/-! ## Keeper, metering and update -/

/-- Keeper's documents: an order that passes its checks burns the identity, stores the certificates and makes the device
PROVISIONED, each order using up its nonce; the operator root binds a PROVISIONED device; a lifecycle order with a consent
returns it and clears keys, registry and records; a registration that the roots sign adds a key or a root, a revocation
removes a key and closes its channels, a consent is kept; an expired key's channels close; any other document changes
nothing (R390 to R396, R428). -/
def Obligations.KeeperDocuments : Prop :=
  ∀ (s : State), s.serves = true →
    (∀ src, s.keeper.lifecycle = 0 → ∃ t b, exec (.nonceReq src) s = .next t ∧ t = s.send (.udp true src b) ∧
      b.drop 16 = 2 :: (beBytes 8 Config.deviceId.toNat ++ fitBytes 32 s.keeper.nonce)) ∧
    (∀ src order, s.keeper.lifecycle = 0 → field order 1 1 ≠ 2 → ∃ t, exec (.provisionIdentity src order) s = .next t ∧
      t.cells = s.cells ∧ t.objs = s.objs ∧ t.dict = s.dict ∧ t.keeper.nonce.length = 32 ∧
      if s.orderCode order = 0 then t.keeper.huk.length = 32 ∧ t.keeper.seed.length = 32 ∧ t.keeper =
          { s.keeper with huk := t.keeper.huk, seed := t.keeper.seed, nonce := t.keeper.nonce }
      else t.keeper = { s.keeper with nonce := t.keeper.nonce } ∧ ∃ b, t.tx = s.tx ++ [.udp true src b] ∧
        b.drop 16 = [4, BitVec.ofNat 8 (s.orderCode order)]) ∧
    (∀ src order, s.keeper.lifecycle = 0 → field order 1 1 = 2 → ∃ t, exec (.provisionCertificates src order) s = .next t ∧
      t.cells = s.cells ∧ t.objs = s.objs ∧ t.dict = s.dict ∧ t.keeper.nonce.length = 32 ∧
      if s.orderCode order = 0 ∧ Config.chainNames (orderData order) Config.deviceId.toNat s.keeper.identity = true then
        t.keeper = { s.keeper with certs := orderData order, lifecycle := 1, nonce := t.keeper.nonce }
      else t.keeper = { s.keeper with nonce := t.keeper.nonce }) ∧
    (∀ key, ∃ t, exec (.operatorRootBind key) s = .next t ∧ t = if s.keeper.lifecycle = 1 ∧ key.length = 2592 then
      s.setKeeper { s.keeper with lifecycle := 2, roots := [digest32 key] } else s) ∧
    (∀ doc, s.keeper.lifecycle = 2 → ∃ t, exec (.lifecycleOrder doc) s = .next t ∧
      if s.orderCode (doc.take 7267) = 0 ∧ s.consentGood (doc.drop 7267) = true ∧ field doc 7268 1 = 1 ∧
          s.consentLive (doc.drop 7267) = true then
        t.keeper.lifecycle = 3 ∧ t.keeper.huk = [] ∧ t.keeper.seed = [] ∧ t.keeper.registry = [] ∧ t.keeper.keys = [] ∧
          t.keeper.records = [] ∧ t.keeper.consents = [] ∧ t.keeper.recseq = 0 ∧ t.dict.channels = []
      else t.cells = s.cells ∧ t.dict = s.dict ∧ t.objs = s.objs ∧ t.keeper = { s.keeper with nonce := t.keeper.nonce }) ∧
    (∀ doc, ∃ t, exec (.registration doc) s = .next t ∧
      let k := s.keeper
      let kind := field doc 1 1
      let key := slice doc 24 (field doc 20 2)
      let roots := if kind = 6 then k.roots.getLast?.toList else k.roots
      if registrationForm doc = true ∧ signedBy roots "lyseo-register" (doc.take (24 + field doc 20 2))
          (slice doc (24 + field doc 20 2) 4627) = true ∧ s.house.time < field doc 12 8 ∧
          (kind = 6 → k.roots.length < 4 ∧ digest32 key ∉ k.roots) ∧
          (kind ≠ 6 → k.registry.length < 256 ∧ ∀ q ∈ k.registry, q.keyid ≠ digest32 key) then
        t = s.setKeeper (if kind = 6 then { k with roots := k.roots ++ [digest32 key] } else { k with registry := k.registry ++
          [⟨digest32 key, kind, field doc 2 1, field doc 4 8, field doc 12 8, key⟩] })
      else t = s) ∧
    (∀ doc, ∃ t, exec (.revocation doc) s = .next t ∧
      if doc.length = 4663 ∧ field doc 0 1 = 1 ∧ field doc 1 3 = 0 ∧
          signedBy s.keeper.roots "lyseo-revoke" (doc.take 36) (slice doc 36 4627) = true then
        (∀ q ∈ t.keeper.registry, q.keyid ≠ slice doc 4 32 ∧ q ∈ s.keeper.registry) ∧ t.keeper.roots = s.keeper.roots ∧
          (∀ q ∈ s.keeper.registry, q.keyid ≠ slice doc 4 32 → q ∈ t.keeper.registry) ∧
          ∀ d ∈ t.dict.channels, d.keyid ≠ slice doc 4 32
      else t = s) ∧
    (∀ doc, ∃ t, exec (.consent doc) s = .next t ∧ t = if s.consentGood doc then s.setKeeper { s.keeper with
      consents := (s.keeper.consents.filter fun q => field q 1 1 ≠ field doc 1 1) ++ [doc] } else s) ∧
    (∀ k, (s.keeper.registry.find? fun q => beNat q.keyid = beNat k.keyid) = some k →
      ∃ t, exec (.keyExpiry (beNat k.keyid)) s = .next t ∧ t.keeper.registry = s.keeper.registry ∧
        t.house.time = Nat.max s.house.time k.notAfter ∧ ∀ d ∈ t.dict.channels, d.keyid ≠ k.keyid)

/-- Metering: when a minute starts a cell that runs latches at its next boundary, one that is parked at once; Keeper seals the
oldest set with the next RECSEQ, one more for each signed region with frames; METER_ACK removes the records up to a RECSEQ.
Restarts: a request restarts Keeper and counts it; at the end the waiting sets are marked, or, when the retention memory
fails its check, the device resets with kind HEALTH. Update: ACTIVATE turns to a VALID slot, which is then TRIAL, and
SLOT_COMMIT makes it GOOD; a handover that is not ready in time falls back to the previous image, and then withdraws health
(R387, R389, R394, R401, R403, R404, R407, R414 to R417). -/
def Obligations.MeteringAndUpdate : Prop :=
  ∀ (s : State), s.serves = true → s.objsWf = true →
    (∃ t, exec .healthReport s = .next t ∧
      t = if s.power.withdrawn then s else s.setPower { s.power with healthy := true }) ∧
    (∃ t, exec .keeperRestartRequest s = .next t ∧ exec .keeperFirmwareWatchdog s = .next t ∧ CellsKept { s with keeper := t.keeper } t ∧
      t.keeper = { s.keeper with restarting := true } ∧
      t.obj 0x5000 4 = if s.keeper.restarting then s.obj 0x5000 4 else addCount 0x5000 4 (s.obj 0x5000 4) 1) ∧
    (s.keeper.restarting = true → ∃ t, exec (.keeperRestartComplete false false) s = .next t ∧ t.power.phase = .reset ∧
      t.power.kind = 5 ∧ t.cells = State.reset.cells ∧ t.pins.bypass = none) ∧
    (s.keeper.restarting = true → s.dict.held = [] → s.net.orders = [] → (∀ c, (s.cell c).sess.view = none) →
      ∃ t, exec (.keeperRestartComplete true false) s = .next t ∧ t.cells = s.cells ∧ t.objs = s.objs ∧
        t.keeper = { s.keeper with restarting := false } ∧ t.meters = s.meters.map Meter.markRestart) ∧
    (∀ m, ∃ t, exec (.minuteStart m) s = .next t ∧ t.cells = s.cells ∧ t.objs = s.objs ∧ t.keeper = s.keeper ∧ ∀ c,
      ((s.cell c).running = true → t.meters[c] = { s.meters[c] with due := some (minuteOf m) }) ∧
      ((s.cell c).sess.state = .parked → (t.meters[c]).minute = minuteOf m ∧ (t.meters[c]).due = none ∧
        bit (t.meters[c]).live.flags 2 = true ∧ (t.meters[c]).latched.map (fun l => (l.minute, l.cnt)) =
          (s.meters[c]).latched.map (fun l => (l.minute, l.cnt)) ++ [((s.meters[c]).minute, (s.meters[c]).live)]) ∧
      ((s.cell c).sess.state = .free → t.meters[c] = s.meters[c])) ∧
    (∀ c m l rest, s.keeper.restarting = false → (s.meters[c]).latched = l :: rest →
      ∃ t, exec (.meteringSeal c m) s = .next t ∧ (t.meters[c]).latched = rest ∧
        (t.cell c).sess.state = (if (s.cell c).sess.state = .ended ∧ rest = [] then .free else (s.cell c).sess.state) ∧
        (∀ d, d ≠ c → t.meters[d] = s.meters[d] ∧ (t.cell d).sess = (s.cell d).sess ∧ (t.cell d).mem = (s.cell d).mem) ∧
        t.keeper.recseq = s.keeper.recseq + 1 + b2n (l.proof6.frames != 0) + b2n (l.proof7.frames != 0) ∧
        (s.keeper.records.length < 4094 → t.keeper.records.map Prod.fst = s.keeper.records.map Prod.fst ++
          (List.range (t.keeper.recseq - s.keeper.recseq)).map fun k => s.keeper.recseq + 1 + k)) ∧
    (∀ n, ∃ t, exec (.meterAck n) s = .next t ∧ t = s.setKeeper { s.keeper with
      records := s.keeper.records.filter fun q => decide (n < q.1) }) ∧
    (∀ k, (s.slots k).other.state = .valid → (∀ o, otherFirmware k = some o → (s.slots o).act.state ≠ .trial) →
      ∃ t, exec (.activate k) s = .next t ∧ t.cells = s.cells ∧ (∀ o, o ≠ k → t.slots o = s.slots o) ∧ match k with
        | .cfg => t.slots k = { s.slots k with pending := true } ∧ t.keeper.handover = s.keeper.handover
        | .kfw => (t.slots k).active = !(s.slots k).active ∧ (t.slots k).act = { (s.slots k).other with state := .trial } ∧
            (t.slots k).other = (s.slots k).act ∧ t.keeper.restarting = true
        | .tfw => (t.slots k).active = !(s.slots k).active ∧ (t.slots k).act = { (s.slots k).other with state := .trial } ∧
            (t.slots k).other = (s.slots k).act ∧ t.keeper.handover = .preparing) ∧
    (∀ k, (s.slots k).act.state = .trial → ∃ t, exec (.slotCommit k) s = .next t ∧ t.cells = s.cells ∧ t.objs = s.objs ∧
      (t.slots k).act = { (s.slots k).act with state := .good } ∧ (t.slots k).active = (s.slots k).active ∧
      (t.slots k).otpSvn = (if k = .cfg then (s.slots k).otpSvn else Nat.max (s.slots k).otpSvn (s.slots k).act.svn) ∧
      ∀ o, o ≠ k → t.slots o = s.slots o) ∧
    (∃ t, exec .handoverWindowOpen s = .next t ∧
      t = if s.keeper.handover = .preparing then s.setKeeper { s.keeper with handover := .opened } else s) ∧
    (∀ tickets, s.keeper.handover = .opened → s.dict.held = [] → s.net.orders = [] → (∀ c, (s.cell c).sess.view = none) →
      ∃ t, exec (.tenderReady tickets) s = .next t ∧ t.cells = s.cells ∧ t.objs = s.objs ∧
        if (∀ k ∈ tickets, s.ticketKept k = true) then t.keeper = { s.keeper with handover := .none }
        else t.keeper.handover = .fallback) ∧
    (s.keeper.handover = .opened → ∃ t, exec .handoverTimeout s = .next t ∧ t.cells = s.cells ∧ t.objs = s.objs ∧
      t.keeper.handover = .fallback ∧ (t.slots .tfw).active = !(s.slots .tfw).active ∧
      (t.slots .tfw).other = { (s.slots .tfw).act with state := .bad } ∧ (t.slots .tfw).act = (s.slots .tfw).other) ∧
    (s.keeper.handover = .fallback → ∃ t, exec .handoverTimeout s = .next t ∧ t.cells = s.cells ∧ t.keeper = s.keeper ∧
      t.power = { s.power with healthy := false, withdrawn := true }) ∧
    (∀ c k, s.keeper.restarting = false → ∃ t, exec (.tenderRequest (.admission c k)) s = .next t ∧ t.cells = s.cells ∧
      if s.ticketGood c k then t.objs = s.objs ∧ t.keeper = { s.keeper with tickets :=
          (s.keeper.tickets.filter fun q => q.1 ≠ c.val) ++ [(c.val, field k 4 8, digest32 (admittedTicket k))] }
      else t.keeper = s.keeper ∧ t.obj 0x5000 7 = addCount 0x5000 7 (s.obj 0x5000 7) 1)

/-! ## Debug -/

/-- The debug port: a frame while another's result is outstanding is answered WAIT and does nothing, its repetition fetches
the result once it is ready; the port's registers request a level, take the response and submit it; Keeper's verdict grants
the level or refuses it; a relock, and in PRODUCTION the end of a consent, lock it again; a line reset drops the outstanding
result, a CRC error is flagged; reading the trace word hands out the oldest packet word by word
(R422 to R428, R440). -/
def Obligations.DebugPortFrames : Prop :=
  ∀ (s : State), s.inReset = false →
    (∀ p, s.port.pending = some p →
      (∀ tgt a v, (p.target ≠ targetCode tgt ∨ p.op ≠ 1 ∨ p.addr ≠ a → exec (.debugRead tgt a) s = .next (s.send (.dbg 2 0))) ∧
        (p.target ≠ targetCode tgt ∨ p.op ≠ 2 ∨ p.addr ≠ a ∨ p.data ≠ v →
          exec (.debugWrite tgt a v) s = .next (s.send (.dbg 2 0))) ∧
        (p.target ≠ targetCode tgt ∨ p.op ≠ 3 → exec (.debugHalt tgt) s = .next (s.send (.dbg 2 0))) ∧
        (p.target ≠ targetCode tgt ∨ p.op ≠ 4 → exec (.debugResume tgt) s = .next (s.send (.dbg 2 0))) ∧
        (p.target ≠ targetCode tgt ∨ p.op ≠ 5 → exec (.debugStep tgt) s = .next (s.send (.dbg 2 0))) ∧
        (p.target ≠ targetCode tgt ∨ p.op ≠ 6 ∨ p.data ≠ v → exec (.debugInject tgt v) s = .next (s.send (.dbg 2 0)))) ∧
      (∀ tgt a, p.target = targetCode tgt → p.op = 1 → p.addr = a → p.data = 0 → ∃ t, exec (.debugRead tgt a) s = .next t ∧
        match p.answer with
        | none => t = s.send (.dbg 2 0)
        | some r => t.tx = s.tx ++ [.dbg r.1 r.2] ∧ t.cells = s.cells ∧ t.port = { s.port with
            pending := none, fault := if r.1 = 4 then r.2.toNat % 256 else s.port.fault })) ∧
    (s.port.pending = none →
      (∀ v : Word, ∃ t, exec (.portReq v) s = .next t ∧ t.cells = s.cells ∧ t.keeper = s.keeper ∧ t.tx = s.tx ++ [.dbg 1 0] ∧
        if v = 1 ∨ v = 2 then t.port = { s.port with
            request := v.toNat, challenge := t.port.challenge, response := [], used := false, result := 0 } ∧
          t.port.challenge.length = 48 ∧ t.port.challenge.take 4 = [1, BitVec.ofNat 8 v.toNat, BitVec.ofNat 8 s.keeper.lifecycle, 0]
        else t.port = s.port) ∧
      (∀ v, ∃ t, exec (.portResp v) s = .next t ∧
        t = (s.setPort { s.port with response := s.port.response ++ beBytes 4 v.toNat }).send (.dbg 1 0)) ∧
      (∀ v, ∃ t, exec (.portSubmit v) s = .next t ∧
        t = (s.setPort { s.port with busy := v.getLsbD 0 || s.port.busy }).send (.dbg 1 0)) ∧
      (∀ v, v.getLsbD 0 = true → ∃ t, exec (.portRelock v) s = .next t ∧ t.port.level = 0 ∧ t.keeper = s.keeper ∧
        t.port.request = s.port.request ∧ ((∀ c, (s.cell c).sess.state = .free) → t.cells = s.cells)) ∧
      (∀ a, ∃ t, exec (.debugRead .port a) s = .next t ∧ t.cells = s.cells ∧
        (a = 0 → t = s.send (.dbg 1 (BitVec.ofNat 32 (s.port.fault * 2 ^ 24 + b2n s.port.crcErr * 32 + b2n s.port.busy * 16 +
          s.port.result * 4 + s.port.level)))) ∧
        (0x012C < a.toNat → a ≠ 0x0200 → t = (s.setPort { s.port with fault := 5 }).send (.dbg 4 5)))) ∧
    (s.port.busy = true → ∃ t, exec .unlockVerdict s = .next t ∧ t.port.busy = false ∧ t.port.used = true ∧
      t.keeper = s.keeper ∧ if s.unlockGood then t.port.result = 1 ∧ t.port.level = s.port.request
      else t.port.result = 2 ∧ t.port.level = s.port.level ∧ t.cells = s.cells) ∧
    (∃ t, exec .consentExpiry s = .next t ∧
      (if s.keeper.lifecycle = 2 then t.port.level = 0 ∧ t.keeper = s.keeper else t = s)) ∧
    (∃ t, exec .debugLineReset s = .next t ∧ t.cells = s.cells ∧ t.tx = s.tx ∧ t.port = { s.port with pending := none } ∧
      ∀ c : CellId, (∀ o ∈ (t.dbg[c]).waiting, o.route ≠ 0) ∧
        (t.dbg[c]).waiting.map DbgOp.op = (s.dbg[c]).waiting.map DbgOp.op) ∧
    (∃ t, exec .debugFrameCrcError s = .next t ∧ t = s.setPort { s.port with crcErr := true }) ∧
    (∀ (c : CellId) p rest, s.port.pending = none → s.port.powered = true → 1 ≤ s.effLevel c → (s.dbg[c]).waiting = [] →
      (s.dbg[c]).trace = p :: rest → ∃ t, exec (.traceWordRead c) s = .next t ∧ t.cells = s.cells ∧
        t.tx = s.tx ++ [.dbg 1 (BitVec.ofNat 32 (field p (4 * (s.dbg[c]).word) 4))] ∧
        t.dbg[c] = if (s.dbg[c]).word = 3 then (s.dbg[c]).remove 1 else { s.dbg[c] with word := (s.dbg[c]).word + 1 })

/-- The debug operations on a cell at level FULL: READ and WRITE of a halted cell's registers and memory, FAULT NOT_HALTED
otherwise; HALT waits for an instruction boundary, and HALT_EFFECT answers it; RESUME and STEP release, and a completed step
halts again; INJECT runs one instruction without moving pc, or reports the exception it would raise; a level written to a
cell, a request through the tunnel with its result, and the removal of trace packets
(R420, R421, R426, R429 to R437, R440). -/
def Obligations.DebugOperations : Prop :=
  ∀ (s : State) (c : CellId) (x : Cell), s.cell c = x →
    (Debugged s c →
      (∀ (r : Reg) a, a = BitVec.ofNat 32 (0xC0000000 + 4 * r.val) → ∃ t, exec (.debugRead (.cell c) a) s = .next t ∧
        t.cells = s.cells ∧ if x.cpu.dbg.halted then t.tx = s.tx ++ [.dbg 1 (x.x r)] ∧ t.port = s.port
          else t.tx = s.tx ++ [.dbg 4 4] ∧ t.port = { s.port with fault := 4 }) ∧
      (∀ r off (a : Word), dbgPlace a.toNat = .mem r off → a.toNat % 4 = 0 → x.fenced r off (off + 4) = false →
        x.cpu.dbg.halted = true → ∃ t, exec (.debugRead (.cell c) a) s = .next t ∧ t.cells = s.cells ∧
          t.tx = s.tx ++ [.dbg 1 ((x.mem.region r).read32 off)]) ∧
      (∀ (r : Reg) a v, a = BitVec.ofNat 32 (0xC0000000 + 4 * r.val) → ∃ t, exec (.debugWrite (.cell c) a v) s = .next t ∧
        OnlyCell c s { t with port := s.port } ∧ if x.cpu.dbg.halted then t.tx.getLast? = some (.dbg 1 0) ∧ GprOnly r v x (t.cell c) ∧
            EnginesKept x (t.cell c) ∧ (t.cell c).cpu.pc = x.cpu.pc ∧ (t.cell c).beam.fpos = x.beam.fpos + 1
          else t.tx = s.tx ++ [.dbg 4 4] ∧ t.cells = s.cells) ∧
      (∃ t, exec (.debugHalt (.cell c)) s = .next t ∧ if x.cpu.dbg.halted then t.cells = s.cells ∧ t.tx = s.tx ++ [.dbg 1 0]
        else OnlyCell c s { t with port := s.port } ∧ (t.cell c).cpu.dbg = { x.cpu.dbg with haltReq := true } ∧
          t.tx = s.tx ++ [.dbg 2 0] ∧ (t.dbg[c]).waiting = [⟨0, 3, 0, 0⟩] ∧
          t.port = { s.port with pending := some ⟨c.val, 3, 0, 0, none⟩ }) ∧
      (∃ t, exec (.debugResume (.cell c)) s = .next t ∧ t.tx.getLast? = some (.dbg 1 0) ∧
        if x.cpu.dbg.halted then (t.cell c).cpu.dbg.halted = false ∧ (t.cell c).cpu.dbg.stepping = false ∧
          (∀ r, (t.cell c).x r = x.x r) else t.cells = s.cells) ∧
      (∃ t, exec (.debugStep (.cell c)) s = .next t ∧ if x.cpu.dbg.halted then t.tx.getLast? = some (.dbg 1 0) ∧
          (t.cell c).cpu.dbg.halted = false ∧ (t.cell c).cpu.dbg.stepping = true ∧ ∀ r, (t.cell c).x r = x.x r
        else t.cells = s.cells ∧ t.tx = s.tx ++ [.dbg 4 4]) ∧
      (∀ v, x.cpu.dbg.halted = true → ∃ t, exec (.debugInject (.cell c) v) s = .next t ∧
        if injectBad (rvDecode v) then t.cells = s.cells ∧ t.tx = s.tx ++ [.dbg 4 7]
        else match x.injectCause (rvDecode v) with
          | some k => t.tx.getLast? = some (.dbg 4 (BitVec.ofNat 32 (k % 256 * 256 + 8))) ∧
              (t.cell c).cpu = { x.cpu with dbg := { x.cpu.dbg with injExc := true, injCause := k } }
          | none => t.tx.getLast? = some (.dbg 1 0) ∧ (t.cell c).cpu.pc = x.cpu.pc ∧ (t.cell c).cpu.dbg.injExc = false ∧
              ∀ j, rvDecode v = .alu j → GprOnly (aluDest j) (aluValue x j) x (t.cell c) ∧
                (t.cell c).cpu.minstret = x.cpu.minstret ∧ (t.cell c).beam.fpos = x.beam.fpos + 1)) ∧
    (∀ y p, x.flush = y → y.outbox = [] → y.running = true → y.beam.inPorch = false → y.cpu.dbg.halted = false → y.cpu.dbg.haltReq = true →
      s.effLevel c = 2 → (s.dbg[c]).waiting = [⟨0, 3, 0, 0⟩] → s.port.pending = some p →
      ∃ t, exec (.haltEffect c) s = .next t ∧ (t.cell c).cpu.dbg.halted = true ∧ (t.cell c).cpu.dbg.cause = 1 ∧
        (t.cell c).cpu.dbg.haltReq = false ∧ (t.cell c).cpu.pc = y.cpu.pc ∧ (∀ r, (t.cell c).x r = y.x r) ∧
        (t.dbg[c]).waiting = [] ∧ t.port = { s.port with pending := some { p with answer := some (1, 0) } } ∧
        ∀ d, d ≠ c → t.cell d = s.cell d) ∧
    (∀ y, x.flush = y → y.outbox = [] → y.beam.inPorch = false → y.cpu.dbg.stepping = true → y.cpu.dbg.stepped = true →
      (s.dbg[c]).waiting = [] → ∃ t, exec (.stepComplete c) s = .next t ∧ (t.cell c).cpu.dbg.halted = true ∧
        (t.cell c).cpu.dbg.cause = 3 ∧ (t.cell c).cpu.dbg.stepping = false ∧ (t.cell c).cpu.pc = y.cpu.pc ∧
        ∀ d, d ≠ c → t.cell d = s.cell d) ∧
    (∀ level, s.up = true → level ≤ 2 → ∃ t, exec (.debugLevelWrite c level) s = .next t ∧ (t.dbg[c]).level = level ∧
      (∀ d : CellId, d ≠ c → t.dbg[d] = s.dbg[d] ∧ t.cell d = s.cell d) ∧ t.keeper = s.keeper ∧
      (x.sess.state = .free → t.cell c = x)) ∧
    (∀ (ch : Channel) req, s.channel ch.id = some ch → ch.isOpen = true → 1 ≤ ch.id → ch.id < 2 ^ 32 → req.length = 10 →
      s.accessError ch.client (0x7000 + c.val) 2 true = 0 → (s.dbg[c]).waiting = [] → field req 0 1 = 1 →
      field req 2 4 = 0xC0000100 → ∃ t, exec (.debugTunnelRequest ch.id c req) s = .next t ∧ t.cells = s.cells ∧ t.tx = s.tx ∧
        t.port = s.port ∧ (ch.id, c.val, if (s.dbg[c]).level = 0 then [4, 0, 0, 0, 3]
          else 1 :: beBytes 4 (s.dbgStatus c).toNat) ∈ t.dict.results) ∧
    (∀ n, ∃ t, exec (.traceRemove c n) s = .next t ∧
      t = if n = 0 ∨ (s.dbg[c]).trace = [] then s else s.setDbg c ((s.dbg[c]).remove n))

/-! ## Power, resets, supply and pins -/

/-- Ridges and power states: a ridge locks while it powers up and is then powered; without live sessions a lock loss resets
it, with them health is withdrawn; a worker whose cells are FREE parks on request and wakes on request, when the transition
is complete (R206, R443 to R445, R450, R453, R454). -/
def Obligations.RidgesAndPowerStates : Prop :=
  ∀ (s : State),
    (∀ r, s.power.current = some r → (s.ridges[r]).locked = false → (∀ c, (s.cell c).wf = true) → ∃ t, exec (.ridgePllLock r) s = .next t ∧
      t.ridges = s.ridges.set r.val { s.ridges[r] with locked := true } ∧ t.power = s.power ∧ t.objs = s.objs ∧
      ∀ c, (t.cell c).mem = (s.cell c).mem ∧ (ridgeOf c = r → (t.cell c).fld Reg.TMR_STAT 31 31 = 0) ∧
        (ridgeOf c ≠ r → t.cell c = s.cell c)) ∧
    (∀ r, s.power.current = some r → (s.ridges[r]).locked = true →
      (s.waits = true ∨ (s.net.orders = [] ∧ ∀ c, (s.cell c).sess.view = none)) →
      (∀ q : RidgeId, q ≠ r → (s.ridges[q]).wanted = false) → ∃ t, exec (.ridgePowerUpDone r) s = .next t ∧
        t.ridges = s.ridges.set r.val { s.ridges[r] with powered := true } ∧ t.power = { s.power with current := none } ∧
        t.cells = s.cells) ∧
    (∀ r, (s.ridges[r]).locked = true → s.ridgeLive r = true → ∃ t, exec (.ridgePllLockLoss r) s = .next t ∧
      t = s.setPower { s.power with healthy := false, withdrawn := true }) ∧
    (∀ r, (s.ridges[r]).locked = true → (∀ c, ridgeOf c = r → (s.cell c).sess.state = .free) →
      ∃ t, exec (.ridgePllLockLoss r) s = .next t ∧ t.ridges = s.ridges.set r.val Ridge.reset ∧ t.power = s.power ∧
        ∀ c, ridgeOf c ≠ r → t.cell c = s.cell c) ∧
    (∀ r, ∃ t, exec (.ridgeFault r) s = .next t ∧
      t = if s.ridgeLive r then s.setPower { s.power with healthy := false, withdrawn := true } else s) ∧
    (s.up = true → s.power.moving = none → s.power.state = .idle → ∃ t, exec .powerRequestParked s = .next t ∧
      t = if s.mayPark then s.setPower { s.power with moving := some .parked } else s) ∧
    (s.up = true → s.power.moving = none → s.power.state = .parked → ∃ t, exec .powerRequestIdle s = .next t ∧
      t = s.setPower { s.power with moving := some .idle }) ∧
    (∀ p q, s.up = true → s.power.moving = some q → ∃ t, exec (if p then .powerRequestParked else .powerRequestIdle) s = .next t ∧
      t = if p && !s.mayPark then s else s.setPower { s.power with queued := some (if p then .parked else .idle) }) ∧
    (∀ p, s.power.moving = some p → s.power.queued = none → s.power.waitDesc = [] →
      ∃ t, exec .powerTransitionComplete s = .next t ∧ t = s.setPower { s.power with state := p, moving := none })

/-- Resets and start-up: each cause resets the device with its kind; a reset ends when its cause and the pins allow it, and a
device without a KFW slot that passes is in recovery; ROLE is sampled, a difference from the role object recorded; DDR5 that
meets the rules starts the device at its speed (R337, R451, R452, R455, R460, R461, R464, R475). -/
def Obligations.ResetsAndStartUp : Prop :=
  ∀ (s : State),
    (∀ v, s.power.phase = .running ∨ s.power.phase = .noMemory → ∃ t, exec (.deviceResetCommand v) s = .next t ∧
      if v = 0x52534554 then InReset s t 6 else t = s) ∧
    (∃ t, exec .pwrOkFall s = .next t ∧ InReset s t 0 ∧ t.power.pwrOk = false) ∧
    (∃ t, exec .resetNLow s = .next t ∧ t.power.resetN = false ∧
      InReset s t (if s.power.phase = .reset ∧ s.power.kind = 0 then 0 else 1)) ∧
    (∃ t, exec .vddAonLow s = .next t ∧ InReset s t 0) ∧
    (s.inReset = false →
      (∀ mv, ∃ t, exec (.vddCoreReset mv) s = .next t ∧ if mv < 660 then InReset s t 2 else t = s) ∧
      (∃ t, exec .refclkLoss s = .next t ∧ InReset s t 8 ∧ t.power.refclk = false) ∧
      (∃ t, exec .lockstepMismatch s = .next t ∧ InReset s t 4) ∧
      (∃ t, exec .healthReportMissed s = .next t ∧ InReset s t 5) ∧
      (s.up = true → ∃ t, exec .ringPathFault s = .next t ∧ InReset s t 7)) ∧
    (∃ t, exec .refclkReturn s = .next t ∧ t = s.setPower { s.power with refclk := true }) ∧
    (∃ t, exec .crystalLoss s = .next t ∧ t = s.setPower { s.power with sysclkSec := true }) ∧
    (s.power.phase = .reset → s.power.kind ≤ 1 → ∃ t, exec .resetRelease s = .next t ∧ t.cells = s.cells ∧
      t.power.pwrOk = true ∧ t.power.resetN = true ∧ if s.power.refclk then
        t.power.phase = (if ((s.slots .kfw).boot.act.state = .good ∨ (s.slots .kfw).boot.act.state = .trial) then .starting else .recovery) ∧
          t.power.kind = s.power.kind ∧ t.keeper.nonce.length = 32 ∧ t.keeper.boot < 2 ^ 32 ∧ ∀ k, t.slots k = (s.slots k).boot
      else t = s.setPower { s.power with pwrOk := true, resetN := true, kind := 8 }) ∧
    (s.power.phase = .reset → 2 ≤ s.power.kind → ∃ t, exec .deviceResetEnd s = .next t ∧ t.cells = s.cells ∧
      if s.resetMayEnd then t.power.phase = .starting ∨ t.power.phase = .recovery else t = s) ∧
    (∀ role, s.power.phase = .starting → s.objsWf = true → ∃ t, exec (.roleSample role true) s = .next t ∧ CellsKept { s with power := t.power, pins := t.pins } t ∧
      t.pins = { s.pins with roleStrap := role } ∧ t.obj 0x1001 3 = (if b2n role = s.obj 0x1001 1 then s.obj 0x1001 3 else 1) ∧
      t.power = { s.power with phase := .training, uplink := (role && (s.obj 0x1001 1 == 1)) }) ∧
    (∀ role, s.power.phase = .starting → ∃ t, exec (.roleSample role false) s = .next t ∧ t.power.phase = .test ∧
      t.cells = State.reset.cells ∧ t.objs = State.reset.objs) ∧
    (∀ d, s.power.phase = .training → ∃ t, exec (.ddrTrainingComplete d) s = .next t ∧ t.cells = s.cells ∧ t.objs = s.objs ∧
      match ddrSpeed d with
      | none => t.power = { s.power with phase := .noMemory }
      | some v => t.power = { s.power with
          phase := .running, state := .idle, speed := v, ddrGiB := 4 * d.perChannel * d.densityGiB } ∧ 4800 ≤ v ∧ v ≤ 5600)

/-- Supply and pins: a fall below 0.700 V begins a brown-out hold, which 20 µs at 0.710 V end; a sample and a temperature are
kept with their extremes, the alert follows its threshold with 5 °C of hysteresis and VRHOT_N; links are shown lane by lane;
a GPIO function takes effect behind a hold of the pad, options are stored, a conversion gives the code within 4 LSB; the
SMBus target answers each command and releases its alert
(R385, R456 to R460, R467 to R473). -/
def Obligations.SupplyAndPins : Prop :=
  ∀ (s : State), s.objsWf = true →
    (∀ mv, s.inReset = false → mv < 700 → ∃ t, exec (.brownoutHoldBegin mv) s = .next t ∧ t.cells = s.cells ∧
      t.power = { s.power.seeCore mv with hold := true, rising := false } ∧ t.pins = { s.pins with
        smbAlert := s.pins.smbAlert || !s.power.hold } ∧
      t.obj 0x2031 6 = if s.power.hold then s.obj 0x2031 6 else addCount 0x2031 6 (s.obj 0x2031 6) 1) ∧
    (∀ mv, s.power.hold = true → ∃ t, exec (.vddCoreHoldLevelCrossing mv) s = .next t ∧
      t = s.setPower { s.power.seeCore mv with rising := decide (710 ≤ mv) }) ∧
    (s.power.hold = true → s.power.rising = true →
      (s.noTender = true ∨ (s.net.orders = [] ∧ ∀ c, (s.cell c).sess.view = none)) → (∀ r : RidgeId, (s.ridges[r]).wanted = false) →
      ∃ t, exec .brownoutHoldEnd s = .next t ∧ CellsKept { s with power := t.power } t ∧
        t.power = { s.power with hold := false, rising := false }) ∧
    (∀ r, s.inReset = false → ∃ t, exec (.supplySample r) s = .next t ∧ t = s.setPower { s.power.seeCore r.core with rails := r } ∧
      t.power.coreMin = if s.power.coreMin = 0 then r.core else Nat.min s.power.coreMin r.core) ∧
    (∀ l m, hottest l = some m → s.inReset = false → m < 1250 → ∃ t, exec (.temperatureReading l) s = .next t ∧
      t.cells = s.cells ∧ t.objs = s.objs ∧ t.power.temp = m ∧ (s.power.tempRead = true → s.power.tempMax ≤ t.power.tempMax) ∧
      m ≤ t.power.tempMax ∧ t.power.vrhot = s.power.vrhot ∧
      t.power.hot = (if s.power.hot then decide (s.hotLevel - 50 ≤ m) else decide (s.hotLevel ≤ m)) ∧
      t.pins = { s.pins with smbAlert := s.pins.smbAlert || (!s.power.hot && !s.power.vrhot && t.power.hot) }) ∧
    (∀ high, s.inReset = false → ∃ t, exec (.vrhotN high) s = .next t ∧ t.cells = s.cells ∧ t.objs = s.objs ∧
      t.power = { s.power with vrhot := !high && (s.vrhotMapped || s.power.vrhot) } ∧ t.pins = { s.pins with
        smbAlert := s.pins.smbAlert || (!s.power.hot && !s.power.vrhot && t.power.vrhot) }) ∧
    (∀ lane (n : Fin 8) isUp k, k = (if lane then 0x0B else 0x0A) → s.inReset = false → s.power.uplink = true →
      lane = true ∨ n.val = 0 ∨ (n.val = 1 ∧ s.power.twin = true) →
      ∃ t, exec (.uplinkLinkChange lane n isUp) s = .next t ∧ t = s.setObj 0x2010 k (t.obj 0x2010 k) ∧
        bit (t.obj 0x2010 k) n.val = isUp ∧ ∀ j, j ≠ n.val → bit (t.obj 0x2010 k) j = bit (s.obj 0x2010 k) j) ∧
    (∀ isUp, s.inReset = false → ∃ t, exec (.serviceLinkChange isUp) s = .next t ∧ t = s.setObj 0x2020 4 (b2n isUp)) ∧
    (∀ p code, s.up = true → ∃ t, exec (.gpioFunctionWrite p code) s = .next t ∧ CellsKept { s with pins := t.pins } t ∧
      if gpioAllowed p.val code then t.gpioFn p = code ∧ t.gpioOut p = s.gpioOut p ∧ (t.pins.gpio[p]).isSome = true ∧
          ∀ q : Fin 40, q ≠ p → t.pins.gpio[q] = s.pins.gpio[q] ∧ t.gpioFn q = s.gpioFn q
      else t = s) ∧
    (∀ p : Fin 40, ∃ t, exec (.gpioHoldEnd p) s = .next t ∧
      t = s.setPins { s.pins with gpio := s.pins.gpio.set p.val none }) ∧
    (∀ p v, s.up = true → ∃ t, exec (.gpioOptionsWrite p v) s = .next t ∧ match gpioOptions p.val v.toNat with
      | none => t = s
      | some w => t.gpioOpt p = w ∧ ∀ q, t.gpioFn q = s.gpioFn q) ∧
    (∀ (ch : Fin 8) uv, s.up = true → s.gpioFn ⟨32 + ch.val, by omega⟩ = 7 → ∃ t, exec (.adcConversion ch uv) s = .next t ∧
      t.cells = s.cells ∧ t.obj 0x2140 (1 + ch.val) ≤ 4095 ∧ (1200000 < uv → t.obj 0x2140 (1 + ch.val) = 4095) ∧
      (uv ≤ 1200000 → t.obj 0x2140 (1 + ch.val) ≤ uv * 4096 / 1200000 + 4 ∧
        Nat.min 4095 (uv * 4096 / 1200000) ≤ t.obj 0x2140 (1 + ch.val) + 4)) ∧
    (s.smbOn = true →
      exec .smbReadRevision s = .next (s.send (.smb [0xB0])) ∧
      (∃ t b, exec .smbReadStatus s = .next t ∧ t = s.send (.smb [b]) ∧ b.toNat % 16 = b2n s.alert + 2 * b2n s.power.hold +
        4 * b2n (s.pins.bypass == some true) + 8 * b2n (s.power.phase == .recovery) ∧ b.toNat / 16 = s.powerCode) ∧
      exec .smbReadTemperature s = .next (s.send (.smb (smbWord s.power.temp))) ∧
      exec .smbReadTemperatureMax s = .next (s.send (.smb (smbWord s.power.tempMax))) ∧
      exec .smbReadVddCore s = .next (s.send (.smb (smbWord s.power.rails.core))) ∧
      exec .smbReadVddCoreMin s = .next (s.send (.smb (smbWord s.power.coreMin))) ∧
      exec .smbReadResetKind s = .next (s.send (.smb [BitVec.ofNat 8 s.power.kind])) ∧
      exec .smbReadDeviceId s = .next (s.send (.smb (8 :: beBytes 8 Config.deviceId.toNat))) ∧
      (s.pins.smbAlert = true → ∃ t, exec .smbAlertResponse s = .next t ∧
        t = (s.send (.smb [0x5A])).setPins { s.pins with smbAlert := false }) ∧
      (∀ code : Byte, 7 < code.toNat → exec (.smbUnlistedCommand code) s = .next (s.send .smbNack)))

/-- A reading of 125 °C or more resets the device with kind THERMAL, and it stays in reset until every sensor reads below the
alert threshold less 5 °C (R460). -/
def Obligations.ThermalShutdown : Prop :=
  (∀ (s : State) (l : List Int) (m : Int), hottest l = some m → s.inReset = false → 1250 ≤ m →
    ∃ t, exec (.temperatureReading l) s = .next t ∧ InReset s t 3 ∧ t.power.temp = m) ∧
  (∀ (s : State) (l : List Int) (m : Int), hottest l = some m → s.power.phase = .reset → s.power.kind = 3 →
    ∃ t, exec (.temperatureReading l) s = .next t ∧ t.power.temp = m ∧ t.power.phase = .reset ∧ t.power.kind = 3 ∧
      t.objs = s.objs ∧
      ((∃ k ∈ l, s.hotLevel - 50 ≤ k) → exec .deviceResetEnd t = .next t) ∧
      ((∀ k ∈ l, k < s.hotLevel - 50) → s.power.pwrOk = true → s.power.resetN = true → s.power.refclk = true →
        ∃ u, exec .deviceResetEnd t = .next u ∧ u.power.phase ≠ .reset))
end

