-- ==== Sys2Proof/Laws/Sparse.lean ====
section
/-! SUPPORT. Laws of sparse files and memories: read after write, and that every write keeps the canonical form. -/

namespace Sys2Proof.Machine

variable {α : Type} [DecidableEq α] (dflt : Nat → α)

theorem Sparse.get_below {m : List (Nat × α)} {lo a : Nat} (h : Sparse.wfFrom dflt lo m = true) (ha : a < lo) :
    Sparse.get dflt m a = dflt a := by
  cases m with
  | nil => rfl
  | cons p r =>
    obtain ⟨k, v⟩ := p
    simp only [Sparse.wfFrom, Bool.and_eq_true, decide_eq_true_eq] at h
    have h1 : k ≠ a := by omega
    have h2 : a < k := by omega
    simp [Sparse.get, h1, h2]

/-- A read of the key that was written gives the value. -/
@[simp] theorem Sparse.get_put_same (m : List (Nat × α)) (a : Nat) (v : α) :
    ∀ lo, Sparse.wfFrom dflt lo m = true → Sparse.get dflt (Sparse.put dflt m a v) a = v := by
  induction m with
  | nil => intro lo _; by_cases h : v = dflt a <;> simp [Sparse.put, Sparse.get, h]
  | cons p r ih =>
    intro lo hw
    obtain ⟨k, w⟩ := p
    have hw' := hw
    simp only [Sparse.wfFrom, Bool.and_eq_true, decide_eq_true_eq] at hw
    rcases Nat.lt_trichotomy a k with h | h | h
    · have hk : k ≠ a := by omega
      by_cases hv : v = dflt a <;> simp [Sparse.put, Sparse.get, h, hv, hk]
    · subst h
      by_cases hv : v = dflt a
      · simp [Sparse.put, hv, Sparse.get_below dflt hw.2 (Nat.lt_succ_self a)]
      · simp [Sparse.put, Sparse.get, hv]
    · have h1 : ¬ a < k := by omega
      have h2 : ¬ a = k := by omega
      have h3 : ¬ k = a := by omega
      simp [Sparse.put, Sparse.get, h1, h2, h3, ih _ hw.2]

/-- A read of any other key gives what it gave before. -/
theorem Sparse.get_put_other (m : List (Nat × α)) (a b : Nat) (v : α) (hab : b ≠ a) :
    ∀ lo, Sparse.wfFrom dflt lo m = true → Sparse.get dflt (Sparse.put dflt m a v) b = Sparse.get dflt m b := by
  induction m with
  | nil =>
    intro lo _
    have h' : a ≠ b := fun e => hab e.symm
    by_cases h : v = dflt a <;> simp [Sparse.put, Sparse.get, h, h']
  | cons p r ih =>
    intro lo hw
    obtain ⟨k, w⟩ := p
    simp only [Sparse.wfFrom, Bool.and_eq_true, decide_eq_true_eq] at hw
    have h' : a ≠ b := fun e => hab e.symm
    rcases Nat.lt_trichotomy a k with h | h | h
    · by_cases hv : v = dflt a
      · simp [Sparse.put, h, hv]
      · by_cases hb : b < a
        · have h1 : ¬ k = b := by omega
          have h2 : b < k := by omega
          simp [Sparse.put, Sparse.get, h, hv, h', hb, h1, h2]
        · simp [Sparse.put, Sparse.get, h, hv, h', hb]
    · subst h
      by_cases hv : v = dflt a
      · by_cases hb : b < a
        · simp [Sparse.put, Sparse.get, hv, h', hb, Sparse.get_below dflt hw.2 (by omega : b < a + 1)]
        · simp [Sparse.put, Sparse.get, hv, h', hb]
      · simp [Sparse.put, Sparse.get, hv, h']
    · have h1 : ¬ a < k := by omega
      have h2 : ¬ a = k := by omega
      by_cases hk : k = b
      · subst hk
        simp [Sparse.put, Sparse.get, h1, h2]
      · simp [Sparse.put, Sparse.get, h1, h2, hk, ih _ hw.2]

theorem Sparse.wfFrom_mono {m : List (Nat × α)} {lo hi : Nat} (h : lo ≤ hi) (hw : Sparse.wfFrom dflt hi m = true) :
    Sparse.wfFrom dflt lo m = true := by
  cases m with
  | nil => rfl
  | cons p r =>
    obtain ⟨k, v⟩ := p
    simp only [Sparse.wfFrom, Bool.and_eq_true, decide_eq_true_eq] at hw ⊢
    exact ⟨⟨by omega, hw.1.2⟩, hw.2⟩

/-- A write keeps the canonical form. -/
theorem Sparse.wfFrom_put (m : List (Nat × α)) (a : Nat) (v : α) :
    ∀ lo, lo ≤ a → Sparse.wfFrom dflt lo m = true → Sparse.wfFrom dflt lo (Sparse.put dflt m a v) = true := by
  induction m with
  | nil => intro lo hlo _; by_cases h : v = dflt a <;> simp [Sparse.put, Sparse.wfFrom, h, hlo]
  | cons p r ih =>
    intro lo hlo hw
    obtain ⟨k, w⟩ := p
    have hw0 := hw
    simp only [Sparse.wfFrom, Bool.and_eq_true, decide_eq_true_eq] at hw
    rcases Nat.lt_trichotomy a k with h | h | h
    · by_cases hv : v = dflt a
      · simpa [Sparse.put, h, hv] using hw0
      · have h3 : a + 1 ≤ k := h
        simp [Sparse.put, h, hv, Sparse.wfFrom, hlo, hw.1.2, hw.2, h3]
    · subst h
      by_cases hv : v = dflt a
      · simpa [Sparse.put, hv] using Sparse.wfFrom_mono dflt (by omega) hw.2
      · simp [Sparse.put, hv, Sparse.wfFrom, hlo, hw.2]
    · have h1 : ¬ a < k := by omega
      have h2 : ¬ a = k := by omega
      simp [Sparse.put, h1, h2, Sparse.wfFrom, hw.1.1, hw.1.2, ih (k + 1) h hw.2]

theorem Sparse.wf_put {m : List (Nat × α)} (a : Nat) (v : α) (h : Sparse.wf dflt m = true) :
    Sparse.wf dflt (Sparse.put dflt m a v) = true := Sparse.wfFrom_put dflt m a v 0 (Nat.zero_le _) h

@[simp] theorem Sparse.wf_nil : Sparse.wf dflt [] = true := rfl

theorem Sparse.wf_foldl_put {β : Type} (key : β → Nat) (val : β → α) (l : List β) :
    ∀ m, Sparse.wf dflt m = true → Sparse.wf dflt (l.foldl (fun r q => Sparse.put dflt r (key q) (val q)) m) = true := by
  induction l with
  | nil => intro m h; exact h
  | cons q l ih => intro m h; exact ih _ (Sparse.wf_put dflt _ _ h)

/-- The canonical form of any list of pairs is canonical. -/
theorem Sparse.wf_normal (m : List (Nat × α)) : Sparse.wf dflt (Sparse.normal dflt m) = true :=
  Sparse.wf_foldl_put dflt Prod.fst Prod.snd m [] rfl

/-- Leaving entries out keeps the canonical form. -/
theorem Sparse.wfFrom_filter (p : Nat × α → Bool) (m : List (Nat × α)) :
    ∀ lo, Sparse.wfFrom dflt lo m = true → Sparse.wfFrom dflt lo (m.filter p) = true := by
  induction m with
  | nil => intro lo h; exact h
  | cons q r ih =>
    intro lo hw
    obtain ⟨k, w⟩ := q
    simp only [Sparse.wfFrom, Bool.and_eq_true, decide_eq_true_eq] at hw
    have h := ih _ hw.2
    by_cases hp : p (k, w) = true
    · simp [hp, Sparse.wfFrom, hw.1.1, hw.1.2, h]
    · simp [hp]; exact Sparse.wfFrom_mono dflt (by omega) h

theorem Sparse.wf_filter {m : List (Nat × α)} (p : Nat × α → Bool) (h : Sparse.wf dflt m = true) :
    Sparse.wf dflt (m.filter p) = true := Sparse.wfFrom_filter dflt p m 0 h

/-- Equal reads make equal files. -/
theorem Sparse.ext_from (m n : List (Nat × α)) : ∀ lo, Sparse.wfFrom dflt lo m = true → Sparse.wfFrom dflt lo n = true →
    (∀ a, Sparse.get dflt m a = Sparse.get dflt n a) → m = n := by
  induction m generalizing n with
  | nil =>
    intro lo _ hn h
    cases n with
    | nil => rfl
    | cons q r =>
      obtain ⟨k, v⟩ := q
      simp only [Sparse.wfFrom, Bool.and_eq_true, decide_eq_true_eq] at hn
      have := h k
      simp [Sparse.get] at this
      exact absurd this.symm hn.1.2
  | cons p m ih =>
    intro lo hm hn h
    obtain ⟨k, v⟩ := p
    simp only [Sparse.wfFrom, Bool.and_eq_true, decide_eq_true_eq] at hm
    cases n with
    | nil =>
      have := h k
      simp [Sparse.get] at this
      exact absurd this hm.1.2
    | cons q r =>
      obtain ⟨j, w⟩ := q
      simp only [Sparse.wfFrom, Bool.and_eq_true, decide_eq_true_eq] at hn
      have hkj : k = j := by
        rcases Nat.lt_trichotomy k j with g | g | g
        · have h1 := h k
          have e : ¬ j = k := by omega
          simp [Sparse.get, e, g] at h1
          exact absurd h1 hm.1.2
        · exact g
        · have h1 := h j
          have e : ¬ k = j := by omega
          simp [Sparse.get, e, g] at h1
          exact absurd h1.symm hn.1.2
      subst hkj
      have hv : v = w := by simpa [Sparse.get] using h k
      subst hv
      congr 1
      refine ih r (k + 1) hm.2 hn.2 fun a => ?_
      have h1 := h a
      by_cases ha : k = a
      · subst ha
        rw [Sparse.get_below dflt hm.2 (by omega), Sparse.get_below dflt hn.2 (by omega)]
      · by_cases hb : a < k
        · rw [Sparse.get_below dflt hm.2 (by omega), Sparse.get_below dflt hn.2 (by omega)]
        · simpa [Sparse.get, ha, hb] using h1

/-! Memories. -/

theorem Memory.wf_write {m : Memory} (a : Nat) (v : Byte) (h : m.wf = true) : (m.write a v).wf = true :=
  Sparse.wf_put _ _ _ h

theorem Memory.read_write_same {m : Memory} (a : Nat) (v : Byte) (h : m.wf = true) : (m.write a v).read a = v :=
  Sparse.get_put_same _ m a v 0 h

theorem Memory.read_write_other {m : Memory} {a b : Nat} (v : Byte) (h : m.wf = true) (hab : b ≠ a) :
    (m.write a v).read b = m.read b := Sparse.get_put_other _ m a b v hab 0 h

theorem Memory.wf_writeBytes (bs : Bytes) : ∀ (m : Memory) (a : Nat), m.wf = true → (m.writeBytes a bs).wf = true := by
  induction bs with
  | nil => intro m a h; exact h
  | cons b bs ih => intro m a h; exact ih _ _ (Memory.wf_write _ _ h)

theorem Memory.wf_write32 {m : Memory} (a : Nat) (v : Word) (h : m.wf = true) : (m.write32 a v).wf = true :=
  Memory.wf_writeBytes _ _ _ h

/-- Bytes outside the string that was stored read as before. -/
theorem Memory.read_writeBytes_outside (bs : Bytes) : ∀ (m : Memory) (a b : Nat), m.wf = true →
    (b < a ∨ a + bs.length ≤ b) → (m.writeBytes a bs).read b = m.read b := by
  induction bs with
  | nil => intro m a b _ _; rfl
  | cons x bs ih =>
    intro m a b h hb
    simp only [List.length_cons] at hb
    rw [Memory.writeBytes, ih _ _ _ (Memory.wf_write _ _ h) (by omega), Memory.read_write_other _ h (by omega)]

/-- Bytes of the string that was stored read back. -/
theorem Memory.read_writeBytes_inside (bs : Bytes) : ∀ (m : Memory) (a i : Nat) (_ : m.wf = true) (hi : i < bs.length),
    (m.writeBytes a bs).read (a + i) = bs[i] := by
  induction bs with
  | nil => intro m a i _ hi; simp at hi
  | cons x bs ih =>
    intro m a i h hi
    rw [Memory.writeBytes]
    cases i with
    | zero =>
      rw [Memory.read_writeBytes_outside _ _ _ _ (Memory.wf_write _ _ h) (by omega)]
      simpa using Memory.read_write_same a x h
    | succ i =>
      have := ih (m.write a x) (a + 1) i (Memory.wf_write _ _ h) (by simpa using hi)
      rw [show a + (i + 1) = a + 1 + i by omega, this]
      simp

end Sys2Proof.Machine
end

