-- ==== Sys2Proof/Laws/State.lean ====
section
/-! SUPPORT. Laws of the state: what each field is after each update of the device and of a cell. -/

namespace Sys2Proof.Machine

/-! ## The device: one lemma for each field and update -/

section
variable (s : State)

@[simp] theorem State.setObj_pending (i j v : Nat) : (s.setObj i j v).pending = s.pending := rfl
@[simp] theorem State.setObj_cells (i j v : Nat) : (s.setObj i j v).cells = s.cells := rfl
@[simp] theorem State.setObj_ridges (i j v : Nat) : (s.setObj i j v).ridges = s.ridges := rfl
@[simp] theorem State.setObj_house (i j v : Nat) : (s.setObj i j v).house = s.house := rfl
@[simp] theorem State.setObj_ring (i j v : Nat) : (s.setObj i j v).ring = s.ring := rfl
@[simp] theorem State.setObj_mirrors (i j v : Nat) : (s.setObj i j v).mirrors = s.mirrors := rfl
@[simp] theorem State.setObj_net (i j v : Nat) : (s.setObj i j v).net = s.net := rfl
@[simp] theorem State.setObj_dict (i j v : Nat) : (s.setObj i j v).dict = s.dict := rfl
@[simp] theorem State.setObj_keeper (i j v : Nat) : (s.setObj i j v).keeper = s.keeper := rfl
@[simp] theorem State.setObj_meters (i j v : Nat) : (s.setObj i j v).meters = s.meters := rfl
@[simp] theorem State.setObj_dbg (i j v : Nat) : (s.setObj i j v).dbg = s.dbg := rfl
@[simp] theorem State.setObj_port (i j v : Nat) : (s.setObj i j v).port = s.port := rfl
@[simp] theorem State.setObj_cores (i j v : Nat) : (s.setObj i j v).cores = s.cores := rfl
@[simp] theorem State.setObj_power (i j v : Nat) : (s.setObj i j v).power = s.power := rfl
@[simp] theorem State.setObj_pins (i j v : Nat) : (s.setObj i j v).pins = s.pins := rfl
@[simp] theorem State.setObj_objs (i j v : Nat) : (s.setObj i j v).objs = Sparse.put objDefault s.objs (objKey i j) v := rfl
@[simp] theorem State.setObj_tx (i j v : Nat) : (s.setObj i j v).tx = s.tx := rfl
@[simp] theorem State.setObj_fresh (i j v : Nat) : (s.setObj i j v).fresh = s.fresh := rfl

@[simp] theorem State.setCell_pending (c : CellId) (v : Cell) : (s.setCell c v).pending = s.pending := rfl
@[simp] theorem State.setCell_cells (c : CellId) (v : Cell) : (s.setCell c v).cells = s.cells.set c.val v := rfl
@[simp] theorem State.setCell_ridges (c : CellId) (v : Cell) : (s.setCell c v).ridges = s.ridges := rfl
@[simp] theorem State.setCell_house (c : CellId) (v : Cell) : (s.setCell c v).house = s.house := rfl
@[simp] theorem State.setCell_ring (c : CellId) (v : Cell) : (s.setCell c v).ring = s.ring := rfl
@[simp] theorem State.setCell_mirrors (c : CellId) (v : Cell) : (s.setCell c v).mirrors = s.mirrors := rfl
@[simp] theorem State.setCell_net (c : CellId) (v : Cell) : (s.setCell c v).net = s.net := rfl
@[simp] theorem State.setCell_dict (c : CellId) (v : Cell) : (s.setCell c v).dict = s.dict := rfl
@[simp] theorem State.setCell_keeper (c : CellId) (v : Cell) : (s.setCell c v).keeper = s.keeper := rfl
@[simp] theorem State.setCell_meters (c : CellId) (v : Cell) : (s.setCell c v).meters = s.meters := rfl
@[simp] theorem State.setCell_dbg (c : CellId) (v : Cell) : (s.setCell c v).dbg = s.dbg := rfl
@[simp] theorem State.setCell_port (c : CellId) (v : Cell) : (s.setCell c v).port = s.port := rfl
@[simp] theorem State.setCell_cores (c : CellId) (v : Cell) : (s.setCell c v).cores = s.cores := rfl
@[simp] theorem State.setCell_power (c : CellId) (v : Cell) : (s.setCell c v).power = s.power := rfl
@[simp] theorem State.setCell_pins (c : CellId) (v : Cell) : (s.setCell c v).pins = s.pins := rfl
@[simp] theorem State.setCell_objs (c : CellId) (v : Cell) : (s.setCell c v).objs = s.objs := rfl
@[simp] theorem State.setCell_tx (c : CellId) (v : Cell) : (s.setCell c v).tx = s.tx := rfl
@[simp] theorem State.setCell_fresh (c : CellId) (v : Cell) : (s.setCell c v).fresh = s.fresh := rfl

@[simp] theorem State.send_pending (t : Tx) : (s.send t).pending = s.pending := rfl
@[simp] theorem State.send_cells (t : Tx) : (s.send t).cells = s.cells := rfl
@[simp] theorem State.send_ridges (t : Tx) : (s.send t).ridges = s.ridges := rfl
@[simp] theorem State.send_house (t : Tx) : (s.send t).house = s.house := rfl
@[simp] theorem State.send_ring (t : Tx) : (s.send t).ring = s.ring := rfl
@[simp] theorem State.send_mirrors (t : Tx) : (s.send t).mirrors = s.mirrors := rfl
@[simp] theorem State.send_net (t : Tx) : (s.send t).net = s.net := rfl
@[simp] theorem State.send_dict (t : Tx) : (s.send t).dict = s.dict := rfl
@[simp] theorem State.send_keeper (t : Tx) : (s.send t).keeper = s.keeper := rfl
@[simp] theorem State.send_meters (t : Tx) : (s.send t).meters = s.meters := rfl
@[simp] theorem State.send_dbg (t : Tx) : (s.send t).dbg = s.dbg := rfl
@[simp] theorem State.send_port (t : Tx) : (s.send t).port = s.port := rfl
@[simp] theorem State.send_cores (t : Tx) : (s.send t).cores = s.cores := rfl
@[simp] theorem State.send_power (t : Tx) : (s.send t).power = s.power := rfl
@[simp] theorem State.send_pins (t : Tx) : (s.send t).pins = s.pins := rfl
@[simp] theorem State.send_objs (t : Tx) : (s.send t).objs = s.objs := rfl
@[simp] theorem State.send_tx (t : Tx) : (s.send t).tx = s.tx ++ [t] := rfl
@[simp] theorem State.send_fresh (t : Tx) : (s.send t).fresh = s.fresh := rfl

@[simp] theorem State.setHouse_pending (h : House) : (s.setHouse h).pending = s.pending := rfl
@[simp] theorem State.setHouse_cells (h : House) : (s.setHouse h).cells = s.cells := rfl
@[simp] theorem State.setHouse_ridges (h : House) : (s.setHouse h).ridges = s.ridges := rfl
@[simp] theorem State.setHouse_house (h : House) : (s.setHouse h).house = h := rfl
@[simp] theorem State.setHouse_ring (h : House) : (s.setHouse h).ring = s.ring := rfl
@[simp] theorem State.setHouse_mirrors (h : House) : (s.setHouse h).mirrors = s.mirrors := rfl
@[simp] theorem State.setHouse_net (h : House) : (s.setHouse h).net = s.net := rfl
@[simp] theorem State.setHouse_dict (h : House) : (s.setHouse h).dict = s.dict := rfl
@[simp] theorem State.setHouse_keeper (h : House) : (s.setHouse h).keeper = s.keeper := rfl
@[simp] theorem State.setHouse_meters (h : House) : (s.setHouse h).meters = s.meters := rfl
@[simp] theorem State.setHouse_dbg (h : House) : (s.setHouse h).dbg = s.dbg := rfl
@[simp] theorem State.setHouse_port (h : House) : (s.setHouse h).port = s.port := rfl
@[simp] theorem State.setHouse_cores (h : House) : (s.setHouse h).cores = s.cores := rfl
@[simp] theorem State.setHouse_power (h : House) : (s.setHouse h).power = s.power := rfl
@[simp] theorem State.setHouse_pins (h : House) : (s.setHouse h).pins = s.pins := rfl
@[simp] theorem State.setHouse_objs (h : House) : (s.setHouse h).objs = s.objs := rfl
@[simp] theorem State.setHouse_tx (h : House) : (s.setHouse h).tx = s.tx := rfl
@[simp] theorem State.setHouse_fresh (h : House) : (s.setHouse h).fresh = s.fresh := rfl

@[simp] theorem State.setRing_pending (r : Ring) : (s.setRing r).pending = s.pending := rfl
@[simp] theorem State.setRing_cells (r : Ring) : (s.setRing r).cells = s.cells := rfl
@[simp] theorem State.setRing_ridges (r : Ring) : (s.setRing r).ridges = s.ridges := rfl
@[simp] theorem State.setRing_house (r : Ring) : (s.setRing r).house = s.house := rfl
@[simp] theorem State.setRing_ring (r : Ring) : (s.setRing r).ring = r := rfl
@[simp] theorem State.setRing_mirrors (r : Ring) : (s.setRing r).mirrors = s.mirrors := rfl
@[simp] theorem State.setRing_net (r : Ring) : (s.setRing r).net = s.net := rfl
@[simp] theorem State.setRing_dict (r : Ring) : (s.setRing r).dict = s.dict := rfl
@[simp] theorem State.setRing_keeper (r : Ring) : (s.setRing r).keeper = s.keeper := rfl
@[simp] theorem State.setRing_meters (r : Ring) : (s.setRing r).meters = s.meters := rfl
@[simp] theorem State.setRing_dbg (r : Ring) : (s.setRing r).dbg = s.dbg := rfl
@[simp] theorem State.setRing_port (r : Ring) : (s.setRing r).port = s.port := rfl
@[simp] theorem State.setRing_cores (r : Ring) : (s.setRing r).cores = s.cores := rfl
@[simp] theorem State.setRing_power (r : Ring) : (s.setRing r).power = s.power := rfl
@[simp] theorem State.setRing_pins (r : Ring) : (s.setRing r).pins = s.pins := rfl
@[simp] theorem State.setRing_objs (r : Ring) : (s.setRing r).objs = s.objs := rfl
@[simp] theorem State.setRing_tx (r : Ring) : (s.setRing r).tx = s.tx := rfl
@[simp] theorem State.setRing_fresh (r : Ring) : (s.setRing r).fresh = s.fresh := rfl

@[simp] theorem State.setNet_pending (n : Net) : (s.setNet n).pending = s.pending := rfl
@[simp] theorem State.setNet_cells (n : Net) : (s.setNet n).cells = s.cells := rfl
@[simp] theorem State.setNet_ridges (n : Net) : (s.setNet n).ridges = s.ridges := rfl
@[simp] theorem State.setNet_house (n : Net) : (s.setNet n).house = s.house := rfl
@[simp] theorem State.setNet_ring (n : Net) : (s.setNet n).ring = s.ring := rfl
@[simp] theorem State.setNet_mirrors (n : Net) : (s.setNet n).mirrors = s.mirrors := rfl
@[simp] theorem State.setNet_net (n : Net) : (s.setNet n).net = n := rfl
@[simp] theorem State.setNet_dict (n : Net) : (s.setNet n).dict = s.dict := rfl
@[simp] theorem State.setNet_keeper (n : Net) : (s.setNet n).keeper = s.keeper := rfl
@[simp] theorem State.setNet_meters (n : Net) : (s.setNet n).meters = s.meters := rfl
@[simp] theorem State.setNet_dbg (n : Net) : (s.setNet n).dbg = s.dbg := rfl
@[simp] theorem State.setNet_port (n : Net) : (s.setNet n).port = s.port := rfl
@[simp] theorem State.setNet_cores (n : Net) : (s.setNet n).cores = s.cores := rfl
@[simp] theorem State.setNet_power (n : Net) : (s.setNet n).power = s.power := rfl
@[simp] theorem State.setNet_pins (n : Net) : (s.setNet n).pins = s.pins := rfl
@[simp] theorem State.setNet_objs (n : Net) : (s.setNet n).objs = s.objs := rfl
@[simp] theorem State.setNet_tx (n : Net) : (s.setNet n).tx = s.tx := rfl
@[simp] theorem State.setNet_fresh (n : Net) : (s.setNet n).fresh = s.fresh := rfl

@[simp] theorem State.setDict_pending (d : Dict) : (s.setDict d).pending = s.pending := rfl
@[simp] theorem State.setDict_cells (d : Dict) : (s.setDict d).cells = s.cells := rfl
@[simp] theorem State.setDict_ridges (d : Dict) : (s.setDict d).ridges = s.ridges := rfl
@[simp] theorem State.setDict_house (d : Dict) : (s.setDict d).house = s.house := rfl
@[simp] theorem State.setDict_ring (d : Dict) : (s.setDict d).ring = s.ring := rfl
@[simp] theorem State.setDict_mirrors (d : Dict) : (s.setDict d).mirrors = s.mirrors := rfl
@[simp] theorem State.setDict_net (d : Dict) : (s.setDict d).net = s.net := rfl
@[simp] theorem State.setDict_dict (d : Dict) : (s.setDict d).dict = d := rfl
@[simp] theorem State.setDict_keeper (d : Dict) : (s.setDict d).keeper = s.keeper := rfl
@[simp] theorem State.setDict_meters (d : Dict) : (s.setDict d).meters = s.meters := rfl
@[simp] theorem State.setDict_dbg (d : Dict) : (s.setDict d).dbg = s.dbg := rfl
@[simp] theorem State.setDict_port (d : Dict) : (s.setDict d).port = s.port := rfl
@[simp] theorem State.setDict_cores (d : Dict) : (s.setDict d).cores = s.cores := rfl
@[simp] theorem State.setDict_power (d : Dict) : (s.setDict d).power = s.power := rfl
@[simp] theorem State.setDict_pins (d : Dict) : (s.setDict d).pins = s.pins := rfl
@[simp] theorem State.setDict_objs (d : Dict) : (s.setDict d).objs = s.objs := rfl
@[simp] theorem State.setDict_tx (d : Dict) : (s.setDict d).tx = s.tx := rfl
@[simp] theorem State.setDict_fresh (d : Dict) : (s.setDict d).fresh = s.fresh := rfl

@[simp] theorem State.setKeeper_pending (k : Keeper) : (s.setKeeper k).pending = s.pending := rfl
@[simp] theorem State.setKeeper_cells (k : Keeper) : (s.setKeeper k).cells = s.cells := rfl
@[simp] theorem State.setKeeper_ridges (k : Keeper) : (s.setKeeper k).ridges = s.ridges := rfl
@[simp] theorem State.setKeeper_house (k : Keeper) : (s.setKeeper k).house = s.house := rfl
@[simp] theorem State.setKeeper_ring (k : Keeper) : (s.setKeeper k).ring = s.ring := rfl
@[simp] theorem State.setKeeper_mirrors (k : Keeper) : (s.setKeeper k).mirrors = s.mirrors := rfl
@[simp] theorem State.setKeeper_net (k : Keeper) : (s.setKeeper k).net = s.net := rfl
@[simp] theorem State.setKeeper_dict (k : Keeper) : (s.setKeeper k).dict = s.dict := rfl
@[simp] theorem State.setKeeper_keeper (k : Keeper) : (s.setKeeper k).keeper = k := rfl
@[simp] theorem State.setKeeper_meters (k : Keeper) : (s.setKeeper k).meters = s.meters := rfl
@[simp] theorem State.setKeeper_dbg (k : Keeper) : (s.setKeeper k).dbg = s.dbg := rfl
@[simp] theorem State.setKeeper_port (k : Keeper) : (s.setKeeper k).port = s.port := rfl
@[simp] theorem State.setKeeper_cores (k : Keeper) : (s.setKeeper k).cores = s.cores := rfl
@[simp] theorem State.setKeeper_power (k : Keeper) : (s.setKeeper k).power = s.power := rfl
@[simp] theorem State.setKeeper_pins (k : Keeper) : (s.setKeeper k).pins = s.pins := rfl
@[simp] theorem State.setKeeper_objs (k : Keeper) : (s.setKeeper k).objs = s.objs := rfl
@[simp] theorem State.setKeeper_tx (k : Keeper) : (s.setKeeper k).tx = s.tx := rfl
@[simp] theorem State.setKeeper_fresh (k : Keeper) : (s.setKeeper k).fresh = s.fresh := rfl

@[simp] theorem State.setPower_pending (p : Power) : (s.setPower p).pending = s.pending := rfl
@[simp] theorem State.setPower_cells (p : Power) : (s.setPower p).cells = s.cells := rfl
@[simp] theorem State.setPower_ridges (p : Power) : (s.setPower p).ridges = s.ridges := rfl
@[simp] theorem State.setPower_house (p : Power) : (s.setPower p).house = s.house := rfl
@[simp] theorem State.setPower_ring (p : Power) : (s.setPower p).ring = s.ring := rfl
@[simp] theorem State.setPower_mirrors (p : Power) : (s.setPower p).mirrors = s.mirrors := rfl
@[simp] theorem State.setPower_net (p : Power) : (s.setPower p).net = s.net := rfl
@[simp] theorem State.setPower_dict (p : Power) : (s.setPower p).dict = s.dict := rfl
@[simp] theorem State.setPower_keeper (p : Power) : (s.setPower p).keeper = s.keeper := rfl
@[simp] theorem State.setPower_meters (p : Power) : (s.setPower p).meters = s.meters := rfl
@[simp] theorem State.setPower_dbg (p : Power) : (s.setPower p).dbg = s.dbg := rfl
@[simp] theorem State.setPower_port (p : Power) : (s.setPower p).port = s.port := rfl
@[simp] theorem State.setPower_cores (p : Power) : (s.setPower p).cores = s.cores := rfl
@[simp] theorem State.setPower_power (p : Power) : (s.setPower p).power = p := rfl
@[simp] theorem State.setPower_pins (p : Power) : (s.setPower p).pins = s.pins := rfl
@[simp] theorem State.setPower_objs (p : Power) : (s.setPower p).objs = s.objs := rfl
@[simp] theorem State.setPower_tx (p : Power) : (s.setPower p).tx = s.tx := rfl
@[simp] theorem State.setPower_fresh (p : Power) : (s.setPower p).fresh = s.fresh := rfl

@[simp] theorem State.setPins_pending (p : Pins) : (s.setPins p).pending = s.pending := rfl
@[simp] theorem State.setPins_cells (p : Pins) : (s.setPins p).cells = s.cells := rfl
@[simp] theorem State.setPins_ridges (p : Pins) : (s.setPins p).ridges = s.ridges := rfl
@[simp] theorem State.setPins_house (p : Pins) : (s.setPins p).house = s.house := rfl
@[simp] theorem State.setPins_ring (p : Pins) : (s.setPins p).ring = s.ring := rfl
@[simp] theorem State.setPins_mirrors (p : Pins) : (s.setPins p).mirrors = s.mirrors := rfl
@[simp] theorem State.setPins_net (p : Pins) : (s.setPins p).net = s.net := rfl
@[simp] theorem State.setPins_dict (p : Pins) : (s.setPins p).dict = s.dict := rfl
@[simp] theorem State.setPins_keeper (p : Pins) : (s.setPins p).keeper = s.keeper := rfl
@[simp] theorem State.setPins_meters (p : Pins) : (s.setPins p).meters = s.meters := rfl
@[simp] theorem State.setPins_dbg (p : Pins) : (s.setPins p).dbg = s.dbg := rfl
@[simp] theorem State.setPins_port (p : Pins) : (s.setPins p).port = s.port := rfl
@[simp] theorem State.setPins_cores (p : Pins) : (s.setPins p).cores = s.cores := rfl
@[simp] theorem State.setPins_power (p : Pins) : (s.setPins p).power = s.power := rfl
@[simp] theorem State.setPins_pins (p : Pins) : (s.setPins p).pins = p := rfl
@[simp] theorem State.setPins_objs (p : Pins) : (s.setPins p).objs = s.objs := rfl
@[simp] theorem State.setPins_tx (p : Pins) : (s.setPins p).tx = s.tx := rfl
@[simp] theorem State.setPins_fresh (p : Pins) : (s.setPins p).fresh = s.fresh := rfl

@[simp] theorem State.setPort_pending (p : DbgPort) : (s.setPort p).pending = s.pending := rfl
@[simp] theorem State.setPort_cells (p : DbgPort) : (s.setPort p).cells = s.cells := rfl
@[simp] theorem State.setPort_ridges (p : DbgPort) : (s.setPort p).ridges = s.ridges := rfl
@[simp] theorem State.setPort_house (p : DbgPort) : (s.setPort p).house = s.house := rfl
@[simp] theorem State.setPort_ring (p : DbgPort) : (s.setPort p).ring = s.ring := rfl
@[simp] theorem State.setPort_mirrors (p : DbgPort) : (s.setPort p).mirrors = s.mirrors := rfl
@[simp] theorem State.setPort_net (p : DbgPort) : (s.setPort p).net = s.net := rfl
@[simp] theorem State.setPort_dict (p : DbgPort) : (s.setPort p).dict = s.dict := rfl
@[simp] theorem State.setPort_keeper (p : DbgPort) : (s.setPort p).keeper = s.keeper := rfl
@[simp] theorem State.setPort_meters (p : DbgPort) : (s.setPort p).meters = s.meters := rfl
@[simp] theorem State.setPort_dbg (p : DbgPort) : (s.setPort p).dbg = s.dbg := rfl
@[simp] theorem State.setPort_port (p : DbgPort) : (s.setPort p).port = p := rfl
@[simp] theorem State.setPort_cores (p : DbgPort) : (s.setPort p).cores = s.cores := rfl
@[simp] theorem State.setPort_power (p : DbgPort) : (s.setPort p).power = s.power := rfl
@[simp] theorem State.setPort_pins (p : DbgPort) : (s.setPort p).pins = s.pins := rfl
@[simp] theorem State.setPort_objs (p : DbgPort) : (s.setPort p).objs = s.objs := rfl
@[simp] theorem State.setPort_tx (p : DbgPort) : (s.setPort p).tx = s.tx := rfl
@[simp] theorem State.setPort_fresh (p : DbgPort) : (s.setPort p).fresh = s.fresh := rfl

@[simp] theorem State.setMirror_pending (c : CellId) (m : Mirror) : (s.setMirror c m).pending = s.pending := rfl
@[simp] theorem State.setMirror_cells (c : CellId) (m : Mirror) : (s.setMirror c m).cells = s.cells := rfl
@[simp] theorem State.setMirror_ridges (c : CellId) (m : Mirror) : (s.setMirror c m).ridges = s.ridges := rfl
@[simp] theorem State.setMirror_house (c : CellId) (m : Mirror) : (s.setMirror c m).house = s.house := rfl
@[simp] theorem State.setMirror_ring (c : CellId) (m : Mirror) : (s.setMirror c m).ring = s.ring := rfl
@[simp] theorem State.setMirror_mirrors (c : CellId) (m : Mirror) : (s.setMirror c m).mirrors = s.mirrors.set c.val m := rfl
@[simp] theorem State.setMirror_net (c : CellId) (m : Mirror) : (s.setMirror c m).net = s.net := rfl
@[simp] theorem State.setMirror_dict (c : CellId) (m : Mirror) : (s.setMirror c m).dict = s.dict := rfl
@[simp] theorem State.setMirror_keeper (c : CellId) (m : Mirror) : (s.setMirror c m).keeper = s.keeper := rfl
@[simp] theorem State.setMirror_meters (c : CellId) (m : Mirror) : (s.setMirror c m).meters = s.meters := rfl
@[simp] theorem State.setMirror_dbg (c : CellId) (m : Mirror) : (s.setMirror c m).dbg = s.dbg := rfl
@[simp] theorem State.setMirror_port (c : CellId) (m : Mirror) : (s.setMirror c m).port = s.port := rfl
@[simp] theorem State.setMirror_cores (c : CellId) (m : Mirror) : (s.setMirror c m).cores = s.cores := rfl
@[simp] theorem State.setMirror_power (c : CellId) (m : Mirror) : (s.setMirror c m).power = s.power := rfl
@[simp] theorem State.setMirror_pins (c : CellId) (m : Mirror) : (s.setMirror c m).pins = s.pins := rfl
@[simp] theorem State.setMirror_objs (c : CellId) (m : Mirror) : (s.setMirror c m).objs = s.objs := rfl
@[simp] theorem State.setMirror_tx (c : CellId) (m : Mirror) : (s.setMirror c m).tx = s.tx := rfl
@[simp] theorem State.setMirror_fresh (c : CellId) (m : Mirror) : (s.setMirror c m).fresh = s.fresh := rfl

@[simp] theorem State.setMeter_pending (c : CellId) (m : Meter) : (s.setMeter c m).pending = s.pending := rfl
@[simp] theorem State.setMeter_cells (c : CellId) (m : Meter) : (s.setMeter c m).cells = s.cells := rfl
@[simp] theorem State.setMeter_ridges (c : CellId) (m : Meter) : (s.setMeter c m).ridges = s.ridges := rfl
@[simp] theorem State.setMeter_house (c : CellId) (m : Meter) : (s.setMeter c m).house = s.house := rfl
@[simp] theorem State.setMeter_ring (c : CellId) (m : Meter) : (s.setMeter c m).ring = s.ring := rfl
@[simp] theorem State.setMeter_mirrors (c : CellId) (m : Meter) : (s.setMeter c m).mirrors = s.mirrors := rfl
@[simp] theorem State.setMeter_net (c : CellId) (m : Meter) : (s.setMeter c m).net = s.net := rfl
@[simp] theorem State.setMeter_dict (c : CellId) (m : Meter) : (s.setMeter c m).dict = s.dict := rfl
@[simp] theorem State.setMeter_keeper (c : CellId) (m : Meter) : (s.setMeter c m).keeper = s.keeper := rfl
@[simp] theorem State.setMeter_meters (c : CellId) (m : Meter) : (s.setMeter c m).meters = s.meters.set c.val m := rfl
@[simp] theorem State.setMeter_dbg (c : CellId) (m : Meter) : (s.setMeter c m).dbg = s.dbg := rfl
@[simp] theorem State.setMeter_port (c : CellId) (m : Meter) : (s.setMeter c m).port = s.port := rfl
@[simp] theorem State.setMeter_cores (c : CellId) (m : Meter) : (s.setMeter c m).cores = s.cores := rfl
@[simp] theorem State.setMeter_power (c : CellId) (m : Meter) : (s.setMeter c m).power = s.power := rfl
@[simp] theorem State.setMeter_pins (c : CellId) (m : Meter) : (s.setMeter c m).pins = s.pins := rfl
@[simp] theorem State.setMeter_objs (c : CellId) (m : Meter) : (s.setMeter c m).objs = s.objs := rfl
@[simp] theorem State.setMeter_tx (c : CellId) (m : Meter) : (s.setMeter c m).tx = s.tx := rfl
@[simp] theorem State.setMeter_fresh (c : CellId) (m : Meter) : (s.setMeter c m).fresh = s.fresh := rfl

@[simp] theorem State.setDbg_pending (c : CellId) (d : CellDbg) : (s.setDbg c d).pending = s.pending := rfl
@[simp] theorem State.setDbg_cells (c : CellId) (d : CellDbg) : (s.setDbg c d).cells = s.cells := rfl
@[simp] theorem State.setDbg_ridges (c : CellId) (d : CellDbg) : (s.setDbg c d).ridges = s.ridges := rfl
@[simp] theorem State.setDbg_house (c : CellId) (d : CellDbg) : (s.setDbg c d).house = s.house := rfl
@[simp] theorem State.setDbg_ring (c : CellId) (d : CellDbg) : (s.setDbg c d).ring = s.ring := rfl
@[simp] theorem State.setDbg_mirrors (c : CellId) (d : CellDbg) : (s.setDbg c d).mirrors = s.mirrors := rfl
@[simp] theorem State.setDbg_net (c : CellId) (d : CellDbg) : (s.setDbg c d).net = s.net := rfl
@[simp] theorem State.setDbg_dict (c : CellId) (d : CellDbg) : (s.setDbg c d).dict = s.dict := rfl
@[simp] theorem State.setDbg_keeper (c : CellId) (d : CellDbg) : (s.setDbg c d).keeper = s.keeper := rfl
@[simp] theorem State.setDbg_meters (c : CellId) (d : CellDbg) : (s.setDbg c d).meters = s.meters := rfl
@[simp] theorem State.setDbg_dbg (c : CellId) (d : CellDbg) : (s.setDbg c d).dbg = s.dbg.set c.val d := rfl
@[simp] theorem State.setDbg_port (c : CellId) (d : CellDbg) : (s.setDbg c d).port = s.port := rfl
@[simp] theorem State.setDbg_cores (c : CellId) (d : CellDbg) : (s.setDbg c d).cores = s.cores := rfl
@[simp] theorem State.setDbg_power (c : CellId) (d : CellDbg) : (s.setDbg c d).power = s.power := rfl
@[simp] theorem State.setDbg_pins (c : CellId) (d : CellDbg) : (s.setDbg c d).pins = s.pins := rfl
@[simp] theorem State.setDbg_objs (c : CellId) (d : CellDbg) : (s.setDbg c d).objs = s.objs := rfl
@[simp] theorem State.setDbg_tx (c : CellId) (d : CellDbg) : (s.setDbg c d).tx = s.tx := rfl
@[simp] theorem State.setDbg_fresh (c : CellId) (d : CellDbg) : (s.setDbg c d).fresh = s.fresh := rfl

@[simp] theorem State.setRidge_pending (r : RidgeId) (v : Ridge) : (s.setRidge r v).pending = s.pending := rfl
@[simp] theorem State.setRidge_cells (r : RidgeId) (v : Ridge) : (s.setRidge r v).cells = s.cells := rfl
@[simp] theorem State.setRidge_ridges (r : RidgeId) (v : Ridge) : (s.setRidge r v).ridges = s.ridges.set r.val v := rfl
@[simp] theorem State.setRidge_house (r : RidgeId) (v : Ridge) : (s.setRidge r v).house = s.house := rfl
@[simp] theorem State.setRidge_ring (r : RidgeId) (v : Ridge) : (s.setRidge r v).ring = s.ring := rfl
@[simp] theorem State.setRidge_mirrors (r : RidgeId) (v : Ridge) : (s.setRidge r v).mirrors = s.mirrors := rfl
@[simp] theorem State.setRidge_net (r : RidgeId) (v : Ridge) : (s.setRidge r v).net = s.net := rfl
@[simp] theorem State.setRidge_dict (r : RidgeId) (v : Ridge) : (s.setRidge r v).dict = s.dict := rfl
@[simp] theorem State.setRidge_keeper (r : RidgeId) (v : Ridge) : (s.setRidge r v).keeper = s.keeper := rfl
@[simp] theorem State.setRidge_meters (r : RidgeId) (v : Ridge) : (s.setRidge r v).meters = s.meters := rfl
@[simp] theorem State.setRidge_dbg (r : RidgeId) (v : Ridge) : (s.setRidge r v).dbg = s.dbg := rfl
@[simp] theorem State.setRidge_port (r : RidgeId) (v : Ridge) : (s.setRidge r v).port = s.port := rfl
@[simp] theorem State.setRidge_cores (r : RidgeId) (v : Ridge) : (s.setRidge r v).cores = s.cores := rfl
@[simp] theorem State.setRidge_power (r : RidgeId) (v : Ridge) : (s.setRidge r v).power = s.power := rfl
@[simp] theorem State.setRidge_pins (r : RidgeId) (v : Ridge) : (s.setRidge r v).pins = s.pins := rfl
@[simp] theorem State.setRidge_objs (r : RidgeId) (v : Ridge) : (s.setRidge r v).objs = s.objs := rfl
@[simp] theorem State.setRidge_tx (r : RidgeId) (v : Ridge) : (s.setRidge r v).tx = s.tx := rfl
@[simp] theorem State.setRidge_fresh (r : RidgeId) (v : Ridge) : (s.setRidge r v).fresh = s.fresh := rfl

end

/-! ## Cells and objects of a device -/

@[simp] theorem State.cell_setCell_same (s : State) (c : CellId) (x : Cell) : (s.setCell c x).cell c = x := by
  simp [State.cell]

theorem State.cell_setCell_other (s : State) {c d : CellId} (x : Cell) (h : d ≠ c) : (s.setCell c x).cell d = s.cell d := by
  have h' : c.val ≠ d.val := fun e => h (Fin.ext e.symm)
  simp [State.cell, h']

/-- A function of the state that leaves the cells leaves each of them. -/
theorem State.cell_congr {s t : State} (h : t.cells = s.cells) (c : CellId) : t.cell c = s.cell c := by
  simp [State.cell, h]

/-- A value read back from the subindex it was written to. -/
theorem State.obj_setObj_same {s : State} (i j v : Nat) (h : s.objsWf = true) : (s.setObj i j v).obj i j = v :=
  Sparse.get_put_same _ _ _ _ 0 h

theorem State.obj_setObj_other {s : State} {i j k l : Nat} (v : Nat) (h : s.objsWf = true)
    (hk : objKey k l ≠ objKey i j) : (s.setObj i j v).obj k l = s.obj k l := Sparse.get_put_other _ _ _ _ _ hk 0 h

theorem State.objsWf_setObj {s : State} (i j v : Nat) (h : s.objsWf = true) : (s.setObj i j v).objsWf = true :=
  Sparse.wf_put _ _ _ h

/-! ## Cells: one lemma for each field and update -/

section
variable (c : Cell)

@[simp] theorem Cell.setReg_cpu (off : Nat) (v : Word) : (c.setReg off v).cpu = c.cpu := rfl
@[simp] theorem Cell.setReg_beam (off : Nat) (v : Word) : (c.setReg off v).beam = c.beam := rfl
@[simp] theorem Cell.setReg_mem (off : Nat) (v : Word) : (c.setReg off v).mem = c.mem := rfl
@[simp] theorem Cell.setReg_regs (off : Nat) (v : Word) : (c.setReg off v).regs = Sparse.put regReset c.regs off v := rfl
@[simp] theorem Cell.setReg_pic (off : Nat) (v : Word) : (c.setReg off v).pic = c.pic := rfl
@[simp] theorem Cell.setReg_blt (off : Nat) (v : Word) : (c.setReg off v).blt = c.blt := rfl
@[simp] theorem Cell.setReg_dma (off : Nat) (v : Word) : (c.setReg off v).dma = c.dma := rfl
@[simp] theorem Cell.setReg_tmr (off : Nat) (v : Word) : (c.setReg off v).tmr = c.tmr := rfl
@[simp] theorem Cell.setReg_aud (off : Nat) (v : Word) : (c.setReg off v).aud = c.aud := rfl
@[simp] theorem Cell.setReg_enc (off : Nat) (v : Word) : (c.setReg off v).enc = c.enc := rfl
@[simp] theorem Cell.setReg_str (off : Nat) (v : Word) : (c.setReg off v).str = c.str := rfl
@[simp] theorem Cell.setReg_sess (off : Nat) (v : Word) : (c.setReg off v).sess = c.sess := rfl
@[simp] theorem Cell.setReg_evt (off : Nat) (v : Word) : (c.setReg off v).evt = c.evt := rfl
@[simp] theorem Cell.setReg_outbox (off : Nat) (v : Word) : (c.setReg off v).outbox = c.outbox := rfl

@[simp] theorem Cell.raise_cpu (e : CellEvent) : (c.raise e).cpu = c.cpu := rfl
@[simp] theorem Cell.raise_beam (e : CellEvent) : (c.raise e).beam = c.beam := rfl
@[simp] theorem Cell.raise_mem (e : CellEvent) : (c.raise e).mem = c.mem := rfl
@[simp] theorem Cell.raise_regs (e : CellEvent) : (c.raise e).regs = c.regs := rfl
@[simp] theorem Cell.raise_pic (e : CellEvent) : (c.raise e).pic = c.pic := rfl
@[simp] theorem Cell.raise_blt (e : CellEvent) : (c.raise e).blt = c.blt := rfl
@[simp] theorem Cell.raise_dma (e : CellEvent) : (c.raise e).dma = c.dma := rfl
@[simp] theorem Cell.raise_tmr (e : CellEvent) : (c.raise e).tmr = c.tmr := rfl
@[simp] theorem Cell.raise_aud (e : CellEvent) : (c.raise e).aud = c.aud := rfl
@[simp] theorem Cell.raise_enc (e : CellEvent) : (c.raise e).enc = c.enc := rfl
@[simp] theorem Cell.raise_str (e : CellEvent) : (c.raise e).str = c.str := rfl
@[simp] theorem Cell.raise_sess (e : CellEvent) : (c.raise e).sess = c.sess := rfl
@[simp] theorem Cell.raise_evt (e : CellEvent) : (c.raise e).evt = c.evt := rfl
@[simp] theorem Cell.raise_outbox (e : CellEvent) : (c.raise e).outbox = c.outbox ++ [e] := rfl

@[simp] theorem Cell.dirty_cpu : (c.dirty).cpu = c.cpu := rfl
@[simp] theorem Cell.dirty_beam : (c.dirty).beam = c.beam := rfl
@[simp] theorem Cell.dirty_mem : (c.dirty).mem = c.mem := rfl
@[simp] theorem Cell.dirty_regs : (c.dirty).regs = c.regs := rfl
@[simp] theorem Cell.dirty_pic : (c.dirty).pic = { c.pic with dirty := true } := rfl
@[simp] theorem Cell.dirty_blt : (c.dirty).blt = c.blt := rfl
@[simp] theorem Cell.dirty_dma : (c.dirty).dma = c.dma := rfl
@[simp] theorem Cell.dirty_tmr : (c.dirty).tmr = c.tmr := rfl
@[simp] theorem Cell.dirty_aud : (c.dirty).aud = c.aud := rfl
@[simp] theorem Cell.dirty_enc : (c.dirty).enc = c.enc := rfl
@[simp] theorem Cell.dirty_str : (c.dirty).str = c.str := rfl
@[simp] theorem Cell.dirty_sess : (c.dirty).sess = c.sess := rfl
@[simp] theorem Cell.dirty_evt : (c.dirty).evt = c.evt := rfl
@[simp] theorem Cell.dirty_outbox : (c.dirty).outbox = c.outbox := rfl

@[simp] theorem Cell.setWindow_cpu (w : Option Nat) : (c.setWindow w).cpu = c.cpu := rfl
@[simp] theorem Cell.setWindow_beam (w : Option Nat) : (c.setWindow w).beam = c.beam := rfl
@[simp] theorem Cell.setWindow_mem (w : Option Nat) : (c.setWindow w).mem = c.mem := rfl
@[simp] theorem Cell.setWindow_regs (w : Option Nat) : (c.setWindow w).regs = c.regs := rfl
@[simp] theorem Cell.setWindow_pic (w : Option Nat) : (c.setWindow w).pic = c.pic := rfl
@[simp] theorem Cell.setWindow_blt (w : Option Nat) : (c.setWindow w).blt = c.blt := rfl
@[simp] theorem Cell.setWindow_dma (w : Option Nat) : (c.setWindow w).dma = c.dma := rfl
@[simp] theorem Cell.setWindow_tmr (w : Option Nat) : (c.setWindow w).tmr = { c.tmr with window := w } := rfl
@[simp] theorem Cell.setWindow_aud (w : Option Nat) : (c.setWindow w).aud = c.aud := rfl
@[simp] theorem Cell.setWindow_enc (w : Option Nat) : (c.setWindow w).enc = c.enc := rfl
@[simp] theorem Cell.setWindow_str (w : Option Nat) : (c.setWindow w).str = c.str := rfl
@[simp] theorem Cell.setWindow_sess (w : Option Nat) : (c.setWindow w).sess = c.sess := rfl
@[simp] theorem Cell.setWindow_evt (w : Option Nat) : (c.setWindow w).evt = c.evt := rfl
@[simp] theorem Cell.setWindow_outbox (w : Option Nat) : (c.setWindow w).outbox = c.outbox := rfl

@[simp] theorem Cell.setPresc_cpu (n : Fin 8) (v : Nat) : (c.setPresc n v).cpu = c.cpu := rfl
@[simp] theorem Cell.setPresc_beam (n : Fin 8) (v : Nat) : (c.setPresc n v).beam = c.beam := rfl
@[simp] theorem Cell.setPresc_mem (n : Fin 8) (v : Nat) : (c.setPresc n v).mem = c.mem := rfl
@[simp] theorem Cell.setPresc_regs (n : Fin 8) (v : Nat) : (c.setPresc n v).regs = c.regs := rfl
@[simp] theorem Cell.setPresc_pic (n : Fin 8) (v : Nat) : (c.setPresc n v).pic = c.pic := rfl
@[simp] theorem Cell.setPresc_blt (n : Fin 8) (v : Nat) : (c.setPresc n v).blt = c.blt := rfl
@[simp] theorem Cell.setPresc_dma (n : Fin 8) (v : Nat) : (c.setPresc n v).dma = c.dma := rfl
@[simp] theorem Cell.setPresc_tmr (n : Fin 8) (v : Nat) : (c.setPresc n v).tmr = { c.tmr with presc := c.tmr.presc.set n.val v } := rfl
@[simp] theorem Cell.setPresc_aud (n : Fin 8) (v : Nat) : (c.setPresc n v).aud = c.aud := rfl
@[simp] theorem Cell.setPresc_enc (n : Fin 8) (v : Nat) : (c.setPresc n v).enc = c.enc := rfl
@[simp] theorem Cell.setPresc_str (n : Fin 8) (v : Nat) : (c.setPresc n v).str = c.str := rfl
@[simp] theorem Cell.setPresc_sess (n : Fin 8) (v : Nat) : (c.setPresc n v).sess = c.sess := rfl
@[simp] theorem Cell.setPresc_evt (n : Fin 8) (v : Nat) : (c.setPresc n v).evt = c.evt := rfl
@[simp] theorem Cell.setPresc_outbox (n : Fin 8) (v : Nat) : (c.setPresc n v).outbox = c.outbox := rfl

@[simp] theorem Cell.setDreq_cpu (n : Fin 8) (v : Bool) : (c.setDreq n v).cpu = c.cpu := rfl
@[simp] theorem Cell.setDreq_beam (n : Fin 8) (v : Bool) : (c.setDreq n v).beam = c.beam := rfl
@[simp] theorem Cell.setDreq_mem (n : Fin 8) (v : Bool) : (c.setDreq n v).mem = c.mem := rfl
@[simp] theorem Cell.setDreq_regs (n : Fin 8) (v : Bool) : (c.setDreq n v).regs = c.regs := rfl
@[simp] theorem Cell.setDreq_pic (n : Fin 8) (v : Bool) : (c.setDreq n v).pic = c.pic := rfl
@[simp] theorem Cell.setDreq_blt (n : Fin 8) (v : Bool) : (c.setDreq n v).blt = c.blt := rfl
@[simp] theorem Cell.setDreq_dma (n : Fin 8) (v : Bool) : (c.setDreq n v).dma = c.dma := rfl
@[simp] theorem Cell.setDreq_tmr (n : Fin 8) (v : Bool) : (c.setDreq n v).tmr = { c.tmr with dreq := c.tmr.dreq.set n.val v } := rfl
@[simp] theorem Cell.setDreq_aud (n : Fin 8) (v : Bool) : (c.setDreq n v).aud = c.aud := rfl
@[simp] theorem Cell.setDreq_enc (n : Fin 8) (v : Bool) : (c.setDreq n v).enc = c.enc := rfl
@[simp] theorem Cell.setDreq_str (n : Fin 8) (v : Bool) : (c.setDreq n v).str = c.str := rfl
@[simp] theorem Cell.setDreq_sess (n : Fin 8) (v : Bool) : (c.setDreq n v).sess = c.sess := rfl
@[simp] theorem Cell.setDreq_evt (n : Fin 8) (v : Bool) : (c.setDreq n v).evt = c.evt := rfl
@[simp] theorem Cell.setDreq_outbox (n : Fin 8) (v : Bool) : (c.setDreq n v).outbox = c.outbox := rfl

@[simp] theorem Cell.bltWriteBack_cpu (b : Nat) (w : Word) : (c.bltWriteBack b w).cpu = c.cpu := rfl
@[simp] theorem Cell.bltWriteBack_beam (b : Nat) (w : Word) : (c.bltWriteBack b w).beam = c.beam := rfl
@[simp] theorem Cell.bltWriteBack_mem (b : Nat) (w : Word) : (c.bltWriteBack b w).mem = c.mem := rfl
@[simp] theorem Cell.bltWriteBack_regs (b : Nat) (w : Word) : (c.bltWriteBack b w).regs = c.regs := rfl
@[simp] theorem Cell.bltWriteBack_pic (b : Nat) (w : Word) : (c.bltWriteBack b w).pic = c.pic := rfl
@[simp] theorem Cell.bltWriteBack_blt (b : Nat) (w : Word) : (c.bltWriteBack b w).blt = { c.blt with wb := c.blt.wb ++ [(b, w)] } := rfl
@[simp] theorem Cell.bltWriteBack_dma (b : Nat) (w : Word) : (c.bltWriteBack b w).dma = c.dma := rfl
@[simp] theorem Cell.bltWriteBack_tmr (b : Nat) (w : Word) : (c.bltWriteBack b w).tmr = c.tmr := rfl
@[simp] theorem Cell.bltWriteBack_aud (b : Nat) (w : Word) : (c.bltWriteBack b w).aud = c.aud := rfl
@[simp] theorem Cell.bltWriteBack_enc (b : Nat) (w : Word) : (c.bltWriteBack b w).enc = c.enc := rfl
@[simp] theorem Cell.bltWriteBack_str (b : Nat) (w : Word) : (c.bltWriteBack b w).str = c.str := rfl
@[simp] theorem Cell.bltWriteBack_sess (b : Nat) (w : Word) : (c.bltWriteBack b w).sess = c.sess := rfl
@[simp] theorem Cell.bltWriteBack_evt (b : Nat) (w : Word) : (c.bltWriteBack b w).evt = c.evt := rfl
@[simp] theorem Cell.bltWriteBack_outbox (b : Nat) (w : Word) : (c.bltWriteBack b w).outbox = c.outbox := rfl

@[simp] theorem Cell.orReg_cpu (off m : Nat) : (c.orReg off m).cpu = c.cpu := rfl
@[simp] theorem Cell.orReg_beam (off m : Nat) : (c.orReg off m).beam = c.beam := rfl
@[simp] theorem Cell.orReg_mem (off m : Nat) : (c.orReg off m).mem = c.mem := rfl
@[simp] theorem Cell.orReg_pic (off m : Nat) : (c.orReg off m).pic = c.pic := rfl
@[simp] theorem Cell.orReg_blt (off m : Nat) : (c.orReg off m).blt = c.blt := rfl
@[simp] theorem Cell.orReg_dma (off m : Nat) : (c.orReg off m).dma = c.dma := rfl
@[simp] theorem Cell.orReg_tmr (off m : Nat) : (c.orReg off m).tmr = c.tmr := rfl
@[simp] theorem Cell.orReg_aud (off m : Nat) : (c.orReg off m).aud = c.aud := rfl
@[simp] theorem Cell.orReg_enc (off m : Nat) : (c.orReg off m).enc = c.enc := rfl
@[simp] theorem Cell.orReg_str (off m : Nat) : (c.orReg off m).str = c.str := rfl
@[simp] theorem Cell.orReg_sess (off m : Nat) : (c.orReg off m).sess = c.sess := rfl
@[simp] theorem Cell.orReg_evt (off m : Nat) : (c.orReg off m).evt = c.evt := rfl
@[simp] theorem Cell.orReg_outbox (off m : Nat) : (c.orReg off m).outbox = c.outbox := rfl

@[simp] theorem Cell.clrReg_cpu (off m : Nat) : (c.clrReg off m).cpu = c.cpu := rfl
@[simp] theorem Cell.clrReg_beam (off m : Nat) : (c.clrReg off m).beam = c.beam := rfl
@[simp] theorem Cell.clrReg_mem (off m : Nat) : (c.clrReg off m).mem = c.mem := rfl
@[simp] theorem Cell.clrReg_pic (off m : Nat) : (c.clrReg off m).pic = c.pic := rfl
@[simp] theorem Cell.clrReg_blt (off m : Nat) : (c.clrReg off m).blt = c.blt := rfl
@[simp] theorem Cell.clrReg_dma (off m : Nat) : (c.clrReg off m).dma = c.dma := rfl
@[simp] theorem Cell.clrReg_tmr (off m : Nat) : (c.clrReg off m).tmr = c.tmr := rfl
@[simp] theorem Cell.clrReg_aud (off m : Nat) : (c.clrReg off m).aud = c.aud := rfl
@[simp] theorem Cell.clrReg_enc (off m : Nat) : (c.clrReg off m).enc = c.enc := rfl
@[simp] theorem Cell.clrReg_str (off m : Nat) : (c.clrReg off m).str = c.str := rfl
@[simp] theorem Cell.clrReg_sess (off m : Nat) : (c.clrReg off m).sess = c.sess := rfl
@[simp] theorem Cell.clrReg_evt (off m : Nat) : (c.clrReg off m).evt = c.evt := rfl
@[simp] theorem Cell.clrReg_outbox (off m : Nat) : (c.clrReg off m).outbox = c.outbox := rfl

@[simp] theorem Cell.setFld_cpu (off hi lo v : Nat) : (c.setFld off hi lo v).cpu = c.cpu := rfl
@[simp] theorem Cell.setFld_beam (off hi lo v : Nat) : (c.setFld off hi lo v).beam = c.beam := rfl
@[simp] theorem Cell.setFld_mem (off hi lo v : Nat) : (c.setFld off hi lo v).mem = c.mem := rfl
@[simp] theorem Cell.setFld_pic (off hi lo v : Nat) : (c.setFld off hi lo v).pic = c.pic := rfl
@[simp] theorem Cell.setFld_blt (off hi lo v : Nat) : (c.setFld off hi lo v).blt = c.blt := rfl
@[simp] theorem Cell.setFld_dma (off hi lo v : Nat) : (c.setFld off hi lo v).dma = c.dma := rfl
@[simp] theorem Cell.setFld_tmr (off hi lo v : Nat) : (c.setFld off hi lo v).tmr = c.tmr := rfl
@[simp] theorem Cell.setFld_aud (off hi lo v : Nat) : (c.setFld off hi lo v).aud = c.aud := rfl
@[simp] theorem Cell.setFld_enc (off hi lo v : Nat) : (c.setFld off hi lo v).enc = c.enc := rfl
@[simp] theorem Cell.setFld_str (off hi lo v : Nat) : (c.setFld off hi lo v).str = c.str := rfl
@[simp] theorem Cell.setFld_sess (off hi lo v : Nat) : (c.setFld off hi lo v).sess = c.sess := rfl
@[simp] theorem Cell.setFld_evt (off hi lo v : Nat) : (c.setFld off hi lo v).evt = c.evt := rfl
@[simp] theorem Cell.setFld_outbox (off hi lo v : Nat) : (c.setFld off hi lo v).outbox = c.outbox := rfl

end

/-- The register file of a cell is in canonical form. -/
def Cell.regsWf (c : Cell) : Bool := Sparse.wf regReset c.regs

/-- A stored register value reads back. -/
theorem Cell.reg_setReg_same {c : Cell} (off : Nat) (v : Word) (h : c.regsWf = true) : (c.setReg off v).reg off = v :=
  Sparse.get_put_same _ _ _ _ 0 h

/-- The other registers read as before. -/
theorem Cell.reg_setReg_other {c : Cell} {off o : Nat} (v : Word) (h : c.regsWf = true) (ho : o ≠ off) :
    (c.setReg off v).reg o = c.reg o := Sparse.get_put_other _ _ _ _ _ ho 0 h

theorem Cell.regsWf_setReg {c : Cell} (off : Nat) (v : Word) (h : c.regsWf = true) : (c.setReg off v).regsWf = true :=
  Sparse.wf_put _ _ _ h

theorem Cell.regsWf_orReg {c : Cell} (off m : Nat) (h : c.regsWf = true) : (c.orReg off m).regsWf = true :=
  Cell.regsWf_setReg _ _ h

theorem Cell.regsWf_clrReg {c : Cell} (off m : Nat) (h : c.regsWf = true) : (c.clrReg off m).regsWf = true :=
  Cell.regsWf_setReg _ _ h

theorem Cell.regsWf_setFld {c : Cell} (off hi lo v : Nat) (h : c.regsWf = true) : (c.setFld off hi lo v).regsWf = true :=
  Cell.regsWf_setReg _ _ h

theorem Cell.reg_orReg_same {c : Cell} (off m : Nat) (h : c.regsWf = true) :
    (c.orReg off m).reg off = c.reg off ||| BitVec.ofNat 32 m := Cell.reg_setReg_same _ _ h

theorem Cell.reg_orReg_other {c : Cell} {off o : Nat} (m : Nat) (h : c.regsWf = true) (ho : o ≠ off) :
    (c.orReg off m).reg o = c.reg o := Cell.reg_setReg_other _ h ho

theorem Cell.reg_clrReg_same {c : Cell} (off m : Nat) (h : c.regsWf = true) :
    (c.clrReg off m).reg off = c.reg off &&& ~~~(BitVec.ofNat 32 m) := Cell.reg_setReg_same _ _ h

theorem Cell.reg_clrReg_other {c : Cell} {off o : Nat} (m : Nat) (h : c.regsWf = true) (ho : o ≠ off) :
    (c.clrReg off m).reg o = c.reg o := Cell.reg_setReg_other _ h ho

end Sys2Proof.Machine
end

