-- ==== Sys2Proof/Laws/Events.lean ====
section
/-! SUPPORT. Laws of the operations over the device that a cell's events call: which parts of the state they leave alone. -/

namespace Sys2Proof.Machine

/-- The parts that no event of a cell changes, cells included. -/
structure Aside (s t : State) : Prop where
  dev   : SameDevice s t
  cells : t.cells = s.cells
  fresh : t.fresh = s.fresh

theorem SameDevice.refl (s : State) : SameDevice s s := ⟨rfl, rfl, rfl, rfl, rfl, rfl, rfl, rfl⟩

theorem SameDevice.trans {s t u : State} (h : SameDevice s t) (g : SameDevice t u) : SameDevice s u :=
  ⟨g.1.trans h.1, g.2.trans h.2, g.3.trans h.3, g.4.trans h.4, g.5.trans h.5, g.6.trans h.6, g.7.trans h.7, g.8.trans h.8⟩

theorem Aside.refl (s : State) : Aside s s := ⟨SameDevice.refl s, rfl, rfl⟩

theorem Aside.trans {s t u : State} (h : Aside s t) (g : Aside t u) : Aside s u :=
  ⟨h.1.trans g.1, g.2.trans h.2, g.3.trans h.3⟩

theorem Aside.cell {s t : State} (h : Aside s t) (c : CellId) : t.cell c = s.cell c := State.cell_congr h.cells c

theorem Aside.foldl {α : Type} {f : State → α → State} (hf : ∀ s a, Aside s (f s a)) (l : List α) :
    ∀ s, Aside s (l.foldl f s) := by
  induction l with
  | nil => intro s; exact Aside.refl s
  | cons a l ih => intro s; exact (hf s a).trans (ih _)

/-- An update of the listed fields alone leaves the rest aside. -/
theorem Aside.of {s t : State} (h1 : t.pending = s.pending) (h2 : t.ridges = s.ridges) (h3 : t.house = s.house)
    (h4 : t.keeper = s.keeper) (h5 : t.port = s.port) (h6 : t.cores = s.cores) (h7 : t.power = s.power)
    (h8 : t.pins = s.pins) (h9 : t.cells = s.cells) (h10 : t.fresh = s.fresh) : Aside s t :=
  ⟨⟨h1, h2, h3, h4, h5, h6, h7, h8⟩, h9, h10⟩

theorem Aside.setObj (s : State) (i j v : Nat) : Aside s (s.setObj i j v) := by constructor <;> first | constructor <;> rfl | rfl
theorem Aside.addObj (s : State) (i j n : Nat) : Aside s (s.addObj i j n) := Aside.setObj ..
theorem Aside.bumpObj (s : State) (i j : Nat) : Aside s (s.bumpObj i j) := Aside.setObj ..
theorem Aside.send (s : State) (x : Tx) : Aside s (s.send x) := by constructor <;> first | constructor <;> rfl | rfl
theorem Aside.setRing (s : State) (r : Ring) : Aside s (s.setRing r) := by constructor <;> first | constructor <;> rfl | rfl
theorem Aside.setNet (s : State) (n : Net) : Aside s (s.setNet n) := by constructor <;> first | constructor <;> rfl | rfl
theorem Aside.setDict (s : State) (d : Dict) : Aside s (s.setDict d) := by constructor <;> first | constructor <;> rfl | rfl
theorem Aside.setMirror (s : State) (c : CellId) (m : Mirror) : Aside s (s.setMirror c m) := by
  constructor <;> first | constructor <;> rfl | rfl
theorem Aside.setMeter (s : State) (c : CellId) (m : Meter) : Aside s (s.setMeter c m) := by
  constructor <;> first | constructor <;> rfl | rfl
theorem Aside.setDbg (s : State) (c : CellId) (d : CellDbg) : Aside s (s.setDbg c d) := by
  constructor <;> first | constructor <;> rfl | rfl
theorem Aside.setChannel (s : State) (c : Channel) : Aside s (s.setChannel c) := Aside.setDict ..
theorem Aside.dropChannel (s : State) (i : Nat) : Aside s (s.dropChannel i) := Aside.setDict ..
theorem Aside.setQueue (s : State) (q : NoteQueue) (n : Nat) : Aside s (s.setQueue q n) := Aside.setDict ..

theorem Aside.ite {s : State} {p : Prop} [Decidable p] {a b : State} (ha : Aside s a) (hb : Aside s b) :
    Aside s (if p then a else b) := by
  by_cases h : p
  · rw [if_pos h]; exact ha
  · rw [if_neg h]; exact hb

theorem Aside.emit (s : State) (p : PortSide) (f : RingFrame) : Aside s (s.emit p f) := by
  unfold State.emit
  exact Aside.ite (Aside.refl s) (Aside.ite (Aside.send ..) (Aside.ite (Aside.refl s) (Aside.ite (Aside.refl s) (Aside.send ..))))

theorem Aside.unicastFrame (s : State) (f : RingFrame) : Aside s (s.unicastFrame f) := by
  unfold State.unicastFrame
  refine Aside.ite (Aside.refl s) (Aside.ite ?_ (Aside.emit ..))
  split
  · split
    · exact Aside.ite (Aside.emit ..) (Aside.refl s)
    · exact Aside.refl s
  · exact Aside.refl s

theorem Aside.sendFrame (s : State) (f : RingFrame) : Aside s (s.sendFrame f) := by
  unfold State.sendFrame State.broadcastFrame
  exact Aside.ite (Aside.ite (Aside.refl s) ((Aside.emit ..).trans (Aside.emit ..))) (Aside.unicastFrame ..)

theorem Aside.newFrame (s : State) (k : RingClass) (t d : Nat) (b : Bool) (p : Bytes) :
    Aside s (s.newFrame k t d b p).2 := Aside.setRing ..

theorem Aside.ringSend (s : State) (k : RingClass) (t d : Nat) (b : Bool) (p : Bytes) : Aside s (s.ringSend k t d b p) :=
  (Aside.newFrame ..).trans (Aside.sendFrame ..)

theorem Aside.control (s : State) (t d : Nat) (b : Bool) (p : Bytes) : Aside s (s.control t d b p) :=
  Aside.ite (Aside.refl s) ((Aside.newFrame ..).trans (Aside.setRing ..))

theorem Aside.tell (s : State) (m : RingMsg) (d : Option Nat) : Aside s (s.tell m d) := Aside.control ..

theorem Aside.tellState (s : State) (d : Nat) (m : StateMsg) : Aside s (s.tellState d m) := Aside.ringSend ..

theorem Aside.record (s : State) (c : Channel) (t : Nat) (b : Bytes) : Aside s (s.record c t b) := by
  unfold State.record
  have h : Aside s ((s.setChannel { c with txSeq := c.txSeq + 1 }).send (.udp c.service c.addr
      (recordHead t (b.length + 16) c.id c.txSeq ++ fitBytes (b.length + 16) (Config.gcmSeal (slice c.keys 32 32)
        (((slice c.keys 76 12).zip (beBytes 12 c.txSeq)).map fun q => q.1 ^^^ q.2)
        (recordHead t (b.length + 16) c.id c.txSeq) b)))) := (Aside.setChannel ..).trans (Aside.send ..)
  exact Aside.ite h (h.trans (Aside.dropChannel ..))

theorem Aside.sendMsg (s : State) (i : Nat) (m : DictMsg) : Aside s (s.sendMsg i m) := by
  unfold State.sendMsg
  split
  · exact Aside.record ..
  · exact Aside.refl s

theorem Aside.answer (s : State) (c : Client) (r : Bool) (m : DictMsg) : Aside s (s.answer c r m) := by
  unfold State.answer
  split
  · exact Aside.ringSend ..
  · refine Aside.trans ?_ (Aside.sendMsg ..)
    split
    · exact Aside.ite (Aside.setChannel ..) (Aside.refl s)
    · exact Aside.refl s

theorem Aside.pump (s : State) (q : NoteQueue) (i : Nat) : Aside s (s.pump q i) := by
  refine Aside.foldl (fun s n => ?_) _ _
  split
  · exact Aside.refl s
  · exact Aside.ite (Aside.refl s) ((Aside.setChannel ..).trans (Aside.sendMsg ..))

theorem Aside.pumpAll (s : State) : Aside s s.pumpAll :=
  Aside.foldl (fun _ _ => Aside.foldl (fun _ _ => Aside.pump ..) _ _) _ _

theorem Aside.enqueueNote (s : State) (r k c : Nat) (d : Bytes) : Aside s (s.enqueueNote r k c d) :=
  Aside.trans (Aside.ite ((Aside.setQueue ..).trans (Aside.bumpObj ..)) (Aside.setQueue ..)) (Aside.pumpAll _)

theorem Aside.relayNote (s : State) (r k : Nat) (d : Bytes) : Aside s (s.relayNote r k d) :=
  Aside.ite (Aside.refl s) (Aside.ringSend ..)

theorem Aside.notify (s : State) (c : Nat) (t : Option Nat) (i j : Nat) (d : Bytes) : Aside s (s.notify c t i j d) := by
  unfold State.notify
  refine Aside.ite (Aside.refl s) ?_
  cases t with
  | none => exact (Aside.enqueueNote ..).trans (Aside.relayNote ..)
  | some k => exact (((Aside.enqueueNote ..).trans (Aside.relayNote ..)).trans (Aside.enqueueNote ..)).trans (Aside.relayNote ..)

theorem Aside.setMirrorState (s : State) (c : CellId) (v : Nat) : Aside s (s.setMirrorState c v) :=
  Aside.ite (Aside.refl s) ((Aside.setObj ..).trans (Aside.notify ..))

theorem Aside.startResync (s : State) (c : CellId) : Aside s (s.startResync c) :=
  Aside.ite (Aside.refl s) ((((Aside.setMirror ..).trans (Aside.bumpObj ..)).trans (Aside.setObj ..)).trans (Aside.tell ..))

theorem Aside.mirrorDiverged (s : State) (c : CellId) : Aside s (s.mirrorDiverged c) :=
  Aside.ite (Aside.refl s) ((Aside.setMirrorState ..).trans (Aside.startResync ..))

theorem Aside.divergeEvent (s : State) (c : CellId) (k f l : Nat) : Aside s (s.divergeEvent c k f l) := by
  unfold State.divergeEvent
  have h1 : Aside s ((((s.bumpObj (cellObj c 0x1A) 1).setObj (cellObj c 0x1A) 2 k).setObj (cellObj c 0x1A) 3 (f % 2 ^ 32)).setObj
      (cellObj c 0x1A) 4 (l % 65536)) := (((Aside.bumpObj ..).trans (Aside.setObj ..)).trans (Aside.setObj ..)).trans (Aside.setObj ..)
  have h2 := h1.trans (Aside.ite (p := bit (((((s.bumpObj (cellObj c 0x1A) 1).setObj (cellObj c 0x1A) 2 k).setObj (cellObj c 0x1A) 3
      (f % 2 ^ 32)).setObj (cellObj c 0x1A) 4 (l % 65536)).obj (cellObj c 0x1A) 5) (k - 1) = true)
    (Aside.notify _ 0x01 (some (s.cell c).sessionId) (cellObj c 0x1A) 0
      ([BitVec.ofNat 8 c.val, BitVec.ofNat 8 k] ++ beBytes 4 (f % 2 ^ 32) ++ beBytes 2 l)) (Aside.refl _))
  exact Aside.ite h2 ((h2.trans (Aside.setRing ..)).trans (Aside.mirrorDiverged ..))

theorem Aside.tracePush (s : State) (c : CellId) (p : Bytes) : Aside s (s.tracePush c p) :=
  Aside.ite (Aside.refl s) (Aside.ite ((Aside.setDbg ..).trans (Aside.bumpObj ..)) (Aside.setDbg ..))

theorem Aside.latchMeter (s : State) (c : CellId) : Aside s (s.latchMeter c) := Aside.setMeter ..

theorem Aside.takeReport (s : State) (c : CellId) (r : Report) : Aside s (s.takeReport c r) := by
  unfold State.takeReport
  refine (Aside.bumpObj s (cellObj c 0x1F) 0x07).trans ?_
  dsimp only
  split
  · exact Aside.refl _
  · split
    · exact Aside.setNet ..
    · exact Aside.tellState ..

theorem Aside.noteSessionAs (s : State) (c : CellId) (h : RingSession) : Aside s (s.noteSessionAs c h) := by
  unfold State.noteSessionAs
  dsimp only
  refine Aside.trans ?_ (Aside.notify ..)
  split
  · exact Aside.refl s
  · exact Aside.tellState ..

theorem Aside.noteWrites (s : State) (c : CellId) (x y : Cell) : Aside s (s.noteWrites c x y) := by
  unfold State.noteWrites
  dsimp only
  split
  · split
    · exact (Aside.setMirror ..).trans (Aside.startResync ..)
    · exact Aside.setMirror ..
  · exact Aside.setMirror ..

/-- Every event but an IDR request leaves the cells, and every event the device fields, alone. -/
theorem Aside.cellEvent (s : State) (c : CellId) (e : CellEvent) (he : e ≠ .idr) : Aside s (s.cellEvent c e) := by
  unfold State.cellEvent
  cases e with
  | idr => exact absurd rfl he
  | diverge => exact Aside.divergeEvent ..
  | bump => exact Aside.bumpObj ..
  | add => exact Aside.addObj ..
  | put => exact Aside.setObj ..
  | regionMismatch => exact Aside.notify ..
  | bite => exact Aside.notify ..
  | withheld => exact (Aside.bumpObj ..).trans (Aside.notify ..)
  | report => exact Aside.takeReport ..
  | trace => exact Aside.tracePush ..
  | frameEnd q cy v a i =>
    dsimp only
    refine Aside.trans ?_ (Aside.setMeter ..)
    split
    · exact (Aside.setMeter ..).trans (Aside.latchMeter ..)
    · exact Aside.setMeter ..
  | proof => exact Aside.setMeter ..
  | sessState => exact Aside.noteSessionAs ..

/-! ## Running a function of one cell -/

theorem Aside.cellEvents (c : CellId) (l : List CellEvent) : ∀ s : State, CellEvent.idr ∉ l →
    Aside s (l.foldl (fun s e => s.cellEvent c e) s) := by
  induction l with
  | nil => intro s _; exact Aside.refl s
  | cons e l ih =>
    intro s h
    simp only [List.mem_cons, not_or] at h
    exact (Aside.cellEvent s c e (Ne.symm h.1)).trans (ih _ h.2)

/-- Running a function of one cell that raises no IDR request: that cell takes the function's value with its events handed
on, and no other cell and no device field changes. -/
theorem State.onCell_aside (s : State) (c : CellId) (f : Cell → Cell) (h : CellEvent.idr ∉ (f (s.cell c)).outbox) :
    Aside (s.setCell c { f (s.cell c) with outbox := [] }) (s.onCell c f) :=
  (Aside.noteWrites ..).trans (Aside.cellEvents c _ _ h)

theorem State.onCell_cell (s : State) (c : CellId) (f : Cell → Cell) (h : CellEvent.idr ∉ (f (s.cell c)).outbox) :
    (s.onCell c f).cell c = { f (s.cell c) with outbox := [] } := by
  rw [(s.onCell_aside c f h).cell, State.cell_setCell_same]

theorem SameDevice.setCell (s : State) (c : CellId) (x : Cell) : SameDevice s (s.setCell c x) :=
  ⟨rfl, rfl, rfl, rfl, rfl, rfl, rfl, rfl⟩

theorem State.onCell_only (s : State) (c : CellId) (f : Cell → Cell) (h : CellEvent.idr ∉ (f (s.cell c)).outbox) :
    OnlyCell c s (s.onCell c f) := by
  have a := s.onCell_aside c f h
  refine ⟨(SameDevice.setCell s c _).trans a.dev, fun d hd => ?_⟩
  rw [a.cell, State.cell_setCell_other _ _ hd]

end Sys2Proof.Machine
end

