-- ==== Sys2Proof/Laws/Cpu.lean ====
section
/-! SUPPORT. Laws of the cell operations that instructions share: divergence events, memory writes, passing time, retirement
and traps. -/

namespace Sys2Proof.Machine

/-- The parts of a cell that a divergence event or a memory write leaves alone, and what it may raise. -/
structure MemOnly (x y : Cell) : Prop where
  cpu  : y.cpu = x.cpu
  beam : y.beam = x.beam
  pic  : y.pic = x.pic
  blt  : y.blt = x.blt
  dma  : y.dma = x.dma
  tmr  : y.tmr = x.tmr
  aud  : y.aud = x.aud
  enc  : y.enc = x.enc
  str  : y.str = x.str
  sess : y.sess = x.sess
  evt  : y.evt = x.evt
  idr  : CellEvent.idr ∉ x.outbox → CellEvent.idr ∉ y.outbox

theorem MemOnly.refl (x : Cell) : MemOnly x x := ⟨rfl, rfl, rfl, rfl, rfl, rfl, rfl, rfl, rfl, rfl, rfl, id⟩

theorem MemOnly.trans {x y z : Cell} (h : MemOnly x y) (g : MemOnly y z) : MemOnly x z :=
  ⟨g.1.trans h.1, g.2.trans h.2, g.3.trans h.3, g.4.trans h.4, g.5.trans h.5, g.6.trans h.6, g.7.trans h.7, g.8.trans h.8,
    g.9.trans h.9, g.10.trans h.10, g.11.trans h.11, fun k => g.12 (h.12 k)⟩

theorem MemOnly.setReg (x : Cell) (off : Nat) (v : Word) : MemOnly x (x.setReg off v) :=
  ⟨rfl, rfl, rfl, rfl, rfl, rfl, rfl, rfl, rfl, rfl, rfl, id⟩

theorem MemOnly.raise (x : Cell) {e : CellEvent} (he : e ≠ .idr) : MemOnly x (x.raise e) :=
  ⟨rfl, rfl, rfl, rfl, rfl, rfl, rfl, rfl, rfl, rfl, rfl, fun h => by
    simp only [Cell.raise_outbox, List.mem_append, List.mem_singleton, not_or]
    exact ⟨h, Ne.symm he⟩⟩

theorem MemOnly.setMem (x : Cell) (m : Store) : MemOnly x { x with mem := m } :=
  ⟨rfl, rfl, rfl, rfl, rfl, rfl, rfl, rfl, rfl, rfl, rfl, id⟩

theorem MemOnly.diverge (x : Cell) (k l : Nat) : MemOnly x (x.diverge k l) := by
  unfold Cell.diverge
  dsimp only
  refine MemOnly.trans ?_ (MemOnly.raise _ (by simp))
  refine MemOnly.trans ?_ (MemOnly.raise _ (by simp))
  refine MemOnly.trans ?_ (MemOnly.setReg ..)
  split
  · exact (MemOnly.setReg ..).trans (MemOnly.setReg ..)
  · exact MemOnly.refl x

theorem MemOnly.writeMem (x : Cell) (r : Region) (o : Nat) (bs : Bytes) : MemOnly x (x.writeMem r o bs) := by
  unfold Cell.writeMem
  dsimp only
  split
  · exact (MemOnly.setMem ..).trans (MemOnly.diverge ..)
  · exact MemOnly.setMem ..

theorem MemOnly.foldl {α : Type} {f : Cell → α → Cell} (hf : ∀ x a, MemOnly x (f x a)) (l : List α) :
    ∀ x, MemOnly x (l.foldl f x) := by
  induction l with
  | nil => intro x; exact MemOnly.refl x
  | cons a l ih => intro x; exact (hf x a).trans (ih _)

theorem Cell.bltFlush_memOnly (x : Cell) : MemOnly { x with blt := { x.blt with wb := [] } } x.bltFlush :=
  MemOnly.foldl (fun _ _ => MemOnly.writeMem ..) _ _

theorem Cell.bltFlush_nil {x : Cell} (h : x.blt.wb = []) : x.bltFlush = x := by
  obtain ⟨_, _, _, _, _, ⟨_, _, _, _, _, _, wb⟩, _, _, _, _, _, _, _, _⟩ := x
  simp only at h
  subst h
  rfl

/-- The same cell with another processor state. -/
def Cell.withCpu (x : Cell) (u : Cpu) : Cell := { x with cpu := u }

theorem Cell.withCpu_diverge (x : Cell) (u : Cpu) (k l : Nat) : (x.withCpu u).diverge k l = (x.diverge k l).withCpu u := by
  have h : (x.withCpu u).reg Reg.CELL_DIVSTAT = x.reg Reg.CELL_DIVSTAT := rfl
  unfold Cell.diverge
  dsimp only
  rw [h]
  by_cases e : x.reg Reg.CELL_DIVSTAT = 0
  · rw [e]; rfl
  · rw [beq_eq_false_iff_ne.mpr e]; rfl

theorem Cell.withCpu_writeMem (x : Cell) (u : Cpu) (r : Region) (o : Nat) (bs : Bytes) :
    (x.withCpu u).writeMem r o bs = (x.writeMem r o bs).withCpu u := by
  have d : ∀ (p : Bool) (m : Store), (if p then (({ x with mem := m } : Cell).withCpu u).diverge 0x05
      (({ x with mem := m } : Cell).withCpu u).curLine else ({ x with mem := m } : Cell).withCpu u) =
      (if p then ({ x with mem := m } : Cell).diverge 0x05 ({ x with mem := m } : Cell).curLine
        else ({ x with mem := m } : Cell)).withCpu u := by
    intro p m
    cases p
    · rfl
    · exact Cell.withCpu_diverge _ u _ _
  exact d _ _

theorem Cell.withCpu_flushes (u : Cpu) (l : List (Nat × Word)) : ∀ x : Cell,
    l.foldl (fun c q => c.writeMem .wram (q.1 + 28) (leBytes 4 q.2.toNat)) (x.withCpu u) =
      (l.foldl (fun c q => c.writeMem .wram (q.1 + 28) (leBytes 4 q.2.toNat)) x).withCpu u := by
  induction l with
  | nil => intro x; rfl
  | cons q l ih => intro x; rw [List.foldl_cons, Cell.withCpu_writeMem, ih]; rfl

/-- The write-backs do not see the processor. -/
theorem Cell.withCpu_bltFlush (x : Cell) (u : Cpu) : (x.withCpu u).bltFlush = x.bltFlush.withCpu u :=
  Cell.withCpu_flushes u x.blt.wb { x with blt := { x.blt with wb := [] } }

/-- What passing `k` counted cycles does. -/
structure Passed (x y : Cell) (k : Nat) : Prop where
  mem  : y.mem = x.bltFlush.mem
  regs : y.regs = x.bltFlush.regs
  out  : y.outbox = x.bltFlush.outbox
  pic  : y.pic = x.pic
  blt  : y.blt = { x.blt with wb := [] }
  dma  : y.dma = x.dma
  aud  : y.aud = x.aud
  enc  : y.enc = x.enc
  str  : y.str = x.str
  sess : y.sess = x.sess
  evt  : y.evt = x.evt
  tmr  : y.tmr = { x.tmr with presc := y.tmr.presc, window := y.tmr.window }
  beam : y.beam = { x.beam with fpos := x.beam.fpos + k }
  cpu  : y.cpu = { x.cpu with mcycle := if x.cpu.cy then x.cpu.mcycle else x.cpu.mcycle + BitVec.ofNat 64 k }

theorem Cell.advance_passed (x : Cell) (k : Nat) : Passed x (x.advance k) k := by
  unfold Cell.advance Cell.clockTimers
  dsimp only
  have m := Cell.bltFlush_memOnly x
  constructor <;> simp [m.cpu, m.beam, m.pic, m.blt, m.dma, m.aud, m.enc, m.str, m.sess, m.evt, m.tmr]

/-- What retirement does: time passes, minstret counts, pc moves on; a single step is marked complete. -/
theorem Cell.retire_passed (x : Cell) (k : Nat) (pc : Word) : ∃ z, Passed x z k ∧
    x.retire k pc = { z with cpu := { z.cpu with
      minstret := if x.cpu.ir then x.cpu.minstret else x.cpu.minstret + 1, pc := pc
      dbg := if x.cpu.dbg.stepping then { x.cpu.dbg with stepped := true } else x.cpu.dbg } } := by
  refine ⟨x.advance k, Cell.advance_passed x k, ?_⟩
  have h := (Cell.advance_passed x k).cpu
  unfold Cell.retire Cell.markStep
  simp only [h]
  by_cases hs : x.cpu.dbg.stepping = true <;> simp [hs]

theorem Cell.bltFlush_idr {x : Cell} (h : CellEvent.idr ∉ x.outbox) : CellEvent.idr ∉ x.bltFlush.outbox :=
  (Cell.bltFlush_memOnly x).idr h

/-- What trap entry does (R27). -/
theorem Cell.trap_passed (x : Cell) (cause tval epc : Word) : ∃ z, Passed x z 4 ∧
    x.trap cause tval epc = { z with cpu := { z.cpu with
      mepc := epc &&& ~~~1, mcause := cause, mtval := tval, mpie := x.cpu.mie, mie := false
      pc := (x.cpu.mtvec &&& ~~~3) + if x.cpu.mtvec.getLsbD 0 && cause.getLsbD 31 then (cause &&& 0x7FFFFFFF#32) * 4 else 0
      dbg := if x.cpu.dbg.stepping then { x.cpu.dbg with stepped := true } else x.cpu.dbg } } := by
  refine ⟨x.advance 4, Cell.advance_passed x 4, ?_⟩
  have h := (Cell.advance_passed x 4).cpu
  unfold Cell.trap Cell.markStep
  simp only [h]
  by_cases hs : x.cpu.dbg.stepping = true <;> simp only [hs, if_true] <;> simp <;> split <;> simp

/-- Memories, registers and events after `k` cycles do not depend on the processor. -/
theorem Passed.memories {x z : Cell} {u : Cpu} {k : Nat} (p : Passed (x.withCpu u) z k) :
    z.mem = x.bltFlush.mem ∧ z.regs = x.bltFlush.regs ∧ z.outbox = x.bltFlush.outbox :=
  ⟨p.mem.trans ((congrArg Cell.mem (Cell.withCpu_bltFlush x u)).trans rfl), p.regs.trans ((congrArg Cell.regs (Cell.withCpu_bltFlush x u)).trans rfl),
    p.out.trans ((congrArg Cell.outbox (Cell.withCpu_bltFlush x u)).trans rfl)⟩

/-- Writing a general register changes the register vector alone (x0 stays 0). -/
theorem Cell.setX_withCpu (x : Cell) (r : Reg) (v : Word) : ∃ u, x.setX r v = x.withCpu { x.cpu with x := u } ∧
    (x.withCpu { x.cpu with x := u }).x r = (if r = 0 then 0 else v) ∧
    ∀ q, q ≠ r → (x.withCpu { x.cpu with x := u }).x q = x.x q := by
  unfold Cell.setX Cell.x
  by_cases h : r = 0
  · exact ⟨x.cpu.x, by simp [h]; rfl, by simp [h], by intro q hq; simp [Cell.withCpu]⟩
  · refine ⟨x.cpu.x.set r.val v, by simp [h]; rfl, by simp [h, Cell.withCpu], ?_⟩
    intro q hq
    have : r.val ≠ q.val := fun e => hq (Fin.ext e.symm)
    simp [Cell.withCpu, this]

/-- An instruction that may begin runs its body, behind a straddling store. -/
theorem Cell.instr_ready {x : Cell} {short : Bool} (body : Cell → Word → Cell) (h : Ready x.flush short) :
    x.instr short body = body x.flush (nextPc x.flush short) := by
  unfold Cell.instr nextPc
  dsimp only
  rw [h.1, h.2]
  cases short <;> rfl

/-- What an instruction of a ready processor does to the device: its body's value in its cell, and nothing beside it. -/
theorem State.instr_ready {s : State} {c : CellId} {short : Bool} (body : Cell → Word → Cell)
    (h : Ready (s.cell c).flush short)
    (hi : CellEvent.idr ∉ (body (s.cell c).flush (nextPc (s.cell c).flush short)).outbox) :
    ∃ t, s.instr c short body = .next t ∧ OnlyCell c s t ∧
      t.cell c = { body (s.cell c).flush (nextPc (s.cell c).flush short) with outbox := [] } := by
  have e := Cell.instr_ready body h
  refine ⟨_, rfl, State.onCell_only s c _ ?_, ?_⟩
  · rw [e]; exact hi
  · rw [State.onCell_cell s c _ (by rw [e]; exact hi), e]

end Sys2Proof.Machine
end

