-- ==== Sys2Proof/WellFormed.lean ====
section
/-! DEFINITION. Which commands are well formed: operands that no sender of the spec can give are refused here. -/

namespace Sys2Proof

/-- The fields of a ring frame fit their places (R332), and its payload its class (R333). -/
def RingFrame.wellFormed (f : RingFrame) : Bool :=
  decide (f.typ < 16) && decide (f.src < 16) && decide (f.dst < 16) && decide (f.hops < 16) && decide (f.topo < 256) &&
    decide (f.seq < 65536) && decide (f.payload.length ≤ match f.cls with
      | .sync => 28
      | .beacon => 300
      | .input => 288
      | .control => 300
      | .stream => 1522
      | .dict => 4096
      | .state => 4160)

/-- The fields of a dictionary message fit their places (R373). -/
def DictMsg.wellFormed (m : DictMsg) : Bool :=
  decide (m.mtype < 256) && decide (m.node < 256) && decide (m.tid < 65536) && decide (m.index < 65536) &&
    decide (m.sub < 256) && decide (m.flags < 256) && decide (m.aux < 2 ^ 32)

/-- Opus packets, PTP domains and transports, and other operands with a range of their own. -/
def Instr.wellFormed : Instr → Bool
  | .syncFrame _ f => f.wellFormed && f.cls = .sync
  | .beacon _ f => f.wellFormed && f.cls = .beacon
  | .streamFrame _ f => f.wellFormed && f.cls = .stream
  | .dictFrame _ f => f.wellFormed && f.cls = .dict
  | .stateFrame _ f => f.wellFormed && f.cls = .state
  | .topo _ f => f.wellFormed && f.cls = .control && f.typ = 0
  | .probe _ f => f.wellFormed && f.cls = .control && f.typ = 1
  | .probeReply _ f _ => f.wellFormed && f.cls = .control && f.typ = 2
  | .join _ f => f.wellFormed && f.cls = .control && f.typ = 3
  | .leave _ f => f.wellFormed && f.cls = .control && f.typ = 4
  | .promoted _ f => f.wellFormed && f.cls = .control && f.typ = 5
  | .epoch _ f => f.wellFormed && f.cls = .control && f.typ = 6
  | .active _ f => f.wellFormed && f.cls = .control && f.typ = 7
  | .resync _ f => f.wellFormed && f.cls = .control && f.typ = 8
  | .switch _ f => f.wellFormed && f.cls = .control && f.typ = 9
  | .stamp _ f => f.wellFormed && f.cls = .control && f.typ = 10
  | .keyx _ f => f.wellFormed && f.cls = .control && f.typ = 11
  | .role _ f => f.wellFormed && f.cls = .control && f.typ = 12
  | .read r => r.msg.wellFormed && r.msg.mtype = 0x01
  | .write r => r.msg.wellFormed && r.msg.mtype = 0x02
  | .segInitDl r => r.msg.wellFormed && r.msg.mtype = 0x06
  | .segInitUl r => r.msg.wellFormed && r.msg.mtype = 0x07
  | .segData r => r.msg.wellFormed && r.msg.mtype = 0x08
  | .segAck r => r.msg.wellFormed && r.msg.mtype = 0x09
  | .segAbort r => r.msg.wellFormed && r.msg.mtype = 0x0A
  | .notifyAck r => r.msg.wellFormed && r.msg.mtype = 0x11
  | .uplinkFrameReceive _ frame _ => decide (frame.length ≤ 65535)
  | .temperatureReading sensors => sensors.length = 20
  | .aluInstruction _ i short => match i with
    | .reg op _ _ _ => !short || op = .add || op = .sub || op = .xor || op = .or || op = .and
    | .imm op _ _ _ => !short || op = .addi || op = .andi
    | .shift op _ _ _ => !short || op = .slli || op = .srli || op = .srai
    | .unary _ _ _ => !short
    | .lui _ _ => true
    | .auipc _ _ => !short
  | .load _ op _ _ _ short => !short || op = .lw
  | .store _ op _ _ _ short => !short || op = .sw
  | .branch _ op _ _ off short => (!short || op = .beq || op = .bne) && off.getLsbD 0 = false
  | .jalJalr _ i _ => match i with
    | .jal _ off => off.getLsbD 0 = false
    | .jalr _ _ _ => true
  | _ => true

end Sys2Proof
end

