-- ==== Sys2Proof/Tests/Slice0.lean ====
section
/-! SUPPORT. Tests: the hypotheses of every statement are met by a concrete state (`test_meets_…`, named as the statement),
commands that are not well formed are refused, and single steps give what the rules say. -/

open Sys2Proof Sys2Proof.Machine

namespace Sys2Proof.Tests

-- One theorem at a time: the kernel evaluates each, and those that wait for it need a thread each.
set_option Elab.async false

/-! ## The states the tests use -/

/-- A raster of 4 lines of 100 cycles, 3 of them active. -/
def raster : List (Nat × Word) := [(Reg.RST_HTIME, 100), (Reg.RST_VTIME, 4 * 65536 + 3), (Reg.RST_PORCH, 64)]

/-- A cell whose session runs, in line 0 at cycle 10. -/
def runCell : Cell := { Cell.reset with
  regs := Sparse.normal regReset raster
  sess := { Session.reset with state := .running, role := .primary }
  cpu := { Cpu.reset with inReset := false }
  beam := { Beam.reset with started := 1, fpos := 10 } }

/-- A running device in PRODUCTION. -/
def dev : State := { State.reset with
  power := { Power.reset with phase := .running, healthy := true }, keeper := { Keeper.reset with lifecycle := 2 } }

/-- That device with one cell as given. -/
def one (x : Cell) : State := dev.setCell 5 x

def Cell.atPos (x : Cell) (p : Nat) : Cell := { x with beam := { x.beam with fpos := p } }
def Cell.withCpu (x : Cell) (f : Cpu → Cpu) : Cell := { x with cpu := f x.cpu }
def Cell.withSess (x : Cell) (f : Session → Session) : Cell := { x with sess := f x.sess }

theorem cell_one (x : Cell) : (one x).cell 5 = x := rfl

theorem ready_of {x : Cell} {short : Bool} (h : (x.cpuReady && x.fetchFault (if short then 2 else 4) == none) = true) :
    Ready x short := by simpa [Ready] using h

theorem flush_of {x : Cell} (h : (x.cpu.straddle.isNone && x.outbox.isEmpty) = true) :
    ((one x).cell 5).flush = x ∧ x.outbox = [] := by
  simp only [Bool.and_eq_true, List.isEmpty_iff, Option.isNone_iff_eq_none] at h
  exact ⟨by rw [cell_one, Cell.flush, h.1], h.2⟩

theorem live_of {x : Cell}
    (h : (x.running && (x.cpu.straddle.isNone && x.outbox.isEmpty) && Sparse.wf regReset x.regs) = true) :
    Live (one x) 5 x := by
  rw [Bool.and_eq_true, Bool.and_eq_true] at h
  exact ⟨h.1.1, (flush_of h.1.2).1, (flush_of h.1.2).2, h.2⟩

theorem beaming_of {x : Cell}
    (h : (x.running && (x.cpu.straddle.isNone && x.outbox.isEmpty) && Sparse.wf regReset x.regs) = true) :
    Beaming (one x) 5 x := by
  rw [Bool.and_eq_true, Bool.and_eq_true] at h
  refine ⟨h.1.1, rfl, (flush_of h.1.2).2, ?_, h.2⟩
  have := h.1.2
  simp only [Bool.and_eq_true, Option.isNone_iff_eq_none] at this
  exact this.1

/-! ## The hypotheses are met: cell processor -/

theorem test_meets_StepRunsFrontCommand : State.reset.pending = [] := rfl

theorem test_meets_CanonicalKept : State.reset.canonical ∧ State.reset.quiet ∧ step State.reset = .next State.reset :=
  ⟨⟨by decide, by decide +kernel⟩, by unfold State.quiet; decide +kernel, rfl⟩

theorem test_meets_BoundsKept : State.reset.bounded ∧ step State.reset = .next State.reset :=
  ⟨by constructor <;> decide, rfl⟩

theorem test_meets_ArithmeticInstructions :
    (((one runCell).cell 5).flush = runCell ∧ runCell.outbox = []) ∧ Ready runCell false ∧ Ready runCell true :=
  ⟨flush_of (by decide), ready_of (by decide), ready_of (by decide)⟩

/-- The same hypotheses. -/
theorem test_meets_ControlTransferInstructions :
    (((one runCell).cell 5).flush = runCell ∧ runCell.outbox = []) ∧ Ready runCell false ∧ Ready runCell true :=
  test_meets_ArithmeticInstructions

/-- Its registers x1 to x4 hold addresses: the last word of WRAM, the address behind WRAM, the first register, the last word of
PRAM. -/
def addrCell : Cell := Cell.withCpu runCell fun p => { p with
  x := (((p.x.set 1 0x1003FFFC).set 2 0x10040000).set 3 0x40000000).set 4 0x7FFFC }

/-- The last word of WRAM, or the first of PRAM, is uncorrectable. -/
def badCell (w : Nat) : Cell := { addrCell with mem := { addrCell.mem with bad := [w] } }

theorem test_meets_LoadInstruction :
    (((one addrCell).cell 5).flush = addrCell ∧ addrCell.outbox = []) ∧ Ready addrCell false ∧
    (addrCell.x 1 + sext 1#12).toNat % LoadOp.lh.bytes ≠ 0 ∧
    addrCell.access (addrCell.x 2 + sext 0#12).toNat 4 false = .fault ∧
    addrCell.access (addrCell.x 1 + sext 0#12).toNat 4 false = .mem .wram 0x3FFFC ∧
    addrCell.badIn .wram 0x3FFFC 0x40000 = false ∧
    addrCell.access (addrCell.x 3 + sext 0#12).toNat 4 false = .reg 0 :=
  ⟨flush_of (by decide), ready_of (by decide), by decide⟩

theorem test_meets_MemoryFaults :
    (((one (badCell 0x1003FFFC)).cell 5).flush = badCell 0x1003FFFC ∧ (badCell 0x1003FFFC).outbox = []) ∧
    Sparse.wf regReset (badCell 0x1003FFFC).regs = true ∧ (badCell 0x1003FFFC).blt.wb = [] ∧
    Ready (badCell 0x1003FFFC) false ∧
    (badCell 0x1003FFFC).access ((badCell 0x1003FFFC).x 1 + sext 0#12).toNat 4 false = .mem .wram 0x3FFFC ∧
    (badCell 0x1003FFFC).badIn .wram 0x3FFFC 0x40000 = true ∧
    (badCell 0).cpuReady = true ∧ (badCell 0).fetchFault 4 = some (0, true) ∧ (badCell 0).fetchFault 2 = some (0, true) :=
  ⟨flush_of (by decide), by decide, by decide, ready_of (by decide), by decide⟩

theorem test_meets_StoreInstruction :
    (((one addrCell).cell 5).flush = addrCell ∧ addrCell.outbox = []) ∧ addrCell.mem.wf = true ∧ addrCell.blt.wb = [] ∧
    addrCell.mem.bad = [] ∧ Ready addrCell false ∧
    (addrCell.x 1 + sext 1#12).toNat % StoreOp.sh.bytes ≠ 0 ∧
    addrCell.access (addrCell.x 4 + sext 0#12).toNat 4 true = .fault ∧
    addrCell.access (addrCell.x 1 + sext 3#12).toNat 1 true = .mem .wram 0x3FFFF ∧
    addrCell.access (addrCell.x 3 + sext 0#12).toNat 4 true = .reg 0 ∧
    (addrCell.retire 4 0).eventBefore 0 (addrCell.beam.fpos + 3) = false ∧
    ((Cell.atPos addrCell 97).retire 4 0).eventBefore 0 ((Cell.atPos addrCell 97).beam.fpos + 3) = true :=
  ⟨flush_of (by decide), by decide, by decide, by decide, ready_of (by decide), by decide⟩

/-- EBREAK halts this cell. -/
def brkCell : Cell := Cell.withCpu runCell fun p => { p with dbg := { p.dbg with ebrkHalt := true } }

theorem test_meets_TrapInstructions :
    (((one brkCell).cell 5).flush = brkCell ∧ brkCell.outbox = []) ∧ Ready brkCell true ∧ Ready brkCell false ∧
    ((one brkCell).dbg[5]).waiting = [] ∧ brkCell.cpu.dbg.ebrkHalt = true ∧ runCell.cpu.dbg.ebrkHalt = false ∧
    (0x0000FFFF#32).toNat % 4 = 3 ∧ (0#32).toNat % 4 ≠ 3 :=
  ⟨flush_of (by decide), ready_of (by decide), ready_of (by decide), by decide +kernel⟩

theorem test_meets_CsrInstruction :
    (((one runCell).cell 5).flush = runCell ∧ runCell.outbox = []) ∧ Ready runCell false ∧
    runCell.csrRead 0x300 = some 0x1800 ∧ csrWrites .rw (.reg 0) = true ∧ csrWrites .rs (.reg 0) = false ∧
    (runCell.csrRead 0xBFF = none) ∧ (runCell.csrRead 0xC00).isSome = true :=
  ⟨flush_of (by decide), ready_of (by decide), by decide⟩

theorem test_meets_MlwaitRange :
    (((one addrCell).cell 5).flush = addrCell ∧ addrCell.outbox = []) ∧ Ready addrCell false ∧
    csrWrites .rw (.imm 31) = true ∧ addrCell.cpl = 100 ∧ addrCell.vtotal = 4 ∧
    addrCell.vtotal ≤ bits (csrValue .rw addrCell.cpu.mlwait (addrCell.csrSource (.reg 2))).toNat 31 20 ∧
    addrCell.cpl ≤ bits (csrValue .rw addrCell.cpu.mlwait (addrCell.csrSource (.reg 4))).toNat 19 0 :=
  ⟨flush_of (by decide), ready_of (by decide), by decide⟩

/-- Waiting for line 0, cycle 99, in frame 0; and in WFI with the WDG source pending and enabled. -/
def waitCell : Cell := Cell.withCpu runCell fun p => { p with wait := .line 0 99 }
def irqCell (w : Wait) : Cell :=
  Cell.withCpu ((runCell.setReg Reg.WDG_STAT 1).setReg Reg.INTC_EN 0xFFFFFFFF) fun p => { p with
    wait := w, mie := true, meie := true }

/-- The same, with the event in the present cycle. -/
def irqNext (w : Wait) : Cell := { irqCell w with evt := ⟨10, 11, 0, [], 0⟩ }

theorem test_meets_WaitsAndInterrupts :
    (((one waitCell).cell 5).outbox = [] ∧ ((one waitCell).cell 5).cpu.wait = .line 0 99 ∧
      ((one waitCell).cell 5).reached 0 99 = true ∧ ((one waitCell).cell 5).cpu.dbg.halted = false) ∧
    (((one runCell).cell 5).flush = runCell ∧ runCell.outbox = []) ∧ (Ready runCell false ∧ runCell.blt.wb = []) ∧
    (((one (irqCell .wfi)).cell 5).flush = irqCell .wfi ∧ (irqCell .wfi).cpu.meie = true ∧ (irqCell .wfi).meip = true ∧
      (irqCell .wfi).running = true ∧ (irqCell .wfi).beam.inPorch = false) ∧
    (({ irqCell .wfi with cpu := { (irqCell .wfi).cpu with wait := .none } } : Cell).cpuReady = true ∧
      (irqCell (.line 0 99)).meip = true ∧ (irqCell .none).meipSeen = true) ∧
    ((irqNext (.line 0 99)).awaitsIrq ((irqNext (.line 0 99)).advanceTo 11) ∧ (irqNext .none).beam.fpos < 11 ∧
      (irqNext .none).evt.irqFrom = 11 ∧ (irqNext (.line 0 99)).mayIdleTo 11 = true) ∧
    ((csrValue .rw runCell.cpu.mlwait (runCell.csrSource (.imm 11))).toNat = 11 ∧ runCell.beam.fpos + 1 < runCell.counted ∧
      bits 11 31 20 * runCell.cpl + bits 11 19 0 = runCell.beam.fpos + 1 ∧ bits 11 19 0 < runCell.cpl) :=
  ⟨by decide +kernel, flush_of (by decide), ⟨ready_of (by decide), by decide⟩,
    ⟨(flush_of (by decide)).1, by decide +kernel⟩, by decide +kernel,
    ⟨⟨by decide +kernel, rfl, by decide +kernel, by decide +kernel⟩, by decide +kernel⟩, by decide⟩

/-! ## Registers, timers, audio -/

theorem test_meets_RegisterWrite :
    Live (one runCell) 5 runCell ∧ Reg.CELL_DIVSTAT ∈ plainRegisters ∧ (regDesc Reg.CELL_DIVSTAT).isSome = true ∧
    Reg.ID_SESSLO ∈ plainRegisters ∧ (regDesc Reg.ID_SESSLO).isSome = true ∧ regDesc 0xFFFC = none ∧
    Reg.RST_CL / 4 * 4 = Reg.RST_CL :=
  ⟨live_of (by decide), by decide⟩

/-- A commit line of 1 in the active copy, and a commit armed. -/
def clCell (p : Nat) : Cell := { Cell.atPos runCell p with pic := { runCell.pic with activeRegs := [(Reg.RST_CL, 1)] } }
def armedCell : Cell := { runCell with pic := { runCell.pic with armed := true, applyFrame := 1 } }

theorem test_meets_CommandRegisters :
    (Live (one (clCell 99)) 5 (clCell 99) ∧ (clCell 99).pic.armed = false ∧
      (clCell 99).beam.fpos < (clCell 99).clLine * (clCell 99).cpl) ∧
    (Live (one (clCell 100)) 5 (clCell 100) ∧ (clCell 100).clLine * (clCell 100).cpl ≤ (clCell 100).beam.fpos ∧
      (one (clCell 100)).objsWf = true) ∧
    (Live (one armedCell) 5 armedCell ∧ armedCell.pic.armed = true ∧
      Sparse.wf (fun _ => (0 : Word)) armedCell.pic.palette = true ∧ Sparse.wf coefDefault armedCell.pic.coefPend = true) ∧
    bits (33#32).toNat 5 0 = 33 ∧ bits (32#32).toNat 5 0 = 32 ∧ armedCell.str.reports.length < 16 ∧
    16 ≤ (List.replicate 16 (⟨0, 1, []⟩ : Report)).length :=
  ⟨⟨live_of (by decide), by decide⟩, ⟨live_of (by decide), by decide +kernel⟩, ⟨live_of (by decide), by decide⟩, by decide⟩

/-- Timer 1 counts source events of line starts, in a mode, with one event waiting. -/
def timerCell (ctl cnt per cmp presc : Nat) : Cell :=
  let x := (((runCell.setReg (Cell.tmrCtl 1) (BitVec.ofNat 32 ctl)).setReg (Cell.tmrCnt 1) (BitVec.ofNat 32 cnt)).setReg
    (Cell.tmrPer 1) (BitVec.ofNat 32 per)).setReg (Cell.tmrCmp 1) (BitVec.ofNat 32 cmp)
  { x with tmr := { x.tmr with presc := x.tmr.presc.set 1 presc } }

theorem test_meets_Timers :
    (Live (one runCell) 5 runCell ∧ runCell.pairLinked 0 = false ∧ (timerCell 3 0 0 0 0).pairLinked 0 = true) ∧
    (Beaming (one (timerCell 0x101 0 1 1 1)) 5 (timerCell 0x101 0 1 1 1) ∧ (timerCell 0x101 0 1 1 1).blt.wb = [] ∧
      (timerCell 0x101 0 1 1 1).timerOn 1 0 = false ∧ (timerCell 0x101 0 1 1 1).tickDue 1 = true ∧
      (timerCell 0x101 0 1 1 1).tickMatches 1 = true) ∧
    ((timerCell 0x101 1 1 0 1).tickDue 1 = true ∧ ((timerCell 0x101 1 1 0 1).tickResult 1).2.2 = true ∧
      Beaming (one (timerCell 0x101 1 1 0 1)) 5 (timerCell 0x101 1 1 0 1)) ∧
    (Beaming (one (timerCell 0x101 2 1 0 0)) 5 (timerCell 0x101 2 1 0 0) ∧ (timerCell 0x101 2 1 0 0).skipDue 1 = true) :=
  ⟨⟨live_of (by decide), by decide +kernel⟩, ⟨beaming_of (by decide +kernel), by decide +kernel⟩,
    ⟨by decide +kernel, by decide +kernel, beaming_of (by decide +kernel)⟩, beaming_of (by decide +kernel), by decide +kernel⟩

/-- The watchdog runs with its count at 0; its window is open since some cycles. -/
def dogCell (barked : Bool) (cfg : Nat) (w : Option Nat) : Cell :=
  let x := (runCell.setReg Reg.WDG_CFG (BitVec.ofNat 32 cfg)).setReg Reg.WDG_CNT 0
  { x with tmr := { x.tmr with barked := barked, window := w } }

theorem test_meets_Watchdog :
    (Live (one (dogCell false 1 (some 16))) 5 (dogCell false 1 (some 16)) ∧ (dogCell false 1 (some 16)).windowOpen = true ∧
      (dogCell false 1 (some 16)).rbit Reg.WDG_CFG 2 = false ∧ (dogCell false 1 (some 17)).windowOpen = false ∧
      (dogCell false 4 none).rbit Reg.WDG_CFG 2 = true) ∧
    (Beaming (one (dogCell false 1 (some 17))) 5 (dogCell false 1 (some 17)) ∧ (dogCell false 1 (some 17)).wdgZero = true ∧
      (dogCell false 1 (some 17)).tmr.barked = false ∧ (dogCell false 1 (some 17)).tmr.window = some 17) ∧
    (Beaming (one (dogCell true 3 none)) 5 (dogCell true 3 none) ∧ (dogCell true 3 none).wdgZero = true ∧
      (dogCell true 3 none).tmr.barked = true ∧ (dogCell true 3 none).rbit Reg.WDG_CFG 1 = true) :=
  ⟨⟨live_of (by decide +kernel), by decide +kernel⟩, ⟨beaming_of (by decide +kernel), by decide +kernel⟩,
    beaming_of (by decide +kernel), by decide +kernel⟩

/-- A cell with audio admitted (an Opus encoder of 240-sample packets), at its first sample boundary; behind a boundary; with a
whole packet in its buffer. -/
def soundCell (voices : Option (List Int)) (n : Nat) : Cell :=
  { runCell with aud := { runCell.aud with voices := voices, buf := List.replicate n (0, 0) } }

theorem test_meets_Audio :
    (Live (one (soundCell none 0)) 5 (soundCell none 0) ∧ Sparse.wf (fun _ => (0 : Word)) (soundCell none 0).aud.bankP = true) ∧
    (Beaming (one (soundCell none 0)) 5 (soundCell none 0) ∧ (soundCell none 0).blt.wb = [] ∧
      (soundCell none 0).nextBoundary = some 0 ∧ (soundCell none 0).aud.voices = none) ∧
    (Beaming (one (soundCell (some []) 168)) 5 (soundCell (some []) 168) ∧ (soundCell (some []) 168).aud.voices = some [] ∧
      (soundCell (some []) 168).lpcm = false ∧
      (soundCell (some []) 168).packetSamples + 120 ≤ (soundCell (some []) 168).aud.buf.length) :=
  ⟨⟨live_of (by decide), by decide⟩, ⟨beaming_of (by decide), by decide +kernel⟩, beaming_of (by decide +kernel),
    by decide +kernel⟩

/-- STIM port 0 enabled. -/
def stimCell : Cell := runCell.setReg Reg.STIM_EN 1

theorem test_meets_StimAndCounters :
    Live (one stimCell) 5 stimCell ∧ stimCell.rbit Reg.STIM_EN 0 = true ∧ stimCell.rbit Reg.STIM_EN 31 = false ∧
    ((one stimCell).setDbg 5 { CellDbg.reset with level := 1 }).effLevel 5 ≠ 0 ∧ stimCell.sess.role ≠ .shadow ∧
    ((one stimCell).dbg[5]).trace.length < 4096 :=
  ⟨live_of (by decide), by decide +kernel⟩

/-! ## Engines, beam, encoder -/

/-- DMA channel 2 as given, with a quota of 8 units in every frame. -/
def dmaCell (d : DmaChan) : Cell := (runCell.setReg (chReg Reg.DMA_CHQUOTA 2) 8).setChan 2 d

/-- Its block at WRAM 0x20 asks for a FILL of one pixel at asset address `dst`; 256 bytes of asset window are admitted. -/
def bltCell (dst : Nat) : Cell :=
  let words : List Word := [0x10000000, 0, BitVec.ofNat 32 dst, 0, 0, 0x10001, 0xAA, 0]
  let x := (runCell.setReg Reg.BLT_CAPS 4).writeMem .wram 0x20 (words.flatMap fun w => leBytes 4 w.toNat)
  Cell.withSess x fun q => { q with image := { q.image with req := List.replicate 38 0 ++ [1, 0] } }

theorem test_meets_EngineCommands :
    (Live (one (dmaCell DmaChan.reset)) 5 (dmaCell DmaChan.reset) ∧ ((dmaCell DmaChan.reset).chan 2).state = 0 ∧
      (dmaCell DmaChan.reset).fld (chReg Reg.DMA_CHQUOTA 2) 23 0 ≠ 0 ∧
      (dmaCell DmaChan.reset).fld (chReg Reg.DMA_CHQUOTA 3) 23 0 = 0 ∧
      ((dmaCell DmaChan.reset).reg (chReg Reg.DMA_CHFREC 3)).getLsbD 0 = false) ∧
    (Live (one (dmaCell { DmaChan.reset with state := 1 })) 5 (dmaCell { DmaChan.reset with state := 1 }) ∧
      ((dmaCell { DmaChan.reset with state := 1 }).chan 2).held = .none ∧
      ((dmaCell { DmaChan.reset with state := 2, held := .waitReq 63 }).chan 2).state = 2) ∧
    (Live (one (bltCell 0x800000FF)) 5 (bltCell 0x800000FF) ∧ bits (0x23#32).toNat 17 5 * 32 = 0x20 ∧
      (∃ ws, (List.range 8).map (fun i => (bltCell 0x800000FF).mem.wram.read32 (0x20 + 4 * i)) = ws ∧
        (bltCell 0x800000FF).bltRefusal 0x20 (bltFields ws) (bits (ws.getD 0 0).toNat 27 26) = 0) ∧
      (∃ ws, (List.range 8).map (fun i => (bltCell 0x80000100).mem.wram.read32 (0x20 + 4 * i)) = ws ∧
        (bltCell 0x80000100).bltRefusal 0x20 (bltFields ws) (bits (ws.getD 0 0).toNat 27 26) = 7)) :=
  ⟨⟨live_of (by decide +kernel), by decide +kernel⟩, ⟨live_of (by decide +kernel), by decide +kernel⟩,
    live_of (by decide +kernel), by decide, ⟨_, rfl, by decide +kernel⟩, _, rfl, by decide +kernel⟩

/-- The commit of `clCell`, armed for the next frame. -/
def dueCommit : Cell :=
  { clCell 99 with pic := { (clCell 99).pic with armed := true, applyFrame := 1 } }

theorem test_meets_LineStart :
    Beaming (one dueCommit) 5 dueCommit ∧ dueCommit.lineDue = true ∧ dueCommit.pic.lnl = none ∧
    dueCommit.beam.started = dueCommit.clLine ∧ dueCommit.pic.armed = true ∧
    dueCommit.pic.applyFrame = dueCommit.beam.frame + 1 ∧ runCell.lineDue = true ∧ runCell.beam.started ≠ runCell.clLine :=
  ⟨beaming_of (by decide), by decide +kernel⟩

/-- All four lines done and every sample of the frame with them: before the porch, and in it. -/
def doneCell (porch staged : Bool) : Cell := { runCell with
  beam := { runCell.beam with started := 4, fpos := 400, inPorch := porch }
  pic := { runCell.pic with staged := staged }
  aud := { runCell.aud with next := 800 } }

theorem test_meets_FramesAndPorches :
    (Beaming (one (doneCell false false)) 5 (doneCell false false) ∧ (one (doneCell false false)).up = true ∧
      (doneCell false false).frameDone = true ∧ (doneCell false false).pic.lnl = none ∧
      (one (doneCell false false)).mirrorState 5 ≠ 4) ∧
    (Beaming (one (doneCell true true)) 5 (doneCell true true) ∧ (doneCell true true).frameDone = true ∧
      (doneCell true true).sess.biteEnd = false ∧
      ¬ ((doneCell true true).sess.copies = false ∧ ((one (doneCell true true)).mirrors[5]).phase = .idle ∧
        ((one (doneCell true true)).mirrors[5]).g = (doneCell true true).beam.frame + 1) ∧
      ((one (doneCell true true)).dbg[5]).waiting = [] ∧ (doneCell true true).beam.fpos ≤ (doneCell true true).counted) :=
  ⟨⟨beaming_of (by decide), by decide +kernel⟩, beaming_of (by decide), by decide +kernel⟩

/-- A cell with a fetch outstanding for bitmap layer 0, line 1; a 64-byte line of it is being read again. -/
def fetchCell (arrived : Bool) (retry : List Nat) : Cell :=
  let f : FetchLine := ⟨.b0, 0, 1, bitmapSet [] 0, 0x80000000, List.replicate 64 0, arrived, false, retry, [], []⟩
  { runCell with pic := { runCell.pic with fetch := [f] } }

theorem test_meets_BeamPositionEvents :
    (Beaming (one (fetchCell false [])) 5 (fetchCell false []) ∧ (fetchCell false []).blt.wb = [] ∧
      (fetchCell false []).beam.inPorch = false ∧
      (fetchCell false []).fld Reg.RST_LCMP 31 20 + 1 = (fetchCell false []).beam.started ∧
      (fetchCell false []).fld Reg.RST_LCMP 19 0 < (fetchCell false []).cpl ∧
      (fetchCell false []).evt.lcmpFrom = 0 ∧ (fetchCell false []).beam.started ≠ 0) ∧
    ((fetchCell false []).pic.fetch.map fun f => (f.layer, f.line, f.arrived)) = [(.b0, 1, false)] ∧
    (Beaming (one (fetchCell true [0x80000000])) 5 (fetchCell true [0x80000000]) ∧
      ((fetchCell true [0x80000000]).pic.fetch.map fun f => decide (0x8000003F / 64 * 64 ∈ f.retry)) = [true]) :=
  ⟨⟨beaming_of (by decide), by decide +kernel⟩, by decide, beaming_of (by decide), by decide⟩

/-- A captured line list with its slots: a write, a write to a register that a list may not write, the slot behind LMAX. -/
def listCell (k : Nat) : Cell := { runCell with pic := { runCell.pic with
  lnl := some ⟨0, 0, k, [.write Reg.CMP_BACKDROP 7, .write Reg.RST_STAT 1, .over 2]⟩ } }

theorem test_meets_LineListEntries :
    (∀ k ∈ [0, 2], (listCell k).beam.inPorch = false ∧ (listCell k).beam.started ≠ 0 ∧ (listCell k).blt.wb = [] ∧
      ((listCell k).pic.lnl.map fun r => r.slots[r.next]?) ∈
        [some (some (.write Reg.CMP_BACKDROP 7)), some (some (.over 2))]) ∧
    Beaming (one (listCell 1)) 5 (listCell 1) ∧
    ((listCell 1).pic.lnl.map fun r => r.slots[r.next]?) = some (some (.write Reg.RST_STAT 1)) ∧
    lnlTarget Reg.CMP_BACKDROP = true ∧ Reg.CMP_BACKDROP ∈ plainRegisters ∧ (regDesc Reg.CMP_BACKDROP).isSome = true ∧
    lnlTarget Reg.RST_STAT = false :=
  ⟨by decide +kernel, beaming_of (by decide), by decide +kernel⟩

theorem test_meets_OverlayAndIdrRequests :
    (one runCell).objsWf = true ∧ (one runCell).up = true ∧ (one runCell).admittedIn 5 = true ∧
    (one runCell).mirrorState 5 = 0 ∧ (one runCell).overlayFits 5 = true ∧
    ((one runCell).cell 5).enc.lastIdr < ((one runCell).cell 5).beam.frame + 2 := by decide +kernel

/-- A cell with a native line code stripe complete; with a keep-alive due. -/
def codeCell (p : PicKind) (codec : Nat) : Cell :=
  let x := doneCell false false
  { x with enc := { x.enc with cfg := { x.enc.cfg with codec := codec, ch := 16, cw := 16 }, pic := p, keepDue := true } }

theorem test_meets_EncoderEvents :
    (Beaming (one (codeCell .idr 2)) 5 (codeCell .idr 2) ∧ (codeCell .idr 2).stripeReady = true ∧
      (codeCell .idr 2).enc.keepDue = true ∧ (codeCell .idr 2).stripeLine 0 < (codeCell .idr 2).beam.started) ∧
    (Beaming (one (codeCell .active 2)) 5 (codeCell .active 2) ∧ (codeCell .active 2).stripeReady = true ∧
      (codeCell .active 2).enc.pic = .active) :=
  ⟨⟨beaming_of (by decide), by decide +kernel⟩, beaming_of (by decide), by decide +kernel⟩

/-- A block copy and a move of channel 2 in flight, due at line 1, landed or not. -/
def flightCell (landed : Bool) : Cell :=
  let q : BltCmd := ⟨7, 0x20, [0, 0x80002000, 0x80003000, 0, 0, 0x10001], 1, 0, landed, false, false⟩
  let m : DmaMoveRec := ⟨3, 0x20000000, 0x10000000, 4, 4, 4, 1, [[1, 2, 3, 4]], 1, landed, false, false, some 15⟩
  let x := runCell.setChan 2 { DmaChan.reset with moves := [m] }
  { x with blt := { x.blt with queue := [⟨6, 0, [0, 0x80000000, 0x80001000, 0, 0, 0x10001], 2, 0, false, false, false⟩, q] } }

theorem test_meets_TransferCompletion :
    (Beaming (one (flightCell false)) 5 (flightCell false) ∧
      (((flightCell false).blt.queue.find? fun p => p.seq = 7).map BltCmd.landed) = some false ∧
      ((flightCell false).blt.queue.map fun p => (bltFields p.words).shares (bltFields
        [0, 0x80002000, 0x80003000, 0, 0, 0x10001])) = [false, true] ∧
      ((((flightCell false).chan 2).moves.find? fun p => p.seq = 3).map fun m =>
        (m.landed, decide (m.dst < 0x80000000), decide (m.src < 0x80000000))) = some (false, true, true)) ∧
    (Beaming (one (flightCell true)) 5 (flightCell true) ∧
      (((flightCell true).blt.queue.find? fun p => p.seq = 7).map BltCmd.landed) = some true ∧
      (flightCell true).dueNext 1 = true ∧
      (((flightCell true).chan 2).moves.map fun m => (m.landed, m.due, m.vevt)) = [(true, 1, some 15)]) :=
  ⟨⟨beaming_of (by decide), by decide +kernel⟩, beaming_of (by decide), by decide +kernel⟩

/-- Channel 2 with an instruction of these words. -/
def instrCell (ws : List Word) : Cell := dmaCell { DmaChan.reset with state := 1, words := ws, acts := 14 }

/-- END, SIGNAL, LOOP with its second counter, WAIT for events, a MOVE of one row of four bytes from WRAM to VRAM, and a reserved
opcode. -/
theorem test_meets_DmaInstructions :
    (∀ ws ∈ ([[0x58000000], [0x48008001], [0x28000001, 0x1003FFF0], [0x38000000, 0x8000], [0x10000001, 0x1003FFFC, 0x20000000, 4],
        [0x60000000], [0]] : List (List Word)),
      (instrCell ws).dmaReady 2 = true ∧ ((instrCell ws).chan 2).ending = false ∧ ((instrCell ws).chan 2).words = ws ∧
        ws ≠ [] ∧ (instrCell ws).blt.wb = [] ∧ ((instrCell ws).reg (chReg Reg.DMA_CHFREC 2)).getLsbD 0 = false) ∧
    (∀ ws, ws = [(0x58000000 : Word)] → Beaming (one (instrCell ws)) 5 (instrCell ws)) ∧
    (bits 0x58000000 31 28 = 5 ∧ bits 0x48008001 31 28 = 4 ∧ bits 0x28000001 31 28 = 2 ∧ bit 0x28000001 27 = true ∧
      0x1003FFF0 = 0x10000000 + 0x3FFF0 ∧ 0x3FFF0 % 16 = 0 ∧ bits 0x38000000 31 28 = 3 ∧ bits 0x38000000 27 26 = 2 ∧
      bits 0x10000001 31 28 = 1 ∧ 6 ≤ bits 0x60000000 31 28 ∧ bits 0 31 28 = 0) ∧
    (instrCell []).moveFault 2 1 4 0x1003FFFC 0x20000000 0 0 = 0 :=
  ⟨by decide +kernel, fun _ h => h ▸ beaming_of (by decide +kernel), by decide, by decide +kernel⟩

/-- Channel 2 held: on the request that is always asserted, on event 15, on a move that may issue. -/
def heldCell (h : DmaHeld) : Cell := (dmaCell { DmaChan.reset with state := 2, held := h, acts := 14 }).setReg Reg.DMA_EVT 0x8000

theorem test_meets_DmaWaitEndAndIssue :
    (Beaming (one (heldCell (.waitReq 63))) 5 (heldCell (.waitReq 63)) ∧ (heldCell (.waitReq 63)).dmaPos 2 = 14 ∧
      (heldCell (.waitReq 63)).reqOn 63 14 = true) ∧
    (Beaming (one (heldCell (.waitEvent 0x8000))) 5 (heldCell (.waitEvent 0x8000)) ∧
      ((heldCell (.waitEvent 0x8000)).reg Reg.DMA_EVT).toNat &&& 0x8000 ≠ 0 ∧
      ((heldCell (.waitEvent 0x8000)).chan 2).low = false) ∧
    (Beaming (one (heldCell (.move 1 4 0x1003FFFC 0x20000000 0 0 false false none))) 5
        (heldCell (.move 1 4 0x1003FFFC 0x20000000 0 0 false false none)) ∧
      ((heldCell (.move 1 4 0x1003FFFC 0x20000000 0 0 false false none)).mayIssue 2 1 4 0x1003FFFC 0x20000000 0 0).isSome =
        true) :=
  ⟨⟨beaming_of (by decide +kernel), by decide +kernel⟩, ⟨beaming_of (by decide +kernel), by decide +kernel⟩,
    beaming_of (by decide +kernel), by decide +kernel⟩


/-! ## House time, packets, input -/

/-- The active manager, node 0, of a ring of two, that holds the lease; with a cell as given. -/
def leadRing : Ring := { Ring.reset with
  node := 0, manager := 0, standby := 1, order := [0, 1], lease := 1, east := ⟨2, false, 0⟩, west := ⟨2, false, 0⟩ }
def lead : State := { dev with
  ring := leadRing, pins := { dev.pins with bypass := some true }, power := { dev.power with uplink := true } }
def leadOne (x : Cell) : State := lead.setCell 5 x

/-- The house loop in a state, its reference edge as given. -/
def looped (l : LockState) (r : Option Nat) : State := { lead with house := { lead.house with loop := l, refEdge := r } }

theorem test_meets_HouseEdges :
    (∀ l ∈ [LockState.acquire, .pullin, .locked, .holdover], (looped l (some 0)).up = true ∧
      (looped l (some 0)).timeFrames = false ∧ (looped l (some 0)).objsWf = true) ∧
    (looped .acquire none).house.refEdge = none ∧
    (looped .acquire (some 0)).qualifies (16667700 - 0) = some 1 ∧ (looped .acquire (some 0)).qualifies (16667701 - 0) = none ∧
    (looped .acquire (some 0)).house.loop.tracking = false ∧ (looped .locked (some 0)).house.loop.tracking = true ∧
    (looped .locked (some 0)).qualifies (16667700 - 0) = some 1 ∧ (looped .locked (some 0)).qualifies 0 = none := by
  decide +kernel

/-- PTP admitted by the operator, with a transmitter selected. -/
def ptpState : State := (lead.setObj 0x2001 1 1).setObj 0x2001 7 2

/-- The operator has told the second of the next PPS_IN edge. -/
def ppsState : State :=
  let s := lead.setObj 0x2000 8 1
  { s with house := { s.house with ppsNext := some 0 } }

theorem test_meets_HouseTime :
    (ppsState.up = true ∧ ppsState.house.ptp = false ∧ ppsState.obj 0x2000 8 ≠ 0 ∧ ppsState.timeSource ≠ 3 ∧
      ppsState.house.ppsNext = some 0) ∧
    (ptpState.up = true ∧ ptpState.obj 0x2001 1 = 1 ∧ ptpState.isManager = true ∧ 2 ≤ ptpState.obj 0x2001 7 ∧
      ptpState.objsWf = true) ∧
    (⟨ptpState.obj 0x2001 2, ptpState.obj 0x2001 3, .measured (-1) 5⟩ : PtpMsg).event = .measured (-1) 5 := by
  decide +kernel

/-- A descriptor of session 1, its other fields 0. -/
def sessDesc : Bytes := List.replicate 11 0 ++ [1] ++ List.replicate 200 0
def hostCell : Cell := Cell.withSess runCell fun q => { q with desc := sessDesc }

/-- A keep-alive waits to leave; its check holds or not; the session has keys. -/
def sendCell (intact : Bool) : Cell := { hostCell with
  str := { hostCell.str with egress := true, queue := [⟨.keepalive, 0, 0, 0, false, false, [], 0, intact, 0⟩] } }
def sendState (intact : Bool) (lease : Nat) : State :=
  let s := leadOne (sendCell intact)
  { s with keeper := { s.keeper with keys := [(5, ⟨[], [], [], [], []⟩)] }, ring := { s.ring with lease := lease } }

/-- An interface with the address 0.0.0.1, and an ARP request for it. -/
def arpState : State := lead.setObj 0x2010 4 1
def arpFrame : Bytes :=
  List.replicate 12 0 ++ [8, 6, 0, 1, 8, 0, 6, 4, 0, 1] ++ List.replicate 16 0 ++ [0, 0, 0, 1]

theorem test_meets_UplinkTraffic :
    ((sendState true 1).up = true ∧ (sendState true 1).power.withdrawn = false ∧
      (sendCell true).sess.state = .running ∧ (sendCell true).str.egress = true ∧
      ((sendCell true).str.queue.map fun u => (u.intact, ((sendCell true).unitPayloads u).length)) = [(true, 1)] ∧
      (sendState true 1).objsWf = true ∧ (sendState true 1).fenced = false ∧
      ((sendState true 1).mirrors[5]).reopen = false ∧ ((sendState true 1).keysOf 5).isSome = true ∧
      (sendState true 1).isManager = true) ∧
    ((sendCell false).str.queue.map EUnit.intact) = [false] ∧ (sendState true 2).fenced = true ∧
    (arpState.up = true ∧ arpState.power.uplink = true ∧ arpState.objsWf = true) ∧
    1518 < (List.replicate 1519 (0 : Byte)).length ∧
    vlanView (arpState.obj 0x2010 8) (List.replicate 12 0 ++ [0x81, 0, 0, 0]) = none ∧
    arpFrame.length ≤ 1518 ∧ vlanView (arpState.obj 0x2010 8) arpFrame = some (0x0806, arpFrame.drop 14) ∧
    isArp (arpState.uplinkAddr 0) (arpFrame.drop 14) = true := by decide +kernel

/-- Feedback for the video stream of session 1; a datagram of one type from player 0, SEQ 7. -/
def feedback (auth : Bool) (k : Nat) : Srtcp := ⟨0, k, 0, 1, auth⟩
def heardState : State := { leadOne hostCell with net := { lead.net with srtcp := [(1, 3)] } }
def inputUdp (typ : Byte) : Bytes := [1, typ, 0, 0] ++ beBytes 8 1 ++ beBytes 4 7 ++ List.replicate 16 0

theorem test_meets_ViewerRequests :
    (∀ s ∈ [leadOne hostCell, heardState], s.up = true ∧ s.isManager = true ∧ s.objsWf = true) ∧
    heardState.hosts = (leadOne hostCell).hosts ∧ ((leadOne hostCell).hosts.find? fun h => decide (h.role = 1) && h.admitted &&
      field h.desc 144 4 == (feedback true 3).ssrc.toNat && field h.desc 138 2 + 1 == (feedback true 3).dstPort &&
        field h.desc 164 16 == (feedback true 3).srcAddr) = some ((leadOne hostCell).ownSession 5) ∧
    (((leadOne hostCell).net.srtcp.find? fun q => q.1 = 1).map Prod.snd = none) ∧
    ((leadOne hostCell).ownSession 5).node = (leadOne hostCell).ring.node ∧ (feedback false 3).authentic = false ∧
    (heardState.net.srtcp.find? fun q => q.1 = 1).map Prod.snd = some 3 := by decide +kernel

theorem input_for (typ : Byte) (h : inputFormed (inputUdp typ) = true ∧ field (inputUdp typ) 4 8 = 1) :
    InputFor (leadOne hostCell) (inputUdp typ) ((leadOne hostCell).ownSession 5) :=
  ⟨rfl, by decide, h.1, by rw [h.2]; decide +kernel⟩

/-- PICTURE_LOSS of a player not heard before, for a running session. -/
theorem test_meets_ViewerRequests_loss :
    InputFor (leadOne hostCell) (inputUdp 2) ((leadOne hostCell).ownSession 5) ∧ field (inputUdp 2) 1 1 = 2 ∧
    ((leadOne hostCell).ownSession 5).state = 3 ∧
    (((leadOne hostCell).inputOf 1).players.find? fun p => p.player = field (inputUdp 2) 2 1) = none :=
  ⟨input_for 2 (by decide), by decide +kernel⟩

theorem test_meets_InputMessages :
    InputFor (leadOne hostCell) (inputUdp 1) ((leadOne hostCell).ownSession 5) ∧ field (inputUdp 1) 1 1 = 1 ∧
    (leadOne hostCell).objsWf = true ∧ ((leadOne hostCell).ownSession 5).node = (leadOne hostCell).ring.node :=
  ⟨input_for 1 (by decide), by decide +kernel⟩

/-- Eight stamps on line 10, of which none is left there. -/
def stamper : SessInput := ⟨1, [], [(10, 8)], 10, 0xFFFFFFFF, none, 0⟩

theorem test_meets_InputStamps :
    Sparse.wf (fun _ => 0) stamper.stamped = true ∧ 1 ≤ 2 ∧
    (stamper.stamp 8 2).map (fun q => (q.1, q.2.seq)) = some (11, 0) ∧ (∀ b, stamper.count b ≤ 8) ∧
    ({ stamper with stamped := [(10, 8), (11, 112)] } : SessInput).stamp 8 2 = none := by
  refine ⟨by decide, by decide, by decide, fun b => ?_, by decide⟩
  simp only [SessInput.count, stamper, Sparse.get]
  split
  · omega
  · split <;> omega

/-- A message staged for line 0 of frame 0, with `n` messages readable. -/
def stagedCell (n : Nat) : Cell :=
  let m : InMsg := ⟨0, 0, 0, 1, [], false⟩
  { hostCell with str := { hostCell.str with staging := [m], fifo := List.replicate n m } }

/-- A stamped message and a report wait at the manager; `addr` is what it knows of the player. -/
def queuedState (addr : Option NetAddr) : State :=
  let s := leadOne hostCell
  { s with net := { s.net with
    inputQ := [[1]], reports := [(1, ⟨0, 1, []⟩)], inputs := [⟨1, [⟨0, 0, addr⟩], [], 0, 0, none, 0⟩] } }

theorem test_meets_InputDelivery :
    ((queuedState none).up = true ∧ (queuedState none).objsWf = true ∧ (queuedState none).isManager = true ∧
      (queuedState none).net.inputQ = [[1]] ∧ (queuedState none).onRing = true ∧
      (queuedState none).ring.east.failed = false ∧ (queuedState none).ring.west.failed = false ∧
      (queuedState none).ring.order ≠ []) ∧
    (∀ c, ((queuedState none).cell c).outbox = []) ∧ (queuedState none).takesStamped 5 (beBytes 8 1) = true ∧
    (∀ n ∈ [63, 64], (stagedCell n).running = true ∧ (stagedCell n).outbox = [] ∧ (stagedCell n).cpu.straddle = none ∧
      (stagedCell n).str.staging = [⟨0, 0, 0, 1, [], false⟩] ∧
      (stagedCell n).passed 0 0 (stagedCell n).beam.started = true ∧ 1 = ((stagedCell n).str.lastSeq + 1) % 2 ^ 32) ∧
    Sparse.wf regReset (stagedCell 63).regs = true ∧
    ((queuedState none).net.reports = [(1, ⟨0, 1, []⟩)] ∧ ((queuedState none).sessionInfo 1).isSome = true ∧
      ((((queuedState none).inputOf 1).players.find? fun p => p.player = 0).bind Player.addr) = none ∧
      ((((queuedState (some ⟨false, 9, 9⟩)).inputOf 1).players.find? fun p => p.player = 0).bind Player.addr) =
        some ⟨false, 9, 9⟩) := by decide +kernel

/-! ## Sessions -/

/-- Put bytes at an offset. -/
def patch (b : Bytes) (o : Nat) (v : Bytes) : Bytes := b.take o ++ v ++ b.drop (o + v.length)

/-- A descriptor of session 2 that keeps every range of R311: native line code, LPCM, IPv4, no mirror. -/
def goodDesc : Bytes :=
  ([(0, [1]), (11, [2]), (84, [2]), (98, [1]), (100, [1, 1]), (113, [4]), (120, [1, 1, 2, 64]), (124, [96, 97, 98]),
    (136, [0, 1, 4, 0, 4, 1]), (151, [1]), (176, [10, 0, 0, 1])] : List (Nat × Bytes)).foldl
      (fun b q => patch b q.1 q.2) (List.replicate 180 0)

/-- A REQ section of 10 lines of 1,000,000 cycles with 16 × 8 native pixels, scaled by 4 and 8. -/
def goodReq : Bytes :=
  ([(8, [0, 10, 0, 8]), (12, beBytes 4 1000000), (16, beBytes 4 32), (20, [0, 16]), (41, [4, 8]), (44, [0, 64, 0, 64])] :
    List (Nat × Bytes)).foldl (fun b q => patch b q.1 q.2) (List.replicate 112 0)

theorem test_goodDesc : descFault goodDesc true = none ∧ field goodDesc 1 1 ≠ 1 ∧ field goodDesc 4 8 = 2 := by decide +kernel

/-- A PARKED device. -/
def parkedDev (x : Cell) : State := { leadOne x with power := { lead.power with state := .parked } }

theorem test_meets_DescriptorWrite :
    ((leadOne runCell).up = true ∧ (leadOne runCell).objsWf = true ∧ (leadOne runCell).power.state ≠ .parked ∧
      (leadOne runCell).power.moving = none ∧ (leadOne runCell).power.twin = false) ∧
    descFault [] true = some 180 ∧ field [] 1 1 ≠ 1 ∧ (∀ o < 1, descFault (patch goodDesc 4 (List.replicate 8 0)) true = some (4 + o)) ∧
    ((leadOne (Cell.withSess runCell fun q => { q with desc := goodDesc })).hosts.any fun h =>
      decide (h.session = field goodDesc 4 8 ∧ h.state ≠ 0)) = true ∧
    ((leadOne runCell).hosts.any fun h => decide (h.session = field goodDesc 4 8 ∧ h.state ≠ 0)) = false ∧
    ((leadOne runCell).cell 5).sess.state ≠ .free ∧ ((leadOne runCell).cell 6).sess.state = .free ∧
    ((parkedDev runCell).up = true ∧ (parkedDev runCell).objsWf = true ∧ (parkedDev runCell).power.state = .parked ∧
      (parkedDev runCell).power.moving = none ∧ ((parkedDev runCell).cell 6).sess.state = .free) := by decide +kernel

/-- A graph of one voice that is both outputs. -/
def goodGraph : Bytes := [1, 0, 0, 0, 0, 0, 0, 0, 8, 0, 2, 0, 0, 0, 0, 0, 0, 0, 0, 0]

/-- A LOADING cell whose image is whole, on a ridge that is powered or not, with a delivery key for every tenant. -/
def wholeCell (req : Bytes) : Cell := Cell.withSess Cell.reset fun q => { q with
  state := .loading, role := .primary, desc := goodDesc, image := { q.image with req := req, graph := goodGraph, complete := true } }
def wholeState (req : Bytes) (ready : Bool) : State :=
  let s := leadOne (wholeCell req)
  { s with
    house := { s.house with loop := .locked }, ridges := s.ridges.set 1 ⟨ready, ready, ready⟩
    power := { s.power with ddrGiB := 8, speed := 4800 }
    keeper := { s.keeper with registry := [⟨[], 5, 0, 0, 1, []⟩] } }

/-- The ring as measured, with nothing on it. -/
def bareView (partner : Nat) : RingView := ⟨0, 0, partner, [], 0, 0, 0, [], [], 0⟩

def verdictOf (req : Bytes) : AdmitFault ⊕ Cell := (wholeState req true).verdict 5 (bareView 0)

theorem test_meets_AdmissionCalculus :
    (∀ ready, (wholeState goodReq ready).up = true ∧ (wholeState goodReq ready).objsWf = true ∧
      ((wholeState goodReq ready).cell 5).sess.state = .loading ∧
      ((wholeState goodReq ready).cell 5).sess.image.complete = true ∧
      ((wholeState goodReq ready).mirrors[5]).keyx = false ∧ (wholeState goodReq ready).calcReady 5 = ready) ∧
    (verdictOf (patch goodReq 1 [1])).getLeft? = some (0x09, 0) ∧ (verdictOf goodReq).isRight = true ∧
    (((verdictOf goodReq).getRight?.map fun y => (decide (CellEvent.idr ∈ y.outbox), y.sess.role, y.mirrored)) =
      some (false, .primary, false)) ∧
    (wholeState goodReq true).keeper.lifecycle = 2 ∧ (wholeState goodReq true).keeper.restarting = false ∧
    ((wholeState goodReq true).deliveryKey 0).isSome = true ∧
    ((verdictOf goodReq).getRight?.map fun y => y.desc 12 8) = some 0 := by decide +kernel

/-- A session in a state, with a stamp pending; its lines are long enough for any DELAY. -/
def stampCell (x : Cell) (st : SessState) (p : Option (SessCmd × Nat)) : Cell :=
  Cell.withSess (x.setReg Reg.RST_HTIME 1000000) fun q => { q with state := st, pending := p, desc := sessDesc }

theorem test_meets_SessionCommands :
    (∀ st ∈ [SessState.running, .parked, .admitted], (leadOne (stampCell runCell st none)).up = true ∧
      (leadOne (stampCell runCell st none)).objsWf = true ∧ (leadOne (stampCell runCell st none)).isManager = true ∧
      (leadOne (stampCell runCell st none)).waits = false ∧ ((leadOne (stampCell runCell st none)).cell 5).sess.pending = none ∧
      ((leadOne (stampCell runCell st none)).sessionInfo ((leadOne (stampCell runCell st none)).cell 5).sessionId).isSome = true) ∧
    (SessCmd.start.applies .running = false ∧ SessCmd.park.applies .parked = false ∧ SessCmd.resume.applies .running = false ∧
      SessCmd.endIt.applies .free = false ∧ SessCmd.migrate.applies .parked = false ∧ SessCmd.start.applies .admitted = true ∧
      SessCmd.park.applies .running = true ∧ SessCmd.endIt.applies .parked = true) ∧
    ((leadOne (stampCell runCell .running (some (.park, 5)))).cell 5).sess.pending = some (.park, 5) ∧
    ((leadOne (stampCell runCell .parked none)).resumeRefusal 5 0 (bareView 0)) = none ∧
    ((leadOne (stampCell runCell .parked none)).resumeRefusal 5 0 { bareView 0 with uplinkUsed := 360000 }) = some (0x34, 0) ∧
    (leadOne (stampCell runCell .running none)).fullOn 5 = false := by decide +kernel

theorem test_meets_StampedBoundaries :
    (∀ k ∈ [SessCmd.start, .endIt], ((leadOne (stampCell runCell .admitted (some (k, 7)))).stampOf 5 k = some 7 ∧
      ((leadOne (stampCell runCell .admitted (some (k, 7)))).cell 5).sess.state = .admitted ∧
      ((leadOne (stampCell runCell .admitted (some (k, 7)))).cell 5).outbox = [] ∧
      ((leadOne (stampCell runCell .admitted (some (k, 7)))).dbg[5]).waiting = [] ∧
      (leadOne (stampCell runCell .admitted (some (k, 7)))).objsWf = true)) ∧
    (∀ k ∈ [SessCmd.park, .migrate, .endIt],
      ((leadOne (stampCell (doneCell true false) .running (some (k, 7)))).stampOf 5 k = some 7 ∧
        (leadOne (stampCell (doneCell true false) .running (some (k, 7)))).atBoundary 5 = true ∧
        (stampCell (doneCell true false) .running (some (k, 7))).sess.biteEnd = false ∧
        (stampCell (doneCell true false) .running (some (k, 7))).beam.held = false)) ∧
    (∀ k ∈ [SessCmd.resume, .endIt], ((leadOne (stampCell runCell .parked (some (k, 7)))).stampOf 5 k = some 7 ∧
      (stampCell runCell .parked (some (k, 7))).sess.state = .parked ∧
      (stampCell runCell .parked (some (k, 7))).beam.held = false)) := by decide +kernel

/-! ## Ring -/

/-- A worker, node 1, of that ring, with a cell as given. -/
def workRing : Ring := { leadRing with node := 1 }
def work (x : Cell) : State := { leadOne x with ring := workRing }

/-- A frame of a class and type from node 0, to node `dst` or a broadcast. -/
def frame (cls : RingClass) (typ dst hops : Nat) (bcast ok : Bool) (payload : Bytes) : RingFrame :=
  ⟨cls, typ, 0, dst, bcast, false, hops, 0, 0, payload, ok⟩

theorem test_meets_RingForwarding :
    (work runCell).power.phase = .running ∧ (work runCell).ring.node = 1 ∧
    frameRow .west (frame .control 4 2 2 false true []) 0 = some (.leave .west (frame .control 4 2 2 false true [])) ∧
    frameRow .east (frame .sync 0 0 1 true true []) 0 = some (.syncFrame .east (frame .sync 0 0 1 true true [])) ∧
    ({ workRing with seen := [(0, .sync, 0)] } : Ring).firstCopy (frame .sync 0 0 1 true true []) = false := by decide +kernel

theorem taken_work {x : Cell} {f : RingFrame}
    (h : ((work x).power.phase == .running && f.crcOk && (f.bcast || f.dst == 1) && (!f.bcast || decide (f.hops ≤ 1))) = true) :
    Taken (work x) f := by
  simp only [Bool.and_eq_true, beq_iff_eq, Bool.or_eq_true, Bool.not_eq_true', decide_eq_true_eq] at h
  obtain ⟨⟨⟨h1, h2⟩, h3⟩, h4⟩ := h
  refine ⟨h1, h2, fun hb => ?_, fun hb => ?_⟩
  · rw [hb] at h3
    exact h3.resolve_left (by decide)
  · rw [hb] at h4
    exact ⟨h4.resolve_left (by decide), rfl⟩

theorem test_meets_SyncBeaconStream :
    Taken (work runCell) (frame .sync 0 0 1 true true []) ∧ (work runCell).isManager = false ∧
    (frame .sync 0 0 1 true true []).src = (work runCell).ring.manager ∧ (work runCell).objsWf = true ∧
    Taken (work runCell) (frame .beacon 0 0 1 true true (List.replicate 24 0)) ∧
    (frame .beacon 0 0 1 true true []).src ≠ (work runCell).ring.node ∧
    (bit (field (List.replicate 24 (0 : Byte)) 12 1) 5 = false ∧ field (List.replicate 24 (0 : Byte)) 16 8 = 0 ∧
      field (List.replicate 24 (0 : Byte)) 13 1 = 0) ∧
    ((leadOne runCell).power.phase = .running ∧ (leadOne runCell).isManager = true ∧
      (leadOne runCell).power.withdrawn = false ∧ (leadOne runCell).ring.node = 0 ∧ (leadOne runCell).fenced = false) :=
  ⟨taken_work (by decide +kernel), by decide +kernel, by decide +kernel, by decide +kernel, taken_work (by decide +kernel),
    by decide +kernel⟩

/-- A manager that waits for the answer of device 9, node 1; a device that is not in a ring. -/
def probing : JoinRun := ⟨9, 0, true, none, []⟩
def joinState : State := { work runCell with ring := { workRing with join := some probing } }
def outside : State := { work runCell with ring := { workRing with order := [0] }, pins := Pins.reset }

theorem test_meets_MembershipFrames :
    (∀ k, Taken (work runCell) (frame .control k 1 1 false true (beBytes 8 9)) ∧
      (frame .control k 1 1 false true (beBytes 8 9)).cls = .control ∧ (frame .control k 1 1 false true []).typ = k) ∧
    Taken (work runCell) (frame .control 7 0 1 true true []) ∧
    (work runCell).ring.member = true ∧ (work runCell).ring.join = none ∧ (work runCell).isManager = false ∧
    (joinState.ring.join = some probing ∧ probing.probed = true ∧
      probing.node = (frame .control 2 1 1 false true (beBytes 8 9)).src ∧ field (beBytes 8 9) 0 8 = probing.device ∧
      joinState.objsWf = true ∧ joinState.power.phase = .running ∧ joinState.ring.node = 1) ∧
    (outside.ring.member = false ∧ outside.onRing = false ∧ outside.power.phase = .running ∧
      outside.ring.firstCopy (frame .control 3 0 1 true true []) = true) :=
  ⟨fun _ => ⟨taken_work rfl, rfl, rfl⟩, taken_work (by decide +kernel), by decide +kernel⟩

/-- A shadow that runs, or is held by a resync; a primary that waits for its partner's KEYX. -/
def shadowCell (held : Bool) : Cell :=
  let x := Cell.withSess hostCell fun q => { q with role := .shadow }
  { x with beam := { x.beam with held := held } }
def waitKeyx : State :=
  let s := work (Cell.withSess hostCell fun q => { q with state := .loading })
  { s with mirrors := s.mirrors.set 5 { Mirror.reset with keyx := true } }

theorem test_meets_MirrorFrames :
    (∀ held, (work (shadowCell held)).objsWf = true ∧ (shadowCell held).sess.role = .shadow ∧
      (shadowCell held).sess.state = .running ∧ (shadowCell held).beam.held = held ∧ (shadowCell held).sess.copies = false ∧
      (work (shadowCell held)).cellsOf (shadowCell held).sessionId = [5] ∧ (shadowCell held).mem.wf = true) ∧
    (∀ held, Taken (work (shadowCell held)) (frame .control 8 0 1 true true [])) ∧
    Taken (work (shadowCell true)) (frame .state 0 1 1 false true []) ∧
    (StampKind.park.cmd = some .park ∧ SessCmd.park.applies .running = true ∧ StampKind.swap ≠ .idr) ∧
    ((frame .control 11 1 1 false true (beBytes 40 (2 ^ 256))).payload.length = 40 ∧
      field (beBytes 40 (2 ^ 256)) 0 8 = (waitKeyx.cell 5).sessionId ∧
      waitKeyx.cellsOf (waitKeyx.cell 5).sessionId = [5] ∧ (waitKeyx.mirrors[5]).keyx = true ∧
      (waitKeyx.cell 5).sess.state = .loading ∧ (waitKeyx.cell 5).outbox = [] ∧ waitKeyx.objsWf = true ∧
      waitKeyx.power.phase = .running ∧ waitKeyx.ring.node = 1) :=
  ⟨by decide +kernel, fun held => taken_work (by cases held <;> decide +kernel), taken_work (by decide +kernel),
    by decide +kernel⟩


/-- What node 0 knows of node 1: its confirmation runs, or it does not; a frame has been heard in it. -/
def peerState (confirming heard : Bool) : State :=
  { leadOne (shadowCell false) with ring := { leadRing with peers := [⟨1, 1, false, confirming, heard, false, false, 0, false, false⟩] } }

/-- A shadow whose oldest unit is an audio packet. -/
def unitCell : Cell :=
  let x := shadowCell false
  { x with str := { x.str with queue := [⟨.audio, 0, 0, 0, false, false, [], 0, true, 0⟩] } }

theorem test_meets_PortsSlotsAndBeacons :
    ((leadOne unitCell).power.phase = .running ∧ (leadOne unitCell).objsWf = true ∧ (leadOne unitCell).onRing = true ∧
      (leadOne unitCell).ring.member = true) ∧
    ((leadOne unitCell).slotAt 8000 = true ∧ (leadOne unitCell).ring.leaving = false ∧
      (leadOne unitCell).ring.east.failed = false) ∧
    ((peerState false false).ring.member = true ∧ (1 : Fin 16).val ≠ (peerState false false).ring.node ∧
      (1 : Fin 16).val ∈ (peerState false false).ring.order ∧ ((peerState false false).ring.peer 1).confirming = false ∧
      (peerState false false).power.phase = .running ∧ (peerState false false).objsWf = true) ∧
    (∀ h, ((peerState true h).ring.peer 1).confirming = true ∧ ((peerState true h).ring.peer 1).heard = h ∧
      (peerState true h).power.phase = .running ∧ (peerState true h).objsWf = true) ∧
    (unitCell.running = true ∧ unitCell.sess.role = .shadow ∧ (unitCell.str.queue.map EUnit.kind) = [.audio]) := by
  decide +kernel

/-- A manager in listening, with no ring heard. -/
def listening : State := { lead with ring := Ring.reset }

/-- The manager of a ring of one node, asked for device 9. -/
def asked (order : List Nat) (j : Option JoinRun) : State := { lead with ring := { leadRing with order := order, join := j } }

theorem test_meets_JoiningAndLeaving :
    (listening.up = true ∧ listening.objsWf = true ∧ listening.power.uplink = true ∧ listening.power.healthy = true ∧
      listening.ring.heardManager = false ∧ listening.ring.node = 0xFF) ∧
    (∀ o ∈ [[0, 1], List.range 16], (asked o none).up = true ∧ (asked o none).objsWf = true ∧ (asked o none).isManager = true ∧
      (asked o none).ring.join = none ∧ (asked o none).ring.order ≠ []) ∧
    ((List.range 15).find? fun k => !([0, 1].contains (k + 1))) = some 1 ∧
    ((List.range 15).find? fun k => !((List.range 16).contains (k + 1))) = none ∧
    (∀ s ∈ [({ outside with ring := { outside.ring with joining := some (1, 0) } } : State)],
      s.up = true ∧ s.objsWf = true ∧ s.ring.joining.isSome = true ∧ s.power.healthy = true ∧ s.onRing = false) ∧
    ((asked [0] (some probing)).up = true ∧ (asked [0] (some probing)).objsWf = true ∧
      (asked [0] (some probing)).ring.join = some probing ∧ probing.probed = true ∧ (asked [0] (some probing)).ring.order ≠ []) ∧
    (lead.up = true ∧ lead.objsWf = true ∧ lead.isManager = true ∧ 1 ∈ lead.ring.order ∧ 1 ≠ lead.ring.node ∧
      lead.ring.node ∈ lead.ring.order) ∧
    (lead.ring.standby ∈ lead.ring.order ∧ lead.ring.standby < 16 ∧ lead.ring.standby ≠ lead.ring.node ∧ lead.onRing = true ∧
      lead.ring.east.failed = false ∧ lead.ring.west.failed = false) := by decide +kernel

/-- The ring at epoch 5, with a lease state, seen by node n; its cell's beam has not begun a line. -/
def epochState (n lease : Nat) : State :=
  let s := leadOne { hostCell with beam := { hostCell.beam with started := 0 } }
  { s with ring := { leadRing with node := n, epoch := 5, lease := lease } }

theorem test_meets_LeasesAndEpochs :
    (∀ l ∈ [1, 3], (epochState 0 l).up = true ∧ (epochState 0 l).ring.lease = l) ∧
    (4 < (epochState 0 1).ring.epoch ∧ (epochState 0 1).ring.epoch ≤ 5 ∧ (epochState 2 1).leaseServed = false ∧
      (epochState 2 1).up = true ∧ (epochState 0 1).isManager = true) ∧
    ((epochState 1 1).up = true ∧ (epochState 1 1).leaseServed = true ∧ (epochState 1 1).isManager = false ∧
      ((epochState 1 1).ring.peer (epochState 1 1).ring.manager).lost = false) ∧
    (((epochState 0 1).cell 5).running = true ∧ ((epochState 0 1).cell 5).beam.started = 0 ∧
      ((epochState 0 1).cell 5).str.epoch ≠ (epochState 0 1).ring.epoch) := by decide +kernel

/-- That device with a mirror state and a mirror of cell 5. -/
def mirrorOf (x : Cell) (st : Nat) (m : Mirror) : State :=
  let s := (leadOne x).setObj (cellObj 5 0x11) 1 st
  { s with mirrors := s.mirrors.set 5 m }

theorem test_meets_MirrorsAndMigrations :
    (∀ st ∈ [0, 1], (mirrorOf hostCell st Mirror.reset).up = true ∧ (mirrorOf hostCell st Mirror.reset).objsWf = true ∧
      ((mirrorOf hostCell st Mirror.reset).cell 5).outbox = [] ∧ (mirrorOf hostCell st Mirror.reset).mirrorState 5 = st) ∧
    (hostCell.running = true ∧ hostCell.sess.state = .running ∧ hostCell.sess.role = .primary ∧
      (mirrorOf hostCell 1 Mirror.reset).fullOn 5 = false) ∧
    newPartnerFault leadRing.order leadRing.node 1 hostCell.sess.ticket (bareView 0) = none ∧
    newPartnerFault leadRing.order leadRing.node 0 hostCell.sess.ticket (bareView 0) = some (0x30, 0) ∧
    (∀ m ∈ [({ Mirror.reset with phase := .hold, record := some (7, [1]) } : Mirror)],
      (shadowCell true).sess.role = .shadow ∧ (shadowCell true).beam.held = true ∧ (shadowCell true).outbox = [] ∧
        ((mirrorOf (shadowCell true) 3 m).mirrors[5]).phase = .hold ∧
        ((mirrorOf (shadowCell true) 3 m).mirrors[5]).record.any (fun q => q.2 == [1]) = true) ∧
    (∀ x ∈ [stampCell (doneCell true true) .migrating none, Cell.withSess (doneCell true true) fun q => { q with role := .shadow }],
      ∀ m ∈ [({ Mirror.reset with swap := some 7, takes := some (5, 1, 2) } : Mirror)],
      x.outbox = [] ∧ (mirrorOf x 1 m).up = true ∧ ((mirrorOf x 1 m).mirrors[5]).swap = some 7 ∧ (mirrorOf x 1 m).atBoundary 5 = true ∧
        ((mirrorOf x 1 m).dbg[5]).waiting = [] ∧ ((mirrorOf x 1 m).mirrors[5]).takes = some (5, 1, 2) ∧
        (x.sess.state = .migrating ∨ x.sess.state = .running ∧ x.sess.role = .shadow)) ∧
    ((stampCell runCell .migrating none).sess.state = .migrating ∧
      (mirrorOf (stampCell runCell .migrating none) 3 Mirror.reset).mirrorState 5 ≠ 1) ∧
    ((waitKeyx.mirrors[5]).keyx = true ∧ (waitKeyx.cell 5).sess.state = .loading ∧ (waitKeyx.cell 5).outbox = [] ∧
      waitKeyx.up = true ∧ waitKeyx.objsWf = true) := by decide +kernel


/-! ## Dictionary -/

/-- Channel 1 of an operator, open or not. -/
def opChannel (isOpen : Bool) : Channel :=
  ⟨1, false, ⟨false, 9, 9⟩, 1, 0, List.replicate 32 0, isOpen, [], [], [], 0, 0, [], [], 0, []⟩

/-- That device with a channel, and a dictionary service as given. -/
def dictState (c : Channel) (f : Dict → Dict) : State := { lead with dict := f { lead.dict with channels := [c], nextId := 2 } }

/-- A record on channel 1, RSEQ 1, with a message. -/
def record (m : DictMsg) : DictRec := ⟨1, 1, true, m⟩
def askRead (i j : Nat) : DictMsg := ⟨1, 0xFF, 7, i, j, 0, 0, []⟩
def askWrite (i j : Nat) (b : Bytes) : DictMsg := ⟨2, 0xFF, 7, i, j, 0, 0, b⟩

/-- What `Heard`, `NewTid` and `Asks` ask, as one condition that can be computed. -/
def heardB (s : State) (c : Channel) (r : DictRec) : Bool :=
  s.channel c.id == some c && c.isOpen && r.channel == c.id && r.tagOk && c.takes r.rseq && decide (r.rseq + 1 < 2 ^ 32) &&
    decide (c.txSeq + 64 < 2 ^ 32) && !(s.mustWait r.msg) && decide (r.msg.data.length ≤ 1024) && r.msg.node == 0xFF &&
    decide (r.msg.flags < 2)

theorem heard_of {s : State} {c : Channel} {r : DictRec} (h : heardB s c r = true) : Heard s c r := by
  simp only [heardB, Bool.and_eq_true, beq_iff_eq, decide_eq_true_eq, Bool.not_eq_true'] at h
  obtain ⟨⟨⟨⟨⟨⟨⟨⟨⟨⟨h1, h2⟩, h3⟩, h4⟩, h5⟩, h6⟩, h7⟩, h8⟩, h9⟩, h10⟩, h11⟩ := h
  exact ⟨h1, h2, h3, h4, h5, h6, h7, h8, h9, h10, h11⟩

def newTidB (s : State) (c : Channel) (tid : Nat) : Bool :=
  (c.replies.find? fun q => q.1 = tid).isNone && !(s.dict.forwards.any fun f => f.channel == c.id && f.tid == tid)

theorem newTid_of {s : State} {c : Channel} {tid : Nat} (h : newTidB s c tid = true) : NewTid s c tid := by
  simp only [newTidB, Bool.and_eq_true, Option.isNone_iff_eq_none, Bool.not_eq_true'] at h
  exact ⟨h.1, h.2⟩

theorem asks_of {s : State} {c : Channel} {tid : Nat} (h : (s.channel c.id == some c && c.isOpen &&
    decide (c.txSeq + 64 < 2 ^ 32) && !s.noTender && newTidB s c tid) = true) : Asks s c tid := by
  simp only [Bool.and_eq_true, beq_iff_eq, decide_eq_true_eq, Bool.not_eq_true'] at h
  obtain ⟨⟨⟨⟨h1, h2⟩, h3⟩, h4⟩, h5⟩ := h
  exact ⟨h1, h2, h3, h4, newTid_of h5⟩

/-- A HELLO for an operator, whose client key is all zero; the manager has a registered one, or none. -/
def helloBody : Bytes := List.replicate 32 0 ++ [1] ++ List.replicate 1611 0
def helloState (full : Bool) (keys : List RegKey) : State :=
  let s := dictState (opChannel true) fun d =>
    { d with channels := if full then List.replicate 16 (opChannel true) else d.channels }
  { s with keeper := { s.keeper with registry := keys } }

/-- A notification sent once on the open channel, after a number of tries. -/
def noteState (tries : Nat) : State := dictState { opChannel true with nseq := 1, sent := [⟨1, 1, tries⟩] } fun d =>
  { d with queues := [⟨1, 0, [⟨1, 3, [0, 0, 0, 0, 0, 0, 0, 0, 0, 0, 0, 0], []⟩], 0⟩], nextNote := 2 }

/-- Key 0 of an operator, in force for ever. -/
def opKey : RegKey := ⟨List.replicate 32 0, 1, 0, 0, 2 ^ 63, []⟩

theorem test_meets_ChannelsAndNotifications :
    (∀ f ∈ [true, false], ∀ ks ∈ [[opKey], []], (helloState f ks).objsWf = true ∧ (helloState f ks).channels = true ∧
      (helloState f ks).keeper.restarting = false ∧ (helloState f ks).channelsFull (field helloBody 32 1) = f ∧
      (helloState f ks).helloGood false helloBody = decide (ks = [opKey])) ∧
    helloBody.length = 1644 := ⟨by decide +kernel, by decide +kernel⟩

theorem test_meets_ChannelsAndNotifications_open :
    (∀ o, ((dictState (opChannel o) id).channel (opChannel o).id = some (opChannel o) ∧ (opChannel o).isOpen = o ∧
      (dictState (opChannel o) id).objsWf = true ∧ (dictState (opChannel o) id).keeper.restarting = false ∧
      (dictState (opChannel o) id).channelsFull (opChannel o).role = false)) ∧
    ((dictState (opChannel false) id).finishGood (opChannel false) [] = false ∧ (opChannel true).takes 64 = true ∧
      (∀ x ∈ (dictState (opChannel true) id).dict.xfers, x.down = false) ∧ (opChannel false).txSeq = 0) ∧
    (∀ n ∈ [9, 10], ((noteState n).channel 1).map Channel.sent = some [⟨1, 1, n⟩] ∧ (noteState n).objsWf = true ∧
      ((noteState n).channel 1).map Channel.nseq = some 1 ∧ ((noteState n).channel 1).map Channel.isOpen = some true ∧
      1 < (noteState n).dict.nextNote ∧ ((noteState n).noteOf 1).isSome = true ∧
      ((noteState n).channel 1).map Channel.txSeq = some 0) :=
  ⟨by decide +kernel, by decide +kernel, by decide +kernel⟩

/-- NOTIFY_ACK of that notification. -/
theorem test_meets_ChannelsAndNotifications_ack :
    Heard (noteState 9) { opChannel true with nseq := 1, sent := [⟨1, 1, 9⟩] } (record ⟨0x11, 0xFF, 0, 0, 0, 0, 1, []⟩) :=
  heard_of (by decide +kernel)

/-- A reply kept for TID 7. -/
def keptChannel : Channel := { opChannel true with replies := [(7, ⟨3, 0, 7, 0x1000, 4, 0, 0, []⟩)] }

theorem test_meets_DictionaryRequests :
    (∀ m ∈ [askRead 0x1000 4, askRead 0x1000 0xFE, askWrite 0x1000 4 [], askWrite 0x1100 3 [0], askWrite 0x1100 3 [0, 4],
        askWrite 0x1100 3 [0, 5]], heardB (dictState (opChannel true) id) (opChannel true) (record m) = true ∧
        newTidB (dictState (opChannel true) id) (opChannel true) m.tid = true) ∧
    (∀ m ∈ [askRead 0x1000 4, askWrite 0x1100 3 [0, 5]], heardB (dictState keptChannel id) keptChannel (record m) = true ∧
      (keptChannel.replies.find? fun p => p.1 = m.tid).isSome = true) ∧
    (dictState (opChannel true) id).objsWf = true ∧
    (dictState (opChannel true) id).accepted 1 1 false = none ∧ (dictState (opChannel true) id).accepted 2 1 true = none ∧
    (dictState (opChannel true) id).accessError (opChannel true).client 0x1000 4 true ≠ 0 ∧
    (∀ w, (dictState (opChannel true) id).accessError (opChannel true).client 0x1100 3 w = 0) ∧
    (dictState (opChannel true) id).downloading 0x1100 3 = false ∧
    (0x1100, 3) ∈ storedObjects ∧ ((objDesc 0x1100 3).map fun d => (decide (d.typ ≠ .domain), d.size)) = some (true, 2) ∧
    objAccept 0x1100 3 [0] = none ∧ objAccept 0x1100 3 [0, 4] = none ∧ objAccept 0x1100 3 [0, 5] = some 5 ∧
    objAccept 0x1100 3 (beBytes 2 3600) = some 3600 ∧ objAccept 0x1100 3 (beBytes 2 3601) = none := by decide +kernel

/-- A download of the lifecycle order document object, and an upload of 1,500 bytes, all sent. -/
def downXfer (unacked : Nat) : Xfer := ⟨(opChannel true).client, 7, 0x5002, 1, true, 10, 4, 0, unacked, [1, 2, 3, 4]⟩
def upXfer : Xfer := ⟨(opChannel true).client, 7, 0x5020, 2, false, 1500, 1500, 0, 0, List.replicate 1500 0⟩
def xferState (x : Option Xfer) : State := dictState (opChannel true) fun d => { d with xfers := x.toList }

/-- A channel of the SERVICE role, which alone writes an update image. -/
def svcChannel : Channel := { opChannel true with service := true, role := 3 }
def svcState : State := dictState svcChannel id

def segInit (k i j n : Nat) : DictMsg := ⟨k, 0xFF, 7, i, j, 0, n, []⟩
def segData (i j off : Nat) (b : Bytes) : DictMsg := ⟨8, 0xFF, 7, i, j, 0, off, b⟩

theorem test_meets_DictionaryTransfers :
    (∀ m ∈ [segInit 6 0x5002 1 10, segInit 7 0x5020 2 0, segData 0x5002 1 0 [1]],
      heardB (xferState none) (opChannel true) (record m) = true ∧ newTidB (xferState none) (opChannel true) 7 = true ∧
      (xferState none).downloading m.index m.sub = false ∧ (xferState none).xferOf (opChannel true).client m = none ∧
      (xferState none).accessError (opChannel true).client m.index m.sub (decide (m.mtype = 6 ∨ m.mtype = 8)) = 0 ∧
      ((objDesc m.index m.sub).any fun d => d.typ == .domain) = true ∧ sessionCell m.index = none) ∧
    (heardB svcState svcChannel (record (segInit 6 0x8000 1 10)) = true ∧ newTidB svcState svcChannel 7 = true ∧
      svcState.downloading 0x8000 1 = false ∧ svcState.accessError svcChannel.client 0x8000 1 true = 0 ∧
      ((objDesc 0x8000 1).any fun d => d.typ == .domain) = true ∧ sessionCell 0x8000 = none) ∧
    (∀ k ∈ [6, 7], ∀ m ∈ [segData 0x5002 1 3 [5], segData 0x5002 1 4 [5], segInit 0x0A 0x5002 1 0],
      heardB (xferState (some (downXfer k))) (opChannel true) (record m) = true ∧
        (xferState (some (downXfer k))).xferOf (opChannel true).client m = some (downXfer k) ∧
        (downXfer k).client = (opChannel true).client ∧ (downXfer k).down = true ∧ (downXfer k).streams = false ∧
        (downXfer k).next + 1 < (downXfer k).total) ∧
    (∀ n ∈ [1024, 1500], heardB (xferState (some upXfer)) (opChannel true) (record (segInit 9 0x5020 2 n)) = true ∧
      (xferState (some upXfer)).xferOf (opChannel true).client (segInit 9 0x5020 2 n) = some upXfer ∧
      upXfer.down = false ∧ upXfer.data.length = upXfer.total ∧ upXfer.acked < n ∧ n ≤ upXfer.next) ∧
    ((xferState (some upXfer)).xferBy 1 7 = some upXfer ∧ upXfer.acked < upXfer.total ∧ upXfer.streams = false ∧
      upXfer.client = (opChannel true).client) ∧
    (∀ f ∈ [(⟨1, 7, 1⟩ : Forward)], ((dictState (opChannel true) fun d => { d with forwards := [f] }).dict.forwards.find?
      fun f => f.channel == 1 && f.tid == 7) = some f) := by decide +kernel

/-- No cell has a session, or one has. -/
def askState (x : Cell) : State := (dictState (opChannel true) id).setCell 5 x

theorem test_meets_NamedAccesses :
    ((∀ d, ((askState Cell.reset).cell d).sess.state = .free) ∧ ((askState runCell).cell 5).sess.state ≠ .free ∧
      (askState runCell).objsWf = true ∧ objAccept 0x2000 1 (beBytes 1 1) = some 1 ∧ (askState runCell).obj 0x2000 1 ≠ 1) ∧
    (∀ q ∈ [(0x2000, 1), (0x2000, 2), (0x2000, 5), (0x6001, 4), (0x5020, 1)],
      (askState runCell).accessError (opChannel true).client q.1 q.2 true = 0 ∧ (askState runCell).downloading q.1 q.2 = false) ∧
    ((askState runCell).isManager = true ∧ (askState runCell).ring.node = 0 ∧ (askState runCell).ring.order ≠ [] ∧
      (askState runCell).ring.opposite 1 = true ∧ (askState runCell).ring.opposite 2 = false) ∧
    ((askState runCell).keeper.restarting = false ∧
      (askState runCell).accessError (opChannel true).client 0x5020 2 false = 0 ∧
      (askState runCell).downloading 0x5020 2 = false ∧
      (askState runCell).xferOf (opChannel true).client ⟨7, 0xFF, 7, 0x5020, 2, 0, 0, []⟩ = none) ∧
    ((work runCell).onRing = true ∧ (work runCell).ring.east.failed = false ∧ (work runCell).ring.west.failed = false ∧
      0 ∈ (work runCell).ring.order ∧ 0 ≠ (work runCell).ring.node ∧ (work runCell).noTender = false ∧
      (work runCell).keeper.restarting = false ∧ (work runCell).objsWf = true) ∧
    (parseMsg (List.replicate 12 0 ++ [1, 1, 0, 7, 0x10, 0, 4, 0] ++ List.replicate 8 0)).map DictMsg.mtype = some 1 := by
  decide +kernel

theorem test_meets_NamedAccesses_asks : Asks (askState runCell) (opChannel true) 7 ∧ Asks (askState Cell.reset) (opChannel true) 7 ∧
    Taken (work runCell) (frame .dict 0 1 1 false true (List.replicate 12 0 ++ [1, 1, 0, 7, 0x10, 0, 4, 0] ++ List.replicate 8 0)) :=
  ⟨asks_of (by decide +kernel), asks_of (by decide +kernel), taken_work (by decide +kernel)⟩


/-! ## Keeper, metering, update -/

/-- A device in a lifecycle state, with a registered key. -/
def keptState (life : Nat) : State := { lead with keeper := { lead.keeper with lifecycle := life, registry := [opKey] } }

theorem test_meets_KeeperDocuments :
    (∀ l < 4, (keptState l).serves = true ∧ (keptState l).keeper.lifecycle = l ∧
      ((keptState l).keeper.registry.find? fun q => beNat q.keyid = beNat opKey.keyid) = some opKey) ∧
    field [0, 1] 1 1 ≠ 2 ∧ field [0, 2] 1 1 = 2 := by decide +kernel

/-- The slots of an image kind in two states. -/
def slotState (k : ImageKind) (act other : SlotState) (h : Handover) : State :=
  let s := lead.setSlots k ⟨true, { Slot.empty with state := other }, { Slot.empty with state := act }, 0, false⟩
  { s with keeper := { s.keeper with handover := h } }

/-- A set of cell 5 is latched, and Keeper restarts or not. -/
def latchedState (x : Cell) (restarting : Bool) : State :=
  let s := leadOne x
  { s with
    meters := s.meters.set 5 { Meter.reset with latched := [⟨0, Counters.zero, ProofAcc.zero, { ProofAcc.zero with frames := 1 }, 0⟩] }
    keeper := { s.keeper with restarting := restarting } }

theorem test_meets_MeteringAndUpdate :
    (∀ x ∈ [runCell, stampCell runCell .ended none, stampCell runCell .parked none], ∀ r, (latchedState x r).serves = true ∧
      (latchedState x r).objsWf = true ∧ (latchedState x r).keeper.restarting = r ∧ (latchedState x r).dict.held = [] ∧
      (latchedState x r).net.orders = [] ∧ (∀ c, ((latchedState x r).cell c).sess.view = none) ∧
      ((latchedState x r).meters[5]).latched.length = 1) ∧
    (((latchedState runCell true).cell 5).running = true ∧ ((latchedState runCell true).cell 6).sess.state = .free ∧
      (stampCell runCell .parked none).sess.state = .parked) ∧
    (∀ k, ((slotState k .good .valid .none).slots k).other.state = .valid ∧ (slotState k .good .valid .none).serves = true ∧
      (slotState k .good .valid .none).objsWf = true ∧
      (∀ o ∈ (otherFirmware k).toList, ((slotState k .good .valid .none).slots o).act.state ≠ .trial) ∧
      ((slotState k .trial .good .none).slots k).act.state = .trial) ∧
    (∀ h ∈ [Handover.preparing, .opened, .fallback], (slotState .tfw .trial .good h).keeper.handover = h ∧
      (slotState .tfw .trial .good h).serves = true ∧ (slotState .tfw .trial .good h).objsWf = true) :=
  ⟨by decide +kernel, by decide +kernel, fun k => by cases k <;> decide +kernel, by decide +kernel⟩

/-! ## Debug -/

/-- A device of a lifecycle state whose cell 5 is as given, with the debug domain on and a frame outstanding or not. -/
def debugState (x : Cell) (p : Option DbgPending) (w : List DbgOp) : State :=
  let s := leadOne x
  { s with
    port := { s.port with powered := true, pending := p, busy := true }
    dbg := s.dbg.set 5 { CellDbg.reset with level := 2, waiting := w, trace := [List.replicate 16 0] } }

def halted (x : Cell) (h : Bool) : Cell := Cell.withCpu x fun p => { p with dbg := { p.dbg with halted := h } }
def asks (x : Cell) : Cell := Cell.withCpu x fun p => { p with dbg := { p.dbg with haltReq := true } }
def stepped (x : Cell) : Cell := Cell.withCpu x fun p => { p with dbg := { p.dbg with stepping := true, stepped := true } }

/-- A read of PORT_STATUS is outstanding, its result ready or not. -/
def outstanding (a : Option (Nat × Word)) : Option DbgPending := some ⟨0xFF, 1, 0, 0, a⟩

theorem test_meets_DebugPortFrames :
    (∀ a ∈ [none, some (1, 5), some (4, 6)], (debugState runCell (outstanding a) []).inReset = false ∧
      (debugState runCell (outstanding a) []).port.pending = some ⟨0xFF, 1, 0, 0, a⟩ ∧ targetCode .port = 0xFF ∧
      targetCode (.cell 5) ≠ 0xFF ∧ (2 : Nat) ≠ 1) ∧
    ((debugState runCell none []).inReset = false ∧ (debugState runCell none []).port.pending = none ∧
      (debugState runCell none []).port.busy = true ∧ (debugState runCell none []).port.powered = true ∧
      1 ≤ (debugState runCell none []).effLevel 5 ∧ ((debugState runCell none []).dbg[5]).waiting = [] ∧
      ((debugState runCell none []).dbg[5]).trace = [List.replicate 16 0]) ∧
    (1 : Word).getLsbD 0 = true ∧ ¬ (0x012C < (0x012C : Word).toNat) ∧ 0x012C < (0x0130 : Word).toNat ∧
    (∀ c, ((debugState Cell.reset none []).cell c).sess.state = .free) := by decide +kernel

theorem test_debugged (h : Bool) : Debugged (debugState (halted runCell h) none []) 5 := by
  constructor <;> (cases h <;> decide +kernel)

theorem test_meets_DebugOperations :
    (∀ h, (halted runCell h).cpu.dbg.halted = h) ∧
    (dbgPlace (0x10000000 : Word).toNat = .mem .wram 0 ∧ (0x10000000 : Word).toNat % 4 = 0 ∧
      (halted runCell true).fenced .wram 0 4 = false) ∧
    ((asks runCell).running = true ∧ (asks runCell).beam.inPorch = false ∧ (asks runCell).cpu.dbg.halted = false ∧
      (asks runCell).cpu.dbg.haltReq = true ∧ (debugState (asks runCell) (outstanding none) [⟨0, 3, 0, 0⟩]).effLevel 5 = 2 ∧
      ((debugState (asks runCell) (outstanding none) [⟨0, 3, 0, 0⟩]).dbg[5]).waiting = [⟨0, 3, 0, 0⟩] ∧
      (debugState (asks runCell) (outstanding none) [⟨0, 3, 0, 0⟩]).port.pending.isSome = true) ∧
    ((stepped runCell).beam.inPorch = false ∧ (stepped runCell).cpu.dbg.stepping = true ∧
      (stepped runCell).cpu.dbg.stepped = true ∧ ((debugState (stepped runCell) none []).dbg[5]).waiting = []) ∧
    ((debugState runCell none []).up = true ∧ ((debugState runCell none []).cell 6).sess.state = .free) ∧
    (let s : State := { debugState runCell none [] with dict := (dictState (opChannel true) id).dict }
     s.channel (opChannel true).id = some (opChannel true) ∧ 1 ≤ (opChannel true).id ∧ (opChannel true).isOpen = true ∧
      s.accessError (opChannel true).client (0x7000 + 5) 2 true = 0 ∧ (s.dbg[5]).waiting = []) ∧
    ([1, 0, 0xC0, 0, 1, 0, 0, 0, 0, 0] : Bytes).length = 10 ∧ field [1, 0, 0xC0, 0, 1, 0, 0, 0, 0, 0] 0 1 = 1 ∧
    field [1, 0, 0xC0, 0, 1, 0, 0, 0, 0, 0] 2 4 = 0xC0000100 := by decide +kernel

/-- The same cells are behind their stores. -/
theorem test_meets_DebugOperations_flush : (asks runCell).flush = asks runCell ∧ (asks runCell).outbox = [] ∧
    (stepped runCell).flush = stepped runCell ∧ (stepped runCell).outbox = [] :=
  ⟨(flush_of (by decide)).1, by decide, (flush_of (by decide)).1, by decide⟩

/-! ## Power, resets, supply and pins -/

/-- A device with ridge 1 powering up, locked or not. -/
def ridgeState (x : Cell) (locked : Bool) : State :=
  let s := leadOne x
  { s with ridges := s.ridges.set 1 ⟨false, false, locked⟩, power := { s.power with current := some 1 } }

/-- A worker outside the ring in a power state, with a transition in progress or not. -/
def powerIn (p : PowerState) (m : Option PowerState) : State :=
  { dev with power := { dev.power with state := p, moving := m } }

theorem test_meets_RidgesAndPowerStates :
    (∀ l, (ridgeState Cell.reset l).power.current = some 1 ∧ ((ridgeState Cell.reset l).ridges[1]).locked = l ∧
      (ridgeState Cell.reset l).net.orders = [] ∧ (∀ q : RidgeId, q ≠ 1 → ((ridgeState Cell.reset l).ridges[q]).wanted = false) ∧
      (∀ c, ((ridgeState Cell.reset l).cell c).sess.view = none) ∧
      (∀ c, ridgeOf c = 1 → ((ridgeState Cell.reset l).cell c).sess.state = .free)) ∧
    (((ridgeState runCell true).ridges[1]).locked = true ∧ (ridgeState runCell true).ridgeLive 1 = true) ∧
    ((powerIn .idle none).up = true ∧ (powerIn .idle none).mayPark = true ∧ (powerIn .parked none).up = true ∧
      (powerIn .idle (some .parked)).power.queued = none ∧ (powerIn .idle (some .parked)).power.waitDesc = []) := by
  decide +kernel

theorem test_meets_RidgesAndPowerStates_wf : ∀ c, ((ridgeState Cell.reset false).cell c).wf = true := by decide +kernel

/-- A device in a phase, in reset of a kind. -/
def phaseIn (p : Phase) (kind : Nat) : State := { dev with power := { dev.power with phase := p, kind := kind } }
def dimms (rating : Nat) : DdrReport := ⟨2, true, true, 16, rating, true⟩

theorem test_meets_ResetsAndStartUp :
    ((phaseIn .running 0).inReset = false ∧ (phaseIn .running 0).up = true ∧ (phaseIn .noMemory 0).power.phase = .noMemory) ∧
    (∀ k < 9, (phaseIn .reset k).power.phase = .reset ∧ (phaseIn .reset k).power.kind = k) ∧
    ((phaseIn .starting 0).power.phase = .starting ∧ (phaseIn .starting 0).objsWf = true ∧
      (phaseIn .training 0).power.phase = .training) ∧
    ddrSpeed (dimms 4799) = none ∧ ddrSpeed (dimms 4800) = some 4800 ∧ ddrSpeed { dimms 6000 with perChannel := 1 } = some 5600 ∧
    (659 < 660 ∧ ¬ (660 < 660)) := by decide +kernel

/-- A device in a brown-out hold, with pin 32 in function ANALOG. -/
def supplyState (hold rising twin : Bool) : State :=
  let s := lead.setObj 0x2120 1 7
  { s with power := { s.power with hold := hold, rising := rising, twin := twin }, pins := { s.pins with smbAlert := true } }

theorem test_meets_SupplyAndPins :
    (∀ h r w, (supplyState h r w).objsWf = true ∧ (supplyState h r w).inReset = false ∧ (supplyState h r w).up = true ∧
      (supplyState h r w).power.hold = h ∧ (supplyState h r w).power.rising = r ∧ (supplyState h r w).net.orders = [] ∧
      (∀ c, ((supplyState h r w).cell c).sess.view = none) ∧ (∀ q : RidgeId, ((supplyState h r w).ridges[q]).wanted = false) ∧
      (supplyState h r w).power.uplink = true ∧ (supplyState h r w).power.twin = w) ∧
    699 < 700 ∧ hottest [1249, 300] = some 1249 ∧ (1249 : Int) < 1250 ∧ gpioAllowed 0 0 = true ∧ gpioAllowed 0 9 = false ∧
    gpioOptions 0 0 = some 0 ∧
    ((supplyState false false false).gpioFn 32 = 7 ∧ (supplyState false false false).smbOn = true ∧
      (supplyState false false false).pins.smbAlert = true ∧ 7 < (8 : Byte).toNat) := by decide +kernel

theorem test_meets_ThermalShutdown :
    hottest [300, 1250, -50] = some 1250 ∧ (phaseIn .running 0).inReset = false ∧ (1250 : Int) ≤ 1250 ∧
    (phaseIn .reset 3).power.phase = .reset ∧ (phaseIn .reset 3).power.kind = 3 ∧ hottest [900] = some 900 ∧
    (∃ k ∈ ([(phaseIn .reset 3).hotLevel - 50] : List Int), (phaseIn .reset 3).hotLevel - 50 ≤ k) ∧
    (∀ k ∈ ([200, 899] : List Int), k < (phaseIn .reset 3).hotLevel - 50) ∧
    ({ (phaseIn .reset 3).power with pwrOk := true, resetN := true } : Power).refclk = true := by decide +kernel


/-! ## Commands that are not well formed are refused -/

def badFrame : RingFrame := frame .control 16 0 1 true true []
def longFrame (cls : RingClass) (n : Nat) : RingFrame := frame cls 0 0 1 true true (List.replicate n 0)
def badMsg : DictRec := record ⟨256, 0xFF, 7, 0, 0, 0, 0, []⟩

/-- A frame with a type of 16, of another class, of another type, with a field too large, with a payload too long. -/
theorem test_wellFormed_frames :
    (∀ i ∈ ([.syncFrame .east badFrame, .syncFrame .east (frame .beacon 0 0 1 true true []), .beacon .east (frame .sync 0 0 1 true true []),
        .streamFrame .east (frame .dict 0 0 1 true true []), .dictFrame .east (frame .state 0 0 1 true true []),
        .stateFrame .east (frame .dict 0 0 1 true true []), .topo .east (frame .control 1 0 1 true true []),
        .probe .east (frame .control 0 0 1 true true []), .probeReply .east (frame .control 0 0 1 true true []) 0,
        .join .east (frame .control 0 0 1 true true []), .leave .east (frame .control 0 0 1 true true []),
        .promoted .east (frame .control 0 0 1 true true []), .epoch .east (frame .control 0 0 1 true true []),
        .active .east (frame .control 0 0 1 true true []), .resync .east (frame .control 0 0 1 true true []),
        .switch .east (frame .control 0 0 1 true true []), .stamp .east (frame .control 0 0 1 true true []),
        .keyx .east (frame .control 0 0 1 true true []), .role .east (frame .control 0 0 1 true true []),
        .syncFrame .east (frame .sync 0 16 1 true true []), .syncFrame .east (frame .sync 0 0 16 true true []),
        .syncFrame .east { frame .sync 0 0 1 true true [] with src := 16 }, .syncFrame .east { frame .sync 0 0 1 true true [] with topo := 256 },
        .syncFrame .east { frame .sync 0 0 1 true true [] with seq := 65536 }, .syncFrame .east (longFrame .sync 29),
        .beacon .east (longFrame .beacon 301), .streamFrame .east (longFrame .stream 1523),
        .topo .east (longFrame .control 301)] : List Instr), i.wellFormed = false) ∧
    (longFrame .input 289).wellFormed = false ∧ (longFrame .dict 4097).wellFormed = false ∧
    (longFrame .state 4161).wellFormed = false ∧ (Instr.syncFrame .east (longFrame .sync 28)).wellFormed = true := by
  decide +kernel

theorem test_wellFormed_messages :
    (∀ i ∈ ([.read badMsg, .read (record (askWrite 0 0 [])), .write (record (askRead 0 0)), .segInitDl (record (askRead 0 0)),
        .segInitUl (record (askRead 0 0)), .segData (record (askRead 0 0)), .segAck (record (askRead 0 0)),
        .segAbort (record (askRead 0 0)), .notifyAck (record (askRead 0 0)), .read (record (askRead 65536 0)),
        .read (record (askRead 0 256)), .read (record { askRead 0 0 with node := 256 }), .read (record { askRead 0 0 with tid := 65536 }),
        .read (record { askRead 0 0 with flags := 256 }), .read (record { askRead 0 0 with aux := 2 ^ 32 }),
        .temperatureReading [250]] : List Instr), i.wellFormed = false) ∧
    (Instr.uplinkFrameReceive 0 (List.replicate 65536 0) true).wellFormed = false ∧
    (Instr.read (record (askRead 0x1000 4))).wellFormed = true := by
  refine ⟨by decide +kernel, ?_, by decide +kernel⟩
  simp only [Instr.wellFormed, List.length_replicate]
  decide

theorem test_wellFormed_instructions :
    (∀ i ∈ ([.aluInstruction 5 (.reg .slt 1 2 3) true, .aluInstruction 5 (.imm .ori 1 2 3) true, .aluInstruction 5 (.auipc 1 2) true,
        .load 5 .lb 1 2 0 true, .store 5 .sb 1 2 0 true, .branch 5 .blt 1 2 4 true, .branch 5 .beq 1 2 3 false,
        .jalJalr 5 (.jal 1 3) false] : List Instr), i.wellFormed = false) ∧
    (∀ i ∈ ([.aluInstruction 5 (.reg .add 1 2 3) true, .load 5 .lw 1 2 0 true, .branch 5 .blt 1 2 4 false, .jalJalr 5 (.jalr 1 2 3) false] :
      List Instr), i.wellFormed = true) := by decide +kernel

/-- The table gives no row bits. -/
theorem test_decode : decodeTableWord 32 0x13 = none ∧ State.reset.withFetchWord 32 0x13 = State.reset := ⟨rfl, rfl⟩

/-! ## Single steps, with the results that the rules give -/

/-- What a command leaves, when it answers a next state. -/
def after {α : Type} (i : Instr) (s : State) (f : State → α) : Option α := match exec i s with
  | .next t => some (f t)
  | _ => none

/-- x1 = −1, x2 = 2^31, x3 = 0x10000001. -/
def numCell : Cell := Cell.withCpu runCell fun p => { p with x := ((p.x.set 1 0xFFFFFFFF).set 2 0x80000000).set 3 0x10000001, pc := 0x100 }

theorem test_add_wraps : after (.aluInstruction 5 (.imm .addi 4 1 1) false) (one numCell)
    (fun t => ((t.cell 5).x 4, (t.cell 5).cpu.pc, (t.cell 5).beam.fpos)) = some (0, 0x104, 11) := by decide +kernel

theorem test_x0_stays : after (.aluInstruction 5 (.imm .addi 0 1 0) true) (one numCell)
    (fun t => ((t.cell 5).x 0, (t.cell 5).cpu.pc)) = some (0, 0x102) := by decide +kernel

theorem test_mulh_signed : after (.mul 5 .mulh 4 1 2) (one numCell) (fun t => (t.cell 5).x 4) = some 0 := by decide +kernel

theorem test_mulhsu : after (.mul 5 .mulhsu 4 1 2) (one numCell) (fun t => (t.cell 5).x 4) = some 0xFFFFFFFF := by decide +kernel

theorem test_div_by_zero : after (.div 5 .div 4 2 0) (one numCell) (fun t => (t.cell 5).x 4) = some 0xFFFFFFFF := by
  decide +kernel

theorem test_rem_overflow : after (.div 5 .rem 4 2 1) (one numCell) (fun t => (t.cell 5).x 4) = some 0 := by decide +kernel

theorem test_misaligned_load : after (.load 5 .lw 4 3 0 false) (one numCell)
    (fun t => ((t.cell 5).cpu.mcause, (t.cell 5).cpu.mtval, (t.cell 5).cpu.mepc)) = some (4, 0x10000001, 0x100) := by decide +kernel

theorem test_lb_sign : after (.load 5 .lb 4 3 0 false)
    (one (numCell.writeMem .wram 1 [0x80])) (fun t => (t.cell 5).x 4) = some 0xFFFFFF80 := by decide +kernel

theorem test_jalr : after (.jalJalr 5 (.jalr 1 3 2) false) (one numCell)
    (fun t => ((t.cell 5).cpu.pc, (t.cell 5).x 1)) = some (0x10000002, 0x104) := by decide +kernel

theorem test_ecall : after (.ecall 5) (one numCell)
    (fun t => ((t.cell 5).cpu.mcause, (t.cell 5).cpu.mepc, (t.cell 5).cpu.mie)) = some (11, 0x100, false) := by decide +kernel

/-- A status bit is cleared by a store of 1 to it. -/
theorem test_status_clears : after (.registerWrite 5 (BitVec.ofNat 16 Reg.SIG_STAT) 1)
    (one (runCell.setReg Reg.SIG_STAT 1)) (fun t => (t.cell 5).reg Reg.SIG_STAT) = some 0 := by decide +kernel

theorem test_smb_revision : after .smbReadRevision (supplyState false false false) (fun t => t.tx) = some [.smb [0xB0]] := by
  decide +kernel

theorem test_reset_command_other : exec (.deviceResetCommand 0x52534555) (phaseIn .running 0) = .next (phaseIn .running 0) := by
  rfl

theorem test_reset_command : after (.deviceResetCommand 0x52534554) (phaseIn .running 0)
    (fun t => (t.power.phase, t.power.kind)) = some (.reset, 6) := by decide +kernel

theorem test_lock_acquires : after (.syncInEdge 16667700 0) { looped .acquire (some 0) with
    house := { (looped .acquire (some 0)).house with good := 7 } } (fun t => t.house.loop) = some .pullin := by decide +kernel

theorem test_brownout : after (.brownoutHoldBegin 699) lead (fun t => (t.power.hold, t.obj 0x2031 6)) = some (true, 1) := by
  decide +kernel

theorem test_read_lifecycle : after (.read (record (askRead 0x1000 7))) (dictState (opChannel true) id)
    (fun t => (t.channel 1).map fun c => c.replies.map fun q => (q.2.mtype, q.2.data)) = some (some [(3, [2])]) := by decide +kernel

end Sys2Proof.Tests
end

