-- ==== Sys2Proof/Proofs/RegisterWrite.lean ====
section
/-! PROOF. Word stores to the register blocks (R8, R10, R37, R78): which registers follow R8 and R10 alone, what a store leaves
unchanged beside its register, and the statement about REGISTER_WRITE. -/

namespace Sys2Proof.Machine

/-! ## A word store to a register -/

/-- Bases of the rows of the register map at which a write does something beside R8 and R10. -/
def ownBehaviour : List Nat :=
  [Reg.RST_CL, Reg.RST_COMMIT, Reg.RST_LCMP, Reg.RST_QCTRL, Reg.RST_QLO, Reg.RST_QHI, Reg.PLN_PCTL, Reg.PLN_P3CTL,
    Reg.PLN_AFFX, Reg.PLN_AFFY, Reg.SPR_CTL, Reg.LNL_CTL, Reg.CMP_BLEND, Reg.CMP_PALDATA, Reg.SCL_CIDX, Reg.SCL_CDATA,
    Reg.BLT_SUBMIT, Reg.BLT_DEAD, Reg.DMA_CHCTL, Reg.DMA_CHPC, Reg.DMA_EVTSET, Reg.TMR_CTL, Reg.TMR_CNT, Reg.TMR_GO,
    Reg.WDG_KEY, Reg.WDG_CFG, Reg.WDG_LOAD, Reg.WDG_FEED, Reg.AUD_SVCTL, Reg.AUD_SVPOS, Reg.AUD_SVSTRM, Reg.AUD_SVVOL,
    Reg.AUD_WVVOL, Reg.AUD_WVCTL, Reg.AUD_PDATA, Reg.AUD_SWAP, Reg.INP_POP, Reg.INP_RPTSEND, Reg.STIM_PORT]

/-- A write at an offset that no register occupies does nothing (R37). -/
theorem Cell.writeReg_vacant (x : Cell) {off : Nat} (v : Word) (p : Nat) (hd : regDesc off = none) :
    x.writeReg off v p = x := by
  simp only [Cell.writeReg, hd]

/-- A register whose row is not listed follows R8 and R10 alone. -/
theorem Cell.writeReg_plain (x : Cell) {off : Nat} {d : RegDesc} (v : Word) (p : Nat) (hd : regDesc off = some d)
    (hb : d.base ∉ ownBehaviour) (hu : off ≠ Reg.RST_UFCOL7) : x.writeReg off v p = x.writePlain d off v := by
  simp only [ownBehaviour, List.mem_cons, List.not_mem_nil, or_false, not_or] at hb
  simp [Cell.writeReg, hd, hb, hu]

theorem Cell.writeReg_lcmp (x : Cell) {d : RegDesc} (v : Word) (p : Nat) (hd : regDesc Reg.RST_LCMP = some d)
    (hb : d.base = Reg.RST_LCMP) : x.writeReg Reg.RST_LCMP v p = (x.writePlain d Reg.RST_LCMP v).lcmpPast p := by
  have hcl : (Reg.RST_LCMP == Reg.RST_CL) = false := by decide
  have hcommit : (Reg.RST_LCMP == Reg.RST_COMMIT) = false := by decide
  have hlcmp : (Reg.RST_LCMP == Reg.RST_LCMP) = true := by decide
  simp only [Cell.writeReg, hd, hb, hcl, hcommit, hlcmp, Bool.false_eq_true, if_false, if_true]

/-- RST_CL takes a line of 1 to VACTIVE and no other (R78). -/
theorem Cell.writeReg_cl (x : Cell) {d : RegDesc} (v : Word) (p : Nat) (hd : regDesc Reg.RST_CL = some d)
    (hb : d.base = Reg.RST_CL) : x.writeReg Reg.RST_CL v p =
      if 1 ≤ bits v.toNat 11 0 ∧ bits v.toNat 11 0 ≤ x.vactive then x.writePlain d Reg.RST_CL v else x := by
  have hcl : (Reg.RST_CL == Reg.RST_CL) = true := by decide
  simp only [Cell.writeReg, hd, hb, hcl, if_true]

theorem plainRegisters_rows : ∀ o ∈ plainRegisters, o ≠ Reg.RST_LCMP → o ≠ Reg.RST_UFCOL7 ∧
    ∀ d ∈ regDesc o, d.base ∉ ownBehaviour := by
  decide +kernel

theorem regDesc_lcmp_base : ∀ d ∈ regDesc Reg.RST_LCMP, d.base = Reg.RST_LCMP := by decide +kernel

theorem regDesc_cl : ∃ d, regDesc Reg.RST_CL = some d ∧ d.base = Reg.RST_CL ∧ d.rw = 0xFFF ∧ d.w1c = 0 := by decide +kernel

theorem RegistersOnly.refl (x : Cell) : RegistersOnly x x :=
  ⟨rfl, rfl, rfl, rfl, rfl, rfl, rfl, rfl, rfl, rfl, rfl, rfl⟩

theorem RegistersOnly.writePlain (x : Cell) (d : RegDesc) (off : Nat) (v : Word) : RegistersOnly x (x.writePlain d off v) :=
  ⟨rfl, rfl, rfl, rfl, rfl, rfl, rfl, rfl, rfl, rfl, rfl, rfl⟩

theorem RegistersOnly.lcmpPast {x y : Cell} (h : RegistersOnly x y) (p : Nat) : RegistersOnly x (y.lcmpPast p) :=
  ⟨h.cpu, h.beam, h.mem, h.blt, h.dma, h.aud, h.enc, h.str, h.sess, h.evt, h.pic, h.tmr⟩

/-- The bookkeeping of a store (the position of the event, the marks of R201, the dirty event of R84) changes no register. -/
theorem Cell.storeReg_regs (x : Cell) (off : Nat) (v : Word) (p : Nat) :
    (x.storeReg off v p).regs = (x.writeReg off v p).regs := by
  unfold Cell.storeReg
  dsimp only
  split <;> rfl

theorem Cell.storeReg_outbox (x : Cell) (off : Nat) (v : Word) (p : Nat) :
    (x.storeReg off v p).outbox = (x.writeReg off v p).outbox := by
  unfold Cell.storeReg
  dsimp only
  split <;> rfl

/-- A store does what its register's write does, and keeps the rest of the cell. -/
theorem RegistersOnly.storeReg {x : Cell} {off : Nat} {v : Word} {p : Nat} (h : RegistersOnly x (x.writeReg off v p)) :
    RegistersOnly x { x.storeReg off v p with outbox := [] } := by
  have hp := h.pic
  have ht := h.tmr
  unfold Cell.storeReg Cell.markSkips
  dsimp only
  split
  · exact ⟨h.cpu, h.beam, h.mem, h.blt, h.dma, h.aud, h.enc, h.str, h.sess, h.evt, by rw [Cell.dirty_pic, hp],
      by rw [Cell.dirty_tmr, ht]⟩
  · exact ⟨h.cpu, h.beam, h.mem, h.blt, h.dma, h.aud, h.enc, h.str, h.sess, h.evt, hp, by rw [ht]⟩

/-- What a row holds after a plain write, and that no other register moves. -/
theorem Cell.writePlain_reg_same {x : Cell} (d : RegDesc) (off : Nat) (v : Word) (h : x.regsWf = true) :
    (x.writePlain d off v).reg off = ((x.reg off &&& ~~~(BitVec.ofNat 32 d.rw)) ||| (v &&& BitVec.ofNat 32 d.rw)) &&&
      ~~~(v &&& BitVec.ofNat 32 d.w1c) := Cell.reg_setReg_same _ _ h

theorem RegsOnly.writePlain {x : Cell} (d : RegDesc) (off : Nat) (v : Word) (h : x.regsWf = true) :
    RegsOnly [off] x (x.writePlain d off v) := fun _ ho => Cell.reg_setReg_other _ h (by simpa using ho)

/-! ## REGISTER_WRITE -/

/-- REGISTER_WRITE on a live cell: the store's value in its cell, with its events handed on. -/
theorem exec_registerWrite_live {s : State} {c : CellId} {x : Cell} (hl : Live s c x) (off : BitVec 16) (v : Word) (o : Nat)
    (ho : off.toNat / 4 * 4 = o) (hout : (x.writeReg o v x.beam.fpos).outbox = []) :
    ∃ t, exec (.registerWrite c off v) s = .next t ∧ OnlyCell c s t ∧
      t.cell c = { x.storeReg o v x.beam.fpos with outbox := [] } := by
  have hf : (s.cell c).busWrite (off.toNat / 4 * 4) v = x.storeReg o v x.beam.fpos := by
    rw [Cell.busWrite, if_pos hl.runs, hl.eq, ho]
  have hi : CellEvent.idr ∉ ((s.cell c).busWrite (off.toNat / 4 * 4) v).outbox := by
    rw [hf, Cell.storeReg_outbox, hout]
    exact List.not_mem_nil
  refine ⟨_, rfl, State.onCell_only s c _ hi, ?_⟩
  exact (State.onCell_cell s c (fun x => x.busWrite (off.toNat / 4 * 4) v) hi).trans (by rw [hf])

/-- The registers of a cell are those of its register file. -/
theorem Cell.reg_congr {x y : Cell} (h : y.regs = x.regs) (o : Nat) : y.reg o = x.reg o := by
  simp only [Cell.reg, h]

/-- REGISTER_WRITE where the register's write changes registers alone. -/
theorem exec_registerWrite_registersOnly {s : State} {c : CellId} {x : Cell} (hl : Live s c x) (off : BitVec 16) (v : Word)
    {o : Nat} (ho : off.toNat / 4 * 4 = o) (hout : (x.writeReg o v x.beam.fpos).outbox = [])
    (hr : RegistersOnly x (x.writeReg o v x.beam.fpos)) :
    ∃ t, exec (.registerWrite c off v) s = .next t ∧ OnlyCell c s t ∧ RegistersOnly x (t.cell c) ∧
      ∀ k, (t.cell c).reg k = (x.writeReg o v x.beam.fpos).reg k := by
  obtain ⟨t, hstep, honly, hcell⟩ := exec_registerWrite_live hl off v o ho hout
  refine ⟨t, hstep, honly, ?_, fun k => ?_⟩
  · rw [hcell]; exact hr.storeReg
  · rw [hcell]; exact Cell.reg_congr (Cell.storeReg_regs x o v x.beam.fpos) k

/-- The write of a register of `plainRegisters` is the plain write; RST_LCMP marks its position beside (R87). -/
theorem Cell.writeReg_of_plainRegisters {x : Cell} {o : Nat} {d : RegDesc} (v : Word) (p : Nat) (ho : o ∈ plainRegisters)
    (hd : regDesc o = some d) :
    (x.writeReg o v p).regs = (x.writePlain d o v).regs ∧ (x.writeReg o v p).outbox = x.outbox ∧
      RegistersOnly x (x.writeReg o v p) := by
  by_cases hl : o = Reg.RST_LCMP
  · subst hl
    rw [Cell.writeReg_lcmp x v p hd (regDesc_lcmp_base d hd)]
    exact ⟨rfl, rfl, (RegistersOnly.writePlain ..).lcmpPast p⟩
  · obtain ⟨hu, hb⟩ := plainRegisters_rows o ho hl
    rw [Cell.writeReg_plain x v p hd (hb d hd) hu]
    exact ⟨rfl, rfl, RegistersOnly.writePlain ..⟩

/-- Under its mask a plain write without W1C bits takes the written bits. -/
theorem masked_plainWrite (old v m : Word) : (((old &&& ~~~m) ||| (v &&& m)) &&& ~~~(v &&& 0#32)) &&& m = v &&& m := by
  rw [BitVec.and_zero, BitVec.not_zero, BitVec.and_allOnes]
  ext i hi
  cases hm : m[i] <;> simp [hm]

/-- The low twelve bits of a word, as a mask gives them. -/
theorem bits_low12 (w : Word) : bits w.toNat 11 0 = (w &&& 0xFFF#32).toNat := by
  have hmask : w.toNat &&& 4095 = w.toNat % 2 ^ 12 := Nat.and_two_pow_sub_one_eq_mod w.toNat 12
  simp [bits, hmask]

/-- The line field of RST_CL takes bits 11:0 of what a plain write stores there (R78). -/
theorem Cell.fld_cl_writePlain {x : Cell} {d : RegDesc} (v : Word) (hrw : d.rw = 0xFFF) (hw1c : d.w1c = 0)
    (h : x.regsWf = true) : (x.writePlain d Reg.RST_CL v).fld Reg.RST_CL 11 0 = bits v.toNat 11 0 := by
  rw [Cell.fld, Cell.writePlain_reg_same d _ v h, hrw, hw1c, bits_low12, bits_low12]
  exact congrArg BitVec.toNat (masked_plainWrite (x.reg Reg.RST_CL) v 0xFFF#32)

/-- Settles O14: the write of a register without a behaviour of its own, at a vacant offset, and of RST_CL. -/
theorem registerWrite : Obligations.RegisterWrite := by
  unfold Obligations.RegisterWrite
  intro s c x hl off v o ho
  have hwf : x.regsWf = true := hl.wf
  refine ⟨fun d hplain hd => ?_, fun hd => ?_, fun hcl => ?_⟩
  · obtain ⟨hregs, hout, honly⟩ := Cell.writeReg_of_plainRegisters (x := x) v x.beam.fpos hplain hd
    obtain ⟨t, hstep, hcell, hkept, hreg⟩ := exec_registerWrite_registersOnly hl off v ho (hout.trans hl.out) honly
    have hval : ∀ k, (t.cell c).reg k = (x.writePlain d o v).reg k := fun k => (hreg k).trans (Cell.reg_congr hregs k)
    exact ⟨t, hstep, hcell, hkept, fun k hk => (hval k).trans (RegsOnly.writePlain d o v hwf k hk),
      (hval o).trans (Cell.writePlain_reg_same d o v hwf)⟩
  · have hsame := Cell.writeReg_vacant x v x.beam.fpos hd
    obtain ⟨t, hstep, hcell, hkept, hreg⟩ := exec_registerWrite_registersOnly hl off v ho
      (hsame.symm ▸ hl.out) (hsame.symm ▸ RegistersOnly.refl x)
    exact ⟨t, hstep, hcell, hkept, fun k _ => (hreg k).trans (by rw [hsame])⟩
  · subst hcl
    obtain ⟨d, hd, hb, hrw, hw1c⟩ := regDesc_cl
    have hw := Cell.writeReg_cl x v x.beam.fpos hd hb
    by_cases hline : 1 ≤ bits v.toNat 11 0 ∧ bits v.toNat 11 0 ≤ x.vactive
    · rw [if_pos hline] at hw
      obtain ⟨t, hstep, hcell, hkept, hreg⟩ := exec_registerWrite_registersOnly hl off v ho
        (by rw [hw]; exact hl.out) (by rw [hw]; exact RegistersOnly.writePlain ..)
      rw [hw] at hreg
      refine ⟨t, hstep, hcell, hkept, fun k hk => (hreg k).trans (RegsOnly.writePlain d _ v hwf k hk), ?_⟩
      rw [if_pos hline, Cell.fld, hreg]
      exact Cell.fld_cl_writePlain v hrw hw1c hwf
    · rw [if_neg hline] at hw
      obtain ⟨t, hstep, hcell, hkept, hreg⟩ := exec_registerWrite_registersOnly hl off v ho
        (by rw [hw]; exact hl.out) (by rw [hw]; exact RegistersOnly.refl x)
      rw [hw] at hreg
      refine ⟨t, hstep, hcell, hkept, fun k _ => hreg k, ?_⟩
      rw [if_neg hline, Cell.fld, hreg, Cell.fld]

end Sys2Proof.Machine
end

