-- ==== Sys2Proof/Proofs/DeviceFrames.lean ====
section
/-! SUPPORT. What messages, notifications and the events of a cell leave alone beside the parts named in `Aside`: everything but
ring, channels and transmissions; the dictionary's values; the operations that wait at a cell's debug unit. -/

namespace Sys2Proof.Machine

/-! ## Sending -/

/-- Nothing changes but ring numbers and queues, channels, and what has left the device. -/
def SendsOnly (s t : State) : Prop := ∃ r d x, t = { s with ring := r, dict := d, tx := x }

theorem SendsOnly.refl (s : State) : SendsOnly s s := ⟨_, _, _, rfl⟩

theorem SendsOnly.trans {s t u : State} (h : SendsOnly s t) (g : SendsOnly t u) : SendsOnly s u := by
  obtain ⟨_, _, _, rfl⟩ := h
  obtain ⟨r, d, x, rfl⟩ := g
  exact ⟨r, d, x, rfl⟩

theorem SendsOnly.ite {s a b : State} {p : Prop} [Decidable p] (ha : SendsOnly s a) (hb : SendsOnly s b) :
    SendsOnly s (if p then a else b) := by
  by_cases h : p
  · rw [if_pos h]; exact ha
  · rw [if_neg h]; exact hb

theorem SendsOnly.foldl {α : Type} {f : State → α → State} (hf : ∀ s a, SendsOnly s (f s a)) (l : List α) :
    ∀ s, SendsOnly s (l.foldl f s) := by
  induction l with
  | nil => intro s; exact SendsOnly.refl s
  | cons a l ih => intro s; exact (hf s a).trans (ih _)

theorem SendsOnly.send (s : State) (x : Tx) : SendsOnly s (s.send x) := ⟨_, _, _, rfl⟩
theorem SendsOnly.setRing (s : State) (r : Ring) : SendsOnly s (s.setRing r) := ⟨_, _, _, rfl⟩
theorem SendsOnly.setDict (s : State) (d : Dict) : SendsOnly s (s.setDict d) := ⟨_, _, _, rfl⟩
theorem SendsOnly.setChannel (s : State) (c : Channel) : SendsOnly s (s.setChannel c) := SendsOnly.setDict ..
theorem SendsOnly.dropChannel (s : State) (i : Nat) : SendsOnly s (s.dropChannel i) := SendsOnly.setDict ..
theorem SendsOnly.setQueue (s : State) (q : NoteQueue) (n : Nat) : SendsOnly s (s.setQueue q n) := SendsOnly.setDict ..
theorem SendsOnly.newFrame (s : State) (k : RingClass) (t d : Nat) (b : Bool) (p : Bytes) :
    SendsOnly s (s.newFrame k t d b p).2 := SendsOnly.setRing ..

theorem SendsOnly.emit (s : State) (p : PortSide) (f : RingFrame) : SendsOnly s (s.emit p f) := by
  unfold State.emit
  exact .ite (.refl s) (.ite (.send ..) (.ite (.refl s) (.ite (.refl s) (.send ..))))

theorem SendsOnly.unicastFrame (s : State) (f : RingFrame) : SendsOnly s (s.unicastFrame f) := by
  unfold State.unicastFrame
  refine .ite (.refl s) (.ite ?_ (.emit ..))
  split
  · split
    · exact .ite (.emit ..) (.refl s)
    · exact .refl s
  · exact .refl s

theorem SendsOnly.sendFrame (s : State) (f : RingFrame) : SendsOnly s (s.sendFrame f) := by
  unfold State.sendFrame State.broadcastFrame
  exact .ite (.ite (.refl s) ((SendsOnly.emit ..).trans (.emit ..))) (.unicastFrame ..)

theorem SendsOnly.ringSend (s : State) (k : RingClass) (t d : Nat) (b : Bool) (p : Bytes) :
    SendsOnly s (s.ringSend k t d b p) := (SendsOnly.newFrame ..).trans (.sendFrame ..)

theorem SendsOnly.control (s : State) (t d : Nat) (b : Bool) (p : Bytes) : SendsOnly s (s.control t d b p) :=
  .ite (.refl s) ((SendsOnly.newFrame ..).trans (.setRing ..))

theorem SendsOnly.tell (s : State) (m : RingMsg) (d : Option Nat) : SendsOnly s (s.tell m d) := .control ..

theorem SendsOnly.tellState (s : State) (d : Nat) (m : StateMsg) : SendsOnly s (s.tellState d m) := .ringSend ..

theorem SendsOnly.record (s : State) (c : Channel) (t : Nat) (b : Bytes) : SendsOnly s (s.record c t b) := by
  unfold State.record
  extract_lets key salt iv h0 body s1
  have h : SendsOnly s s1 := (SendsOnly.setChannel ..).trans (.send ..)
  exact .ite h (h.trans (.dropChannel ..))

theorem SendsOnly.sendMsg (s : State) (i : Nat) (m : DictMsg) : SendsOnly s (s.sendMsg i m) := by
  unfold State.sendMsg
  split
  · exact .record ..
  · exact .refl s

theorem SendsOnly.pump (s : State) (q : NoteQueue) (i : Nat) : SendsOnly s (s.pump q i) := by
  refine .foldl (fun s n => ?_) _ _
  split
  · exact .refl s
  · exact .ite (.refl s) ((SendsOnly.setChannel ..).trans (.sendMsg ..))

theorem SendsOnly.pumpAll (s : State) : SendsOnly s s.pumpAll := .foldl (fun _ _ => .foldl (fun _ _ => .pump ..) _ _) _ _

theorem SendsOnly.relayNote (s : State) (r k : Nat) (d : Bytes) : SendsOnly s (s.relayNote r k d) :=
  .ite (.refl s) (.ringSend ..)

/-! ## Notifications -/

/-- What a notification changes beside what sending does: the count of lost notifications 0x1101:02 (R380). -/
structure NotesOnly (s t : State) : Prop where
  dbg  : t.dbg = s.dbg
  wf   : s.objsWf = true → t.objsWf = true
  objs : s.objsWf = true → ∀ i j, objKey i j ≠ objKey 0x1101 2 → t.obj i j = s.obj i j

theorem NotesOnly.trans {s t u : State} (h : NotesOnly s t) (g : NotesOnly t u) : NotesOnly s u :=
  ⟨g.dbg.trans h.dbg, fun w => g.wf (h.wf w), fun w i j hk => (g.objs (h.wf w) i j hk).trans (h.objs w i j hk)⟩

theorem SendsOnly.notesOnly {s t : State} (h : SendsOnly s t) : NotesOnly s t := by
  obtain ⟨_, _, _, rfl⟩ := h
  exact ⟨rfl, id, fun _ _ _ _ => rfl⟩

theorem NotesOnly.bumpLost (s : State) : NotesOnly s (s.bumpObj 0x1101 2) :=
  ⟨rfl, State.objsWf_setObj _ _ _, fun w _ _ hk => State.obj_setObj_other _ w hk⟩

theorem NotesOnly.enqueueNote (s : State) (r k c : Nat) (d : Bytes) : NotesOnly s (s.enqueueNote r k c d) := by
  refine NotesOnly.trans ?_ (SendsOnly.pumpAll _).notesOnly
  split
  · exact (SendsOnly.setQueue ..).notesOnly.trans (NotesOnly.bumpLost _)
  · exact (SendsOnly.setQueue ..).notesOnly

theorem NotesOnly.notify (s : State) (c : Nat) (t : Option Nat) (i j : Nat) (d : Bytes) : NotesOnly s (s.notify c t i j d) := by
  have relayed : ∀ (s : State) (r k : Nat) (x : Bytes), NotesOnly s ((s.enqueueNote r k c x).relayNote r k x) :=
    fun s r k x => (NotesOnly.enqueueNote s r k c x).trans (SendsOnly.relayNote ..).notesOnly
  unfold State.notify
  dsimp only
  split
  · exact (SendsOnly.refl s).notesOnly
  · cases t with
    | none => exact relayed ..
    | some k => exact (relayed ..).trans (relayed ..)

/-! ## Events of a cell -/

/-- What events of a cell leave alone, with the operations that wait at each debug unit (R437). -/
structure Beside (s t : State) : Prop where
  aside   : Aside s t
  waiting : ∀ c : CellId, (t.dbg[c]).waiting = (s.dbg[c]).waiting

theorem Beside.of {s t : State} (a : Aside s t) (h : t.dbg = s.dbg) : Beside s t := ⟨a, fun c => by rw [h]⟩

theorem Beside.refl (s : State) : Beside s s := .of (.refl s) rfl

theorem Beside.trans {s t u : State} (h : Beside s t) (g : Beside t u) : Beside s u :=
  ⟨h.aside.trans g.aside, fun c => (g.waiting c).trans (h.waiting c)⟩

theorem Beside.ite {s a b : State} {p : Prop} [Decidable p] (ha : Beside s a) (hb : Beside s b) :
    Beside s (if p then a else b) := by
  by_cases h : p
  · rw [if_pos h]; exact ha
  · rw [if_neg h]; exact hb

theorem Beside.foldl {α : Type} {f : State → α → State} (hf : ∀ s a, Beside s (f s a)) (l : List α) :
    ∀ s, Beside s (l.foldl f s) := by
  induction l with
  | nil => intro s; exact .refl s
  | cons a l ih => intro s; exact (hf s a).trans (ih _)

theorem Beside.setObj (s : State) (i j v : Nat) : Beside s (s.setObj i j v) := .of (.setObj ..) rfl
theorem Beside.addObj (s : State) (i j n : Nat) : Beside s (s.addObj i j n) := .setObj ..
theorem Beside.bumpObj (s : State) (i j : Nat) : Beside s (s.bumpObj i j) := .setObj ..
theorem Beside.setRing (s : State) (r : Ring) : Beside s (s.setRing r) := .of (.setRing ..) rfl
theorem Beside.setNet (s : State) (n : Net) : Beside s (s.setNet n) := .of (.setNet ..) rfl
theorem Beside.setMirror (s : State) (c : CellId) (m : Mirror) : Beside s (s.setMirror c m) := .of (.setMirror ..) rfl
theorem Beside.setMeter (s : State) (c : CellId) (m : Meter) : Beside s (s.setMeter c m) := .of (.setMeter ..) rfl
theorem Beside.latchMeter (s : State) (c : CellId) : Beside s (s.latchMeter c) := .setMeter ..

theorem Beside.tell (s : State) (m : RingMsg) (d : Option Nat) : Beside s (s.tell m d) :=
  .of (.tell ..) (SendsOnly.tell ..).notesOnly.dbg

theorem Beside.tellState (s : State) (d : Nat) (m : StateMsg) : Beside s (s.tellState d m) :=
  .of (.tellState ..) (SendsOnly.tellState ..).notesOnly.dbg

theorem Beside.notify (s : State) (c : Nat) (t : Option Nat) (i j : Nat) (d : Bytes) : Beside s (s.notify c t i j d) :=
  .of (.notify ..) (NotesOnly.notify ..).dbg

theorem Beside.setMirrorState (s : State) (c : CellId) (v : Nat) : Beside s (s.setMirrorState c v) :=
  .ite (.refl s) ((Beside.setObj ..).trans (.notify ..))

theorem Beside.startResync (s : State) (c : CellId) : Beside s (s.startResync c) :=
  .ite (.refl s) ((((Beside.setMirror ..).trans (.bumpObj ..)).trans (.setObj ..)).trans (.tell ..))

theorem Beside.mirrorDiverged (s : State) (c : CellId) : Beside s (s.mirrorDiverged c) :=
  .ite (.refl s) ((Beside.setMirrorState ..).trans (.startResync ..))

theorem Beside.divergeEvent (s : State) (c : CellId) (k f l : Nat) : Beside s (s.divergeEvent c k f l) := by
  unfold State.divergeEvent
  extract_lets o s1 data s2
  have h1 : Beside s s1 := (((Beside.bumpObj ..).trans (.setObj ..)).trans (.setObj ..)).trans (.setObj ..)
  have h2 : Beside s s2 := h1.trans (.ite (.notify ..) (.refl s1))
  exact .ite h2 ((h2.trans (.setRing ..)).trans (.mirrorDiverged ..))

/-- A packet that reaches the trace buffer passes the operations that wait by. -/
theorem Beside.tracePush (s : State) (c : CellId) (p : Bytes) : Beside s (s.tracePush c p) := by
  have keep : ∀ d : CellDbg, d.waiting = (s.dbg[c]).waiting → Beside s (s.setDbg c d) := fun d hd => by
    refine ⟨.setDbg .., fun e => ?_⟩
    by_cases h : c = e
    · subst h; simp [hd]
    · have h' : c.val ≠ e.val := fun k => h (Fin.ext k)
      simp [h']
  unfold State.tracePush
  exact .ite (.refl s) (.ite ((keep { s.dbg[c] with lost := _, lastLost := p } rfl).trans (.bumpObj ..))
    (keep { s.dbg[c] with trace := _ } rfl))

theorem Beside.takeReport (s : State) (c : CellId) (r : Report) : Beside s (s.takeReport c r) := by
  unfold State.takeReport
  refine (Beside.bumpObj s (cellObj c 0x1F) 0x07).trans ?_
  exact .ite (.refl _) (.ite (.setNet ..) (.tellState ..))

theorem Beside.noteSessionAs (s : State) (c : CellId) (h : RingSession) : Beside s (s.noteSessionAs c h) := by
  unfold State.noteSessionAs
  extract_lets s1
  have h1 : Beside s s1 := .ite (.refl s) (.tellState ..)
  exact h1.trans (.notify ..)

theorem Beside.noteWrites (s : State) (c : CellId) (x y : Cell) : Beside s (s.noteWrites c x y) :=
  .ite (.ite ((Beside.setMirror ..).trans (.startResync ..)) (.setMirror ..)) (.setMirror ..)

theorem Beside.cellEvent (s : State) (c : CellId) (e : CellEvent) (he : e ≠ .idr) : Beside s (s.cellEvent c e) := by
  unfold State.cellEvent
  cases e with
  | idr => exact absurd rfl he
  | diverge => exact .divergeEvent ..
  | bump => exact .bumpObj ..
  | add => exact .addObj ..
  | put => exact .setObj ..
  | regionMismatch => exact .notify ..
  | bite => exact .notify ..
  | withheld => exact (Beside.bumpObj ..).trans (.notify ..)
  | report => exact .takeReport ..
  | trace => exact .tracePush ..
  | frameEnd => exact ((Beside.setMeter ..).trans (.ite (.latchMeter ..) (.refl _))).trans (.setMeter ..)
  | proof => exact .setMeter ..
  | sessState => exact .noteSessionAs ..

theorem Beside.cellEvents (c : CellId) (l : List CellEvent) : ∀ s : State, CellEvent.idr ∉ l →
    Beside s (l.foldl (fun s e => s.cellEvent c e) s) := by
  induction l with
  | nil => intro s _; exact .refl s
  | cons e l ih =>
    intro s h
    obtain ⟨he, hl⟩ := not_or.mp (mt List.mem_cons.mpr h)
    exact (Beside.cellEvent s c e (Ne.symm he)).trans (ih _ hl)

/-- Running a function of one cell leaves the operations that wait at every debug unit. -/
theorem State.onCell_waiting (s : State) (c : CellId) (f : Cell → Cell) (h : CellEvent.idr ∉ (f (s.cell c)).outbox)
    (d : CellId) : ((s.onCell c f).dbg[d]).waiting = (s.dbg[d]).waiting :=
  ((Beside.noteWrites ..).trans (Beside.cellEvents c _ _ h)).waiting d

/-- With no operation waiting the debug unit does nothing. -/
theorem State.pumpDbg_idle {s : State} {c : CellId} (h : (s.dbg[c]).waiting = []) : s.pumpDbg c = s := by
  simp only [State.pumpDbg, h, List.length_nil, List.range_zero, List.foldl_nil]

/-! ## Resyncs at lines and boundaries (R349) -/

theorem Beside.copyOne (s : State) (c : CellId) : Beside s (s.copyOne c) := by
  unfold State.copyOne
  dsimp only
  split
  · exact .refl s
  · exact (Beside.setMirror ..).trans (.tellState ..)

theorem Beside.copyDrain (s : State) (c : CellId) : Beside s (s.copyDrain c) := by
  refine .ite (.refl s) ((Beside.setMirror ..).trans (.foldl (fun s _ => ?_) _ _))
  split
  · exact .refl s
  · exact .ite (.copyOne ..) (.refl s)

theorem Beside.copyStart (s : State) (c : CellId) : Beside s (s.copyStart c) :=
  (Beside.setMirror ..).trans (.setMirrorState ..)

theorem Beside.copyEnd (s : State) (c : CellId) : Beside s (s.copyEnd c) :=
  ((((Beside.foldl (fun _ _ => .copyOne ..) _ s).trans (.setMirror ..)).trans (.setObj ..)).trans (.tell ..)).trans
    (.tellState ..)

theorem Beside.mirrorBoundary (s : State) (c : CellId) : Beside s (s.mirrorBoundary c) :=
  .ite (.refl s) (.ite (.copyStart ..) (.ite (.copyEnd ..) (.refl s)))

end Sys2Proof.Machine
end

