-- ==== Sys2Proof/Proofs/Resets.lean ====
section
/-! PROOF. Device resets and start-up (R337, R451, R452, R455, R460, R461, R464, R475). -/

namespace Sys2Proof.Machine

/-! ## Resets (R452) -/

theorem InReset.deviceReset (s : State) (kind : Nat) : InReset s (s.deviceReset kind) kind :=
  ⟨rfl, rfl, rfl, rfl, rfl, rfl, rfl, rfl, rfl, rfl, ⟨rfl, rfl⟩, rfl⟩

/-- The reset of a device whose power state was changed first keeps what the reset of the device itself keeps. -/
theorem InReset.deviceReset_setPower (s : State) {p : Power} (kind : Nat) (h : p.stored = s.power.stored) :
    InReset s ((s.setPower p).deviceReset kind) kind :=
  ⟨rfl, rfl, rfl, rfl, rfl, rfl, rfl, rfl, rfl, rfl, ⟨rfl, rfl⟩, h⟩

theorem State.fatal_of_out {s : State} (h : s.inReset = false) (kind : Nat) : s.fatal kind = s.deviceReset kind := by
  simp [State.fatal, h]

/-- A fatal fault resets a device that is in no reset (R337). -/
theorem InReset.fatal {s : State} (h : s.inReset = false) (kind : Nat) : InReset s (s.fatal kind) kind :=
  State.fatal_of_out h kind ▸ .deviceReset s kind

/-- REFCLK_LOSS resets the device with kind REFCLK and notes the loss (R451). -/
theorem exec_refclkLoss_inReset {s : State} (h : s.inReset = false) :
    ∃ t, exec .refclkLoss s = .next t ∧ InReset s t 8 ∧ t.power.refclk = false := by
  have hout : (s.setPower { s.power with refclk := false }).inReset = false := h
  refine ⟨_, rfl, ?_⟩
  rw [State.fatal_of_out hout]
  exact ⟨.deviceReset_setPower s 8 rfl, rfl⟩

/-- VDD_CORE below 0.660 V resets the device (R461). -/
theorem exec_vddCoreReset_inReset {s : State} (h : s.inReset = false) (mv : Nat) :
    ∃ t, exec (.vddCoreReset mv) s = .next t ∧ if mv < 660 then InReset s t 2 else t = s := by
  refine ⟨_, rfl, ?_⟩
  by_cases hmv : mv < 660
  · rw [if_pos hmv, if_pos hmv]; exact .fatal h 2
  · rw [if_neg hmv, if_neg hmv]

/-- RING_PATH_FAULT resets a running device (R337). -/
theorem exec_ringPathFault_inReset {s : State} (h : s.inReset = false) (hup : s.up = true) :
    ∃ t, exec .ringPathFault s = .next t ∧ InReset s t 7 := by
  refine ⟨_, rfl, ?_⟩
  rw [if_pos hup]
  exact .fatal h 7

/-- DEVICE_RESET_COMMAND takes effect with its password alone (R452). -/
theorem exec_deviceResetCommand_running {s : State} (v : Nat) (h : s.power.phase = .running ∨ s.power.phase = .noMemory) :
    ∃ t, exec (.deviceResetCommand v) s = .next t ∧ if v = 0x52534554 then InReset s t 6 else t = s := by
  refine ⟨_, rfl, ?_⟩
  by_cases hv : v = 0x52534554
  · rw [if_pos hv, if_pos ⟨hv, h⟩]; exact .deviceReset s 6
  · rw [if_neg hv, if_neg fun k => hv k.1]

/-! ## Start-up (R455) -/

/-- Nothing changes but dictionary values. -/
def ObjsOnly (s t : State) : Prop := ∃ o, t = { s with objs := o }

theorem ObjsOnly.refl (s : State) : ObjsOnly s s := ⟨_, rfl⟩

theorem ObjsOnly.trans {s t u : State} (h : ObjsOnly s t) (g : ObjsOnly t u) : ObjsOnly s u := by
  obtain ⟨_, rfl⟩ := h
  obtain ⟨o, rfl⟩ := g
  exact ⟨o, rfl⟩

theorem ObjsOnly.foldl {α : Type} {f : State → α → State} (hf : ∀ s a, ObjsOnly s (f s a)) (l : List α) :
    ∀ s, ObjsOnly s (l.foldl f s) := by
  induction l with
  | nil => intro s; exact .refl s
  | cons a l ih => intro s; exact (hf s a).trans (ih _)

theorem ObjsOnly.setObj (s : State) (i j v : Nat) : ObjsOnly s (s.setObj i j v) := ⟨_, rfl⟩

theorem ObjsOnly.applyCfg (s : State) : ObjsOnly s s.applyCfg := by
  unfold State.applyCfg
  dsimp only
  split
  · exact .refl s
  · refine .foldl (fun s e => ?_) _ s
    split
    · exact .setObj ..
    · exact .refl s

/-- The configuration and the stored values that take effect change objects, and of the power state no part but these
(R365). -/
theorem State.applyCfg_applyStored_eq (s : State) : ∃ o port twin, s.applyCfg.applyStored =
    { s with objs := o, power := { s.power with stored := [], dictPort := port, twin := twin } } := by
  have hstored : ObjsOnly s.applyCfg
      (s.applyCfg.power.stored.foldl (fun s q => s.setObj (q.1 / 256) (q.1 % 256) q.2) s.applyCfg) :=
    .foldl (fun _ _ => .setObj ..) _ _
  obtain ⟨o, ho⟩ := (ObjsOnly.applyCfg s).trans hstored
  unfold State.applyStored
  dsimp only
  rw [ho]
  exact ⟨_, _, _, rfl⟩

theorem fitBytes_length (n : Nat) (bs : Bytes) : (fitBytes n bs).length = n := by
  simp only [fitBytes, List.length_append, List.length_take, List.length_replicate]
  omega

/-- A byte string of n bytes spells a number below 256^n. -/
theorem beNat_lt (bs : Bytes) : beNat bs < 256 ^ bs.length := by
  have grows : ∀ (bs : Bytes) (a : Nat), bs.foldl (fun a b => a * 256 + b.toNat) a < (a + 1) * 256 ^ bs.length := by
    intro bs
    induction bs with
    | nil => intro a; rw [List.foldl_nil, List.length_nil, Nat.pow_zero, Nat.mul_one]; exact Nat.lt_succ_self a
    | cons b bs ih =>
      intro a
      have hb := b.isLt
      calc (b :: bs).foldl (fun a b => a * 256 + b.toNat) a < (a * 256 + b.toNat + 1) * 256 ^ bs.length := ih _
        _ ≤ ((a + 1) * 256) * 256 ^ bs.length := Nat.mul_le_mul_right _ (by omega)
        _ = (a + 1) * 256 ^ (b :: bs).length := by rw [List.length_cons, Nat.pow_succ', Nat.mul_assoc]
  calc beNat bs < (0 + 1) * 256 ^ bs.length := grows bs 0
    _ = 256 ^ bs.length := by rw [Nat.zero_add, Nat.one_mul]

/-- What the release of a reset leaves: the device starts, or without a KFW slot that passes is in recovery; slots have
booted, and Keeper has drawn its nonce and BOOT (R392, R404, R455). -/
structure StartedUp (s t : State) : Prop where
  cells  : t.cells = s.cells
  phase  : t.power.phase = if (s.slots .kfw).boot.act.state = .good ∨ (s.slots .kfw).boot.act.state = .trial then .starting
    else .recovery
  kind   : t.power.kind = s.power.kind
  pwrOk  : t.power.pwrOk = s.power.pwrOk
  resetN : t.power.resetN = s.power.resetN
  nonce  : t.keeper.nonce.length = 32
  boot   : t.keeper.boot < 2 ^ 32
  slots  : ∀ k, t.slots k = (s.slots k).boot

/-- The device with its nonce and BOOT drawn and its slots booted. -/
def State.drawn (s : State) : State :=
  let n := s.random 32
  let b := n.2.random 4
  b.2.setKeeper ({ b.2.keeper with nonce := n.1, boot := beNat b.1 }).boots

theorem State.drawn_slots (s : State) (k : ImageKind) : s.drawn.slots k = (s.slots k).boot := by
  simp [State.drawn, State.slots, State.random, Keeper.boots]

theorem State.drawn_kfwPasses (s : State) : s.drawn.kfwPasses = true ↔
    (s.slots .kfw).boot.act.state = .good ∨ (s.slots .kfw).boot.act.state = .trial := by
  simp [State.kfwPasses, State.drawn_slots]

theorem State.drawn_boot_lt (s : State) : s.drawn.keeper.boot < 2 ^ 32 := by
  have h := beNat_lt (fitBytes 4 (Config.trng (s.fresh + 1) 4))
  rw [fitBytes_length] at h
  exact h

theorem State.startUp_startedUp (s : State) : StartedUp s s.startUp := by
  have hnonce : s.drawn.keeper.nonce.length = 32 := fitBytes_length 32 _
  have hboot := s.drawn_boot_lt
  have hslots := s.drawn_slots
  have hpass := s.drawn_kfwPasses
  have heq : s.startUp = if !s.drawn.kfwPasses then s.drawn.setPower { s.drawn.power with phase := .recovery }
    else s.drawn.applyCfg.applyStored.setPower { s.drawn.applyCfg.applyStored.power with phase := .starting } := rfl
  rw [heq]
  by_cases h : s.drawn.kfwPasses = true
  · obtain ⟨o, port, twin, he⟩ := s.drawn.applyCfg_applyStored_eq
    rw [he, h]
    exact ⟨rfl, (if_pos (hpass.mp h)).symm, rfl, rfl, rfl, hnonce, hboot, hslots⟩
  · rw [Bool.not_eq_true] at h
    rw [h]
    exact ⟨rfl, (if_neg (by rw [← hpass, h]; decide)).symm, rfl, rfl, rfl, hnonce, hboot, hslots⟩

/-- RESET_RELEASE of a reset that the pins hold (R451, R455). -/
theorem exec_resetRelease_held {s : State} (hp : s.power.phase = .reset) (hk : s.power.kind ≤ 1) :
    ∃ t, exec .resetRelease s = .next t ∧ t.cells = s.cells ∧ t.power.pwrOk = true ∧ t.power.resetN = true ∧
      if s.power.refclk then
        t.power.phase = (if ((s.slots .kfw).boot.act.state = .good ∨ (s.slots .kfw).boot.act.state = .trial) then .starting
          else .recovery) ∧ t.power.kind = s.power.kind ∧ t.keeper.nonce.length = 32 ∧ t.keeper.boot < 2 ^ 32 ∧
          ∀ k, t.slots k = (s.slots k).boot
      else t = s.setPower { s.power with pwrOk := true, resetN := true, kind := 8 } := by
  have hheld : ¬ (s.power.phase ≠ .reset ∨ 1 < s.power.kind) := by simp [hp, hk]
  refine ⟨_, rfl, ?_⟩
  rw [if_neg hheld]
  by_cases hr : s.power.refclk = true
  · have h := State.startUp_startedUp (s.setPower { s.power with pwrOk := true, resetN := true })
    rw [if_pos hr, if_pos hr]
    exact ⟨h.cells, h.pwrOk, h.resetN, h.phase, h.kind, h.nonce, h.boot, h.slots⟩
  · rw [if_neg hr, if_neg hr]
    exact ⟨rfl, rfl, rfl, rfl⟩

/-- DEVICE_RESET_END of an internal reset (R451, R460). -/
theorem exec_deviceResetEnd_internal {s : State} (hp : s.power.phase = .reset) (hk : 2 ≤ s.power.kind) :
    ∃ t, exec .deviceResetEnd s = .next t ∧ t.cells = s.cells ∧
      if s.resetMayEnd then t.power.phase = .starting ∨ t.power.phase = .recovery else t = s := by
  refine ⟨_, rfl, ?_⟩
  by_cases hend : s.resetMayEnd = true
  · have h := s.startUp_startedUp
    rw [if_pos ⟨hp, hk, hend⟩, if_pos hend]
    refine ⟨h.cells, ?_⟩
    rw [h.phase]
    split
    · exact .inl rfl
    · exact .inr rfl
  · rw [if_neg fun k => hend k.2.2, if_neg hend]
    exact ⟨rfl, rfl⟩

/-! ## Roles and memory (R464, R475) -/

/-- What an event of a cell leaves aside, and ridges, pins and power, are what a command of the device keeps. -/
theorem Aside.cellsKept {s t : State} (h : Aside s t) : CellsKept s t :=
  ⟨h.dev.pending, h.cells, h.dev.ridges, h.dev.keeper, h.dev.port, h.dev.cores, h.dev.power, h.dev.pins⟩

/-- The device with ROLE sampled and DDR5 training begun. -/
def State.roleSampled (s : State) (role : Bool) : State :=
  (s.setPins { s.pins with roleStrap := role }).setPower
    { s.power with phase := .training, uplink := (role && (s.obj 0x1001 1 == 1)) }

theorem State.sampleRole_starting {s : State} (role : Bool) (hp : s.power.phase = .starting) :
    s.sampleRole role = if b2n role = s.obj 0x1001 1 then s.roleSampled role
      else ((s.roleSampled role).setObj 0x1001 3 1).notify 0x05 none 0x1001 3
        [BitVec.ofNat 8 (b2n role), BitVec.ofNat 8 (s.obj 0x1001 1)] :=
  if_neg fun h => h hp

/-- ROLE is sampled; a difference from the role object sets 0x1001:03 and is notified (R464). -/
theorem exec_roleSample_starting {s : State} (role : Bool) (hp : s.power.phase = .starting) (hwf : s.objsWf = true) :
    ∃ t, exec (.roleSample role true) s = .next t ∧ CellsKept { s with power := t.power, pins := t.pins } t ∧
      t.pins = { s.pins with roleStrap := role } ∧
      t.obj 0x1001 3 = (if b2n role = s.obj 0x1001 1 then s.obj 0x1001 3 else 1) ∧
      t.power = { s.power with phase := .training, uplink := (role && (s.obj 0x1001 1 == 1)) } := by
  have hrow : ¬ (s.power.phase ≠ .starting ∧ s.power.phase ≠ .recovery) := by simp [hp]
  refine ⟨_, rfl, ?_⟩
  rw [if_neg hrow, if_pos rfl, State.sampleRole_starting role hp]
  by_cases hrole : b2n role = s.obj 0x1001 1
  · rw [if_pos hrole, if_pos hrole]
    exact ⟨⟨rfl, rfl, rfl, rfl, rfl, rfl, rfl, rfl⟩, rfl, rfl, rfl⟩
  · rw [if_neg hrole, if_neg hrole]
    have hset : ((s.roleSampled role).setObj 0x1001 3 1).objsWf = true := State.objsWf_setObj _ _ _ hwf
    have hkept := (Aside.notify ((s.roleSampled role).setObj 0x1001 3 1) 0x05 none 0x1001 3
      [BitVec.ofNat 8 (b2n role), BitVec.ofNat 8 (s.obj 0x1001 1)]).cellsKept
    refine ⟨⟨hkept.pending, hkept.cells, hkept.ridges, hkept.keeper, hkept.port, hkept.cores, rfl, rfl⟩, hkept.pins, ?_,
      hkept.power⟩
    rw [(NotesOnly.notify ..).objs hset 0x1001 3 (by decide)]
    exact State.obj_setObj_same _ _ _ hwf

/-- With TEST_N low the device holds itself in reset (R464). -/
theorem exec_roleSample_test {s : State} (role : Bool) (hp : s.power.phase = .starting) :
    ∃ t, exec (.roleSample role false) s = .next t ∧ t.power.phase = .test ∧ t.cells = State.reset.cells ∧
      t.objs = State.reset.objs := by
  have hrow : ¬ (s.power.phase ≠ .starting ∧ s.power.phase ≠ .recovery) := by simp [hp]
  refine ⟨_, rfl, ?_⟩
  rw [if_neg hrow, if_neg Bool.false_ne_true]
  exact ⟨rfl, rfl, rfl⟩

/-- DDR5 that meets the rules runs at 4,800 to 5,600 MT/s (R475). -/
theorem ddrSpeed_bounds {d : DdrReport} {v : Nat} (h : ddrSpeed d = some v) : 4800 ≤ v ∧ v ≤ 5600 := by
  simp only [ddrSpeed, Option.ite_none_right_eq_some, Option.some.injEq] at h
  obtain ⟨⟨-, -, -, -, -, -, hlow, -⟩, rfl⟩ := h
  have htop : (if d.perChannel = 1 then 5600 else 4800) ≤ 5600 := by split <;> omega
  exact ⟨hlow, Nat.le_trans (Nat.min_le_right ..) htop⟩

/-- DDR_TRAINING_COMPLETE (R475). -/
theorem exec_ddrTrainingComplete_training {s : State} (d : DdrReport) (hp : s.power.phase = .training) :
    ∃ t, exec (.ddrTrainingComplete d) s = .next t ∧ t.cells = s.cells ∧ t.objs = s.objs ∧
      match ddrSpeed d with
      | none => t.power = { s.power with phase := .noMemory }
      | some v => t.power = { s.power with
          phase := .running, state := .idle, speed := v, ddrGiB := 4 * d.perChannel * d.densityGiB } ∧ 4800 ≤ v ∧ v ≤ 5600 := by
  refine ⟨_, rfl, ?_⟩
  rw [if_pos hp]
  unfold State.ddrDone
  cases hv : ddrSpeed d with
  | none => exact ⟨rfl, rfl, rfl⟩
  | some v => exact ⟨rfl, rfl, rfl, ddrSpeed_bounds hv⟩

/-- Settles O58: every cause of a reset, the ends of resets and the steps of start-up, each by its own lemma. -/
theorem resetsAndStartUp : Obligations.ResetsAndStartUp := by
  unfold Obligations.ResetsAndStartUp
  intro s
  refine ⟨fun v => exec_deviceResetCommand_running v, ?pwrOk, ?resetN, ⟨_, rfl, .deviceReset s 0⟩, fun hout => ?faults,
    ⟨_, rfl, rfl⟩, ⟨_, rfl, rfl⟩, exec_resetRelease_held, exec_deviceResetEnd_internal, exec_roleSample_starting,
    exec_roleSample_test, exec_ddrTrainingComplete_training⟩
  case pwrOk => exact ⟨_, rfl, .deviceReset_setPower s 0 rfl, rfl⟩
  case resetN => exact ⟨_, rfl, rfl, .deviceReset_setPower s _ rfl⟩
  case faults =>
    exact ⟨exec_vddCoreReset_inReset hout, exec_refclkLoss_inReset hout, ⟨_, rfl, .fatal hout 4⟩, ⟨_, rfl, .fatal hout 5⟩,
      exec_ringPathFault_inReset hout⟩

end Sys2Proof.Machine
end

