-- ==== Sys2Proof/Proofs/BeamKeeps.lean ====
section
/-! SUPPORT. What the work at lines and frames leaves alone in a cell: its processor's registers and pc, the beam, the commits of
the picture, the captured line list, the audio engine, a list of registers, and the flags of RST_STAT that are set. -/

namespace Sys2Proof.Machine

/-- Registers that no work at a line writes and that the statements about the beam read. -/
def heldRegs : List Nat := [Reg.LNL_CTL, Reg.RST_VTIME, Reg.RST_HTIME, Reg.ID_AFRAMES, Reg.ID_QFRAMES]

/-- The parts of a cell that the work at a line leaves as they are; flags of RST_STAT are set and never cleared, and no IDR is
asked for. -/
structure Keeps (x y : Cell) : Prop where
  pc       : y.cpu.pc = x.cpu.pc
  gprs     : y.cpu.x = x.cpu.x
  straddle : y.cpu.straddle = x.cpu.straddle
  beam     : y.beam = x.beam
  aud      : y.aud = x.aud
  armed    : y.pic.armed = x.pic.armed
  staged   : y.pic.staged = x.pic.staged
  apply    : y.pic.applyFrame = x.pic.applyFrame
  active   : y.pic.activeRegs = x.pic.activeRegs
  stagedRegs : y.pic.stagedRegs = x.pic.stagedRegs
  quiet    : y.pic.quiet = x.pic.quiet
  lnl      : y.pic.lnl = x.pic.lnl
  wf       : x.regsWf = true → y.regsWf = true
  regs     : x.regsWf = true → ∀ o ∈ heldRegs, y.reg o = x.reg o
  flags    : x.regsWf = true → ∀ k, x.rbit Reg.RST_STAT k = true → y.rbit Reg.RST_STAT k = true
  idr      : CellEvent.idr ∉ x.outbox → CellEvent.idr ∉ y.outbox

theorem Keeps.refl (x : Cell) : Keeps x x :=
  ⟨rfl, rfl, rfl, rfl, rfl, rfl, rfl, rfl, rfl, rfl, rfl, rfl, id, fun _ _ _ => rfl, fun _ _ => id, id⟩

theorem Keeps.trans {x y z : Cell} (h : Keeps x y) (g : Keeps y z) : Keeps x z where
  pc := g.pc.trans h.pc
  gprs := g.gprs.trans h.gprs
  straddle := g.straddle.trans h.straddle
  beam := g.beam.trans h.beam
  aud := g.aud.trans h.aud
  armed := g.armed.trans h.armed
  staged := g.staged.trans h.staged
  apply := g.apply.trans h.apply
  active := g.active.trans h.active
  stagedRegs := g.stagedRegs.trans h.stagedRegs
  quiet := g.quiet.trans h.quiet
  lnl := g.lnl.trans h.lnl
  wf := fun w => g.wf (h.wf w)
  regs := fun w o ho => (g.regs (h.wf w) o ho).trans (h.regs w o ho)
  flags := fun w k hk => g.flags (h.wf w) k (h.flags w k hk)
  idr := fun k => g.idr (h.idr k)

theorem Keeps.ite {x a b : Cell} {p : Prop} [Decidable p] (ha : Keeps x a) (hb : Keeps x b) :
    Keeps x (if p then a else b) := by
  by_cases h : p
  · rw [if_pos h]; exact ha
  · rw [if_neg h]; exact hb

theorem Keeps.foldl_mem {α : Type} {f : Cell → α → Cell} (l : List α) (hf : ∀ a ∈ l, ∀ x, Keeps x (f x a)) :
    ∀ x, Keeps x (l.foldl f x) := by
  induction l with
  | nil => intro x; exact .refl x
  | cons a l ih =>
    intro x
    exact (hf a List.mem_cons_self x).trans (ih (fun b hb => hf b (List.mem_cons_of_mem a hb)) _)

theorem Keeps.foldl {α : Type} {f : Cell → α → Cell} (hf : ∀ x a, Keeps x (f x a)) (l : List α) (x : Cell) :
    Keeps x (l.foldl f x) := .foldl_mem l (fun a _ x => hf x a) x

/-! ## The parts that change freely -/

theorem Keeps.parts (x : Cell) (mem : Store) (blt : Blt) (dma : Vector DmaChan 8) (tmr : Timers) (enc : Enc) (str : Stream)
    (sess : Session) (evt : EventTimes) (dirty : Bool) (retired retiring : Bool × Bool) (affine : Affine)
    (fetch : List FetchLine) (spr : Option SprLine) (sprLast : List SprResult) (overlay : Overlay) (lines : List (List Nat)) :
    Keeps x { x with
      mem := mem, blt := blt, dma := dma, tmr := tmr, enc := enc, str := str, sess := sess, evt := evt
      pic := { x.pic with
        dirty := dirty, retired := retired, retiring := retiring, affine := affine, fetch := fetch, spr := spr
        sprLast := sprLast, overlay := overlay, lines := lines } } :=
  ⟨rfl, rfl, rfl, rfl, rfl, rfl, rfl, rfl, rfl, rfl, rfl, rfl, id, fun _ _ _ => rfl, fun _ _ => id, id⟩

theorem Keeps.dirty (x : Cell) : Keeps x x.dirty := .parts ..

theorem Keeps.raise (x : Cell) {e : CellEvent} (he : e ≠ .idr) : Keeps x (x.raise e) :=
  { Keeps.refl x with
    idr := fun h => by
      simp only [Cell.raise_outbox, List.mem_append, List.mem_singleton, not_or]
      exact ⟨h, Ne.symm he⟩ }

/-! ## Registers -/

theorem Keeps.setReg (x : Cell) {off : Nat} (v : Word) (h : off ∉ Reg.RST_STAT :: heldRegs) : Keeps x (x.setReg off v) :=
  { Keeps.refl x with
    wf := Cell.regsWf_setReg off v
    regs := fun w o ho => Cell.reg_setReg_other v w fun e => h (e ▸ List.mem_cons_of_mem _ ho)
    flags := fun w k hk => by
      have hne : Reg.RST_STAT ≠ off := fun e => h (e ▸ List.mem_cons_self)
      rw [Cell.rbit, Cell.reg_setReg_other v w hne]
      exact hk
    idr := id }

/-- Setting flags of a register keeps the flags that are set in it. -/
theorem Cell.rbit_orReg_mono {x : Cell} (off m : Nat) (w : x.regsWf = true) (o k : Nat) (h : x.rbit o k = true) :
    (x.orReg off m).rbit o k = true := by
  by_cases e : o = off
  · subst e
    rw [Cell.rbit, Cell.reg_orReg_same o m w, BitVec.getLsbD_or, show (x.reg o).getLsbD k = true from h, Bool.true_or]
  · rw [Cell.rbit, Cell.reg_orReg_other m w e]
    exact h

theorem Keeps.orReg (x : Cell) {off : Nat} (m : Nat) (h : off ∉ heldRegs) : Keeps x (x.orReg off m) :=
  { Keeps.refl x with
    wf := Cell.regsWf_orReg off m
    regs := fun w _ ho => Cell.reg_orReg_other m w fun e => h (e ▸ ho)
    flags := fun w k hk => Cell.rbit_orReg_mono off m w _ k hk
    idr := id }

/-! ## Divergence events, memories and time -/

theorem Keeps.diverge (x : Cell) (code line : Nat) : Keeps x (x.diverge code line) := by
  unfold Cell.diverge
  extract_lets first c1 q t
  have h1 : Keeps x c1 := .ite ((Keeps.setReg x _ (by decide)).trans (.setReg _ _ (by decide))) (.refl x)
  exact ((h1.trans (.orReg _ _ (by decide))).trans (.raise _ (by simp))).trans (.raise _ (by simp))

theorem Keeps.writeMem (x : Cell) (r : Region) (o : Nat) (bs : Bytes) : Keeps x (x.writeMem r o bs) := by
  unfold Cell.writeMem
  extract_lets m hi whole part bad mem c
  have h : Keeps x c := .parts ..
  exact .ite (h.trans (.diverge ..)) h

theorem Keeps.bltFlush (x : Cell) : Keeps x x.bltFlush :=
  (Keeps.parts ..).trans (.foldl (fun _ _ => .writeMem ..) _ _)

theorem Keeps.clockTimers (x : Cell) (clk k : Nat) : Keeps x (x.clockTimers clk k) := .parts ..

/-- The same cell with its beam at another position. -/
def Cell.withBeam (x : Cell) (b : Beam) : Cell := { x with beam := b }

theorem Keeps.withBeam {x y : Cell} (h : Keeps x y) (b : Beam) : Keeps (x.withBeam b) (y.withBeam b) :=
  { h with beam := rfl }

/-- Counted cycles that pass move the beam, and leave the rest that `Keeps` names. -/
theorem Keeps.advance (x : Cell) (k : Nat) :
    Keeps (x.withBeam { x.beam with fpos := x.beam.fpos + k }) (x.advance k) := by
  have f := Keeps.bltFlush x
  have p := Cell.advance_passed x k
  have reg : ∀ o, (x.advance k).reg o = x.bltFlush.reg o := fun o => Cell.reg_congr p.regs o
  exact {
    pc := by rw [p.cpu]; rfl
    gprs := by rw [p.cpu]; rfl
    straddle := by rw [p.cpu]; rfl
    beam := p.beam
    aud := p.aud
    armed := by rw [p.pic]; rfl
    staged := by rw [p.pic]; rfl
    apply := by rw [p.pic]; rfl
    active := by rw [p.pic]; rfl
    stagedRegs := by rw [p.pic]; rfl
    quiet := by rw [p.pic]; rfl
    lnl := by rw [p.pic]; rfl
    wf := fun w => by rw [Cell.regsWf, p.regs]; exact f.wf w
    regs := fun w o ho => (reg o).trans (f.regs w o ho)
    flags := fun w j hj => by rw [Cell.rbit, reg]; exact f.flags w j hj
    idr := fun h => by rw [p.out]; exact f.idr h }

/-- The beam goes on to position `p`, and does not go back. -/
theorem Keeps.advanceTo (x : Cell) (p : Nat) :
    Keeps (x.withBeam { x.beam with fpos := Nat.max x.beam.fpos p }) (x.advanceTo p) := by
  unfold Cell.advanceTo
  by_cases h : x.beam.fpos < p
  · have hp : Nat.max x.beam.fpos p = x.beam.fpos + (p - x.beam.fpos) := by
      rw [Nat.add_sub_cancel' (Nat.le_of_lt h)]
      exact Nat.max_eq_right (Nat.le_of_lt h)
    rw [if_pos h, hp]
    exact .advance ..
  · have hp : Nat.max x.beam.fpos p = x.beam.fpos := Nat.max_eq_left (Nat.le_of_not_lt h)
    rw [if_neg h, hp]
    exact .refl x

/-- A cell without a store that straddles a beam event has nothing to settle. -/
theorem Cell.settle_of_free {x : Cell} (h : x.cpu.straddle = none) : x.settle = x := by
  simp only [Cell.settle, h]

/-! ## Visibility of transfers (R177, R192) -/

theorem chReg_notin_held (ch : Fin 8) : chReg Reg.DMA_CHVIS ch ∉ Reg.RST_STAT :: heldRegs := by
  revert ch; decide

theorem Keeps.dropFence (x : Cell) (o : FenceOwner) : Keeps x (x.dropFence o) := by
  unfold Cell.dropFence
  extract_lets lo hi hit mem c
  have h : Keeps x c := .parts ..
  exact .ite (h.trans (.dirty _)) h

theorem Keeps.scanGuard (x : Cell) (spans : List (Nat × Nat)) (frame line : Nat) : Keeps x (x.scanGuard spans frame line) := by
  refine .foldl (fun x k => .ite ?_ (.refl x)) _ x
  exact (Keeps.ite ((Keeps.setReg x _ (by decide)).trans (.setReg _ _ (by decide))) (.refl x)).trans (.orReg _ _ (by decide))

theorem Keeps.dmaShow (x : Cell) (ch : Fin 8) (m : DmaMoveRec) : Keeps x (x.dmaShow ch m) := by
  unfold Cell.dmaShow
  extract_lets d c1 c2 c3 c4 c5
  have h1 : Keeps x c1 := .parts ..
  have h3 : Keeps x c3 := (h1.trans (.dropFence ..)).trans (.setReg _ _ (chReg_notin_held ch))
  have h4 : Keeps x c4 := by
    unfold c4
    cases m.vevt with
    | some e => exact h3.trans (.orReg _ _ (by decide))
    | none => exact h3
  have h5 : Keeps x c5 := .ite ((h4.trans (.orReg _ _ (by decide))).trans (.diverge ..)) h4
  exact .ite ((h5.trans (.dirty _)).trans (.scanGuard ..)) h5

theorem Keeps.dmaVisible (x : Cell) (ch : Fin 8) : Keeps x (x.dmaVisible ch) := by
  unfold Cell.dmaVisible
  split
  · exact .ite (.dmaShow ..) (.refl x)
  · exact .refl x

theorem Keeps.dmaLine (x : Cell) (ch : Fin 8) : Keeps x (x.dmaLine ch) := by
  unfold Cell.dmaLine
  extract_lets c1 d now c2
  have h1 : Keeps x c1 := .foldl (fun x _ => .dmaVisible x ch) _ x
  have h2 : Keeps c1 c2 := .parts ..
  exact .ite ((h1.trans h2).trans (.foldl (fun _ _ => (Keeps.diverge ..).trans (.orReg _ _ (by decide))) _ _)) h1

theorem Keeps.bltWriteBack (x : Cell) (b : Nat) (w : Word) : Keeps x (x.bltWriteBack b w) := .parts ..

theorem Keeps.bltShow (x : Cell) (q : BltCmd) (frame line : Nat) : Keeps x (x.bltShow q frame line) := by
  unfold Cell.bltShow
  extract_lets queue blt c1 c2 c3 c4 c5
  have h1 : Keeps x c1 := .parts ..
  have h2 : Keeps x c2 := ((h1.trans (.dropFence ..)).trans (.orReg _ _ (by decide))).trans (.dirty _)
  have h4 : Keeps x c4 := (h2.trans (.setReg _ _ (by decide))).trans (.bltWriteBack ..)
  have h5 : Keeps x c5 := .ite ((h4.trans (.orReg _ _ (by decide))).trans (.diverge ..)) h4
  exact h5.trans (.scanGuard ..)

theorem Keeps.bltLine (x : Cell) : Keeps x x.bltLine := by
  refine .foldl (fun x q => .ite (.refl x) (.ite (.bltShow ..) (.ite ?_ (.refl x)))) _ x
  exact (((Keeps.parts ..).trans (.diverge ..)).trans (.orReg _ _ (by decide))).trans (.bltWriteBack ..)

theorem Keeps.visibility (x : Cell) : Keeps x x.visibility :=
  (Keeps.foldl (fun x ch => .dmaLine x ch) _ x).trans (.bltLine _)

/-! ## What a line leaves for its end (R53, R207) -/

/-- Without a captured list no slot is left. -/
theorem Cell.lnlRest_none {x : Cell} (h : x.pic.lnl = none) : x.lnlRest = x := by
  have step : x.lnlStep = x := by simp only [Cell.lnlStep, h]
  have fold : ∀ l : List Nat, l.foldl (fun c _ => c.lnlStep) x = x := fun l => by
    induction l with
    | nil => rfl
    | cons a l ih => rw [List.foldl_cons, step, ih]
  exact fold _

theorem Keeps.bark (x : Cell) : Keeps x x.bark :=
  ((Keeps.orReg x _ (by decide)).trans (.setReg _ _ (by decide))).trans (.parts ..)

theorem Keeps.bite (x : Cell) : Keeps x x.bite := by
  unfold Cell.bite
  extract_lets ends c1 sess c2
  have h1 : Keeps x c1 := (Keeps.orReg x _ (by decide)).trans (.setReg _ _ (by decide))
  have h2 : Keeps x c2 := .ite (h1.trans (.parts ..)) h1
  exact h2.trans (.raise _ (by simp))

theorem Keeps.wdgDue (x : Cell) : Keeps x x.wdgDue := .ite (.ite (.bite x) (.bark x)) (.refl x)

theorem Keeps.makeReadable (x : Cell) (n : Nat) (m : InMsg) : Keeps x (x.makeReadable n m) := by
  unfold Cell.makeReadable
  extract_lets c0 str c1
  have h0 : Keeps x c0 := .ite (.diverge ..) (.refl x)
  have h1 : Keeps x c1 := h0.trans (.parts ..)
  exact .ite ((h1.trans (.orReg _ _ (by decide))).trans (.setReg _ _ (by decide)))
    ((h1.trans (.orReg _ _ (by decide))).trans (.parts ..))

theorem Keeps.inputApply (x : Cell) : Keeps x x.inputApply :=
  .foldl (fun _ _ => .ite (.parts ..) (.makeReadable ..)) _ x

theorem Keeps.inputLate (x : Cell) (n : Nat) : Keeps x (x.inputLate n) :=
  .foldl (fun _ _ => .ite (.parts ..) ((Keeps.diverge ..).trans (.makeReadable ..))) _ x

theorem Keeps.lineRest {x : Cell} (h : x.pic.lnl = none) : Keeps x x.lineRest := by
  unfold Cell.lineRest
  rw [Cell.lnlRest_none h]
  exact (Keeps.wdgDue x).trans (.inputApply _)

end Sys2Proof.Machine
end

