-- ==== Sys2Proof/Proofs/LineStart.lean ====
section
/-! PROOF. LINE_START (R13, R75, R87): the work of cycle 0 of a line in its order, what it commits and captures, and the statement. -/

namespace Sys2Proof.Machine

/-! ## Work that changes commits or the captured list -/

/-- The same cell with another picture. -/
def Cell.withPic (x : Cell) (p : Picture) : Cell := { x with pic := p }

theorem Keeps.withPic {x y : Cell} (h : Keeps x y) (p : Picture) : Keeps (x.withPic p) (y.withPic p) :=
  { h with armed := rfl, staged := rfl, apply := rfl, active := rfl, stagedRegs := rfl, quiet := rfl, lnl := rfl }

/-- Of the picture only the marks of an armed and of a staged commit are sure to stay; of the rest of the cell, what `Keeps`
names. -/
def KeepsCommit (x y : Cell) : Prop :=
  ∃ p : Picture, p.armed = x.pic.armed ∧ p.staged = x.pic.staged ∧ Keeps (x.withPic p) y

theorem Keeps.commit {x y : Cell} (h : Keeps x y) : KeepsCommit x y := ⟨x.pic, rfl, rfl, h⟩

theorem KeepsCommit.refl (x : Cell) : KeepsCommit x x := (Keeps.refl x).commit

theorem KeepsCommit.trans {x y z : Cell} (h : KeepsCommit x y) (g : KeepsCommit y z) : KeepsCommit x z := by
  obtain ⟨p, hpa, hps, hp⟩ := h
  obtain ⟨q, hqa, hqs, hq⟩ := g
  exact ⟨q, (hqa.trans hp.armed).trans hpa, (hqs.trans hp.staged).trans hps, (hp.withPic q).trans hq⟩

theorem KeepsCommit.ite {x a b : Cell} {p : Prop} [Decidable p] (ha : KeepsCommit x a) (hb : KeepsCommit x b) :
    KeepsCommit x (if p then a else b) := by
  by_cases h : p
  · rw [if_pos h]; exact ha
  · rw [if_neg h]; exact hb

/-! ## The parts of cycle 0 of a line -/

theorem Keeps.bltWatermark (x : Cell) (l : Nat) : Keeps x (x.bltWatermark l) :=
  .ite ((Keeps.orReg x _ (by decide)).trans (.parts ..)) (.refl x)

theorem Keeps.wdgLine (x : Cell) : Keeps x x.wdgLine := .ite (.setReg _ _ (by decide)) (.refl x)

theorem Keeps.reportTake (x : Cell) : Keeps x x.reportTake := by
  unfold Cell.reportTake
  split
  · exact .refl x
  · exact (Keeps.parts ..).trans (.raise _ (by simp))

theorem Keeps.clearAffine (x : Cell) : Keeps x x.clearAffine := .parts ..

theorem Keeps.underflowed (x : Cell) : Keeps x x.underflowed := (Keeps.orReg x _ (by decide)).trans (.dirty _)

theorem Keeps.showLine (x : Cell) (n : Nat) : Keeps x (x.showLine n) := by
  unfold Cell.showLine
  extract_lets r keep aff0 aff pic0 pic enc c1 c2 c3
  have h1 : Keeps x c1 := .parts ..
  have h2 : Keeps x c2 := h1.trans (.foldl (fun x _ => .ite (.diverge ..) (.refl x)) _ _)
  have h3 : Keeps x c3 := by
    refine h2.trans (.foldl (fun x q => ?_) _ _)
    extract_lets y
    have hy : Keeps x y := .foldl (fun _ _ => .diverge ..) _ x
    by_cases hq : q.1 ≠ 0 ∧ q.2 < 2
    · have hoff : Reg.PLN_BSTAT ∉ heldRegs := by decide
      rw [if_pos hq]; exact hy.trans (.orReg _ _ hoff)
    · rw [if_neg hq]; exact hy
  exact .ite (h3.trans (.underflowed _)) h3

theorem Keeps.sprShow (x : Cell) (n : Nat) (r : SprResult) : Keeps x (x.sprShow n r) := by
  unfold Cell.sprShow
  extract_lets st c1
  have h1 : Keeps x c1 := by
    unfold c1
    cases r.ovf with
    | none => exact .refl x
    | some q =>
      exact (Keeps.ite ((Keeps.setReg x _ (by decide)).trans (.setReg _ _ (by decide))) (.refl x)).trans
        (.orReg _ _ (by decide))
  exact (h1.trans (.orReg _ _ (by decide))).trans (.setReg _ _ (by decide))

theorem Keeps.sprReport (x : Cell) (n : Nat) : Keeps x (x.sprReport n) := by
  unfold Cell.sprReport
  exact .ite (.sprShow ..) ((Keeps.parts ..).trans (.sprShow ..))

theorem Keeps.sprNext (x : Cell) (n : Nat) : Keeps x (x.sprNext n) := .parts ..

theorem Keeps.startFetch (x : Cell) (l : FetchLayer) (frame n : Nat) (b : BitmapSet) (mem : Memory) (base : Nat) (now : Bool) :
    Keeps x (x.startFetch l frame n b mem base now) := by
  unfold Cell.startFetch
  split
  · exact .refl x
  · exact .parts ..

theorem Keeps.fetchStart (x : Cell) (n : Nat) : Keeps x (x.fetchStart n) := by
  unfold Cell.fetchStart
  extract_lets lead go t bm c1 u o
  have h1 : Keeps x c1 := .ite ((Keeps.startFetch ..).trans (.startFetch ..)) (.refl x)
  exact .ite (h1.trans (.startFetch ..)) h1

/-! ## Line VACTIVE (R109, R143, R147) -/

theorem Keeps.retireLayer (x : Cell) {k : Nat} (hk : k < 2) : Keeps x (x.retireLayer k) := by
  have hoff : Reg.PLN_BRET + 0x20 * k ∉ Reg.RST_STAT :: heldRegs := by
    revert k; decide
  exact .ite (((Keeps.parts ..).trans (.setReg _ _ hoff)).trans (.orReg _ _ (by decide))) (.refl x)

theorem Keeps.latchRegion (x : Cell) {k : Nat} (hk : k < 6) : Keeps x (x.latchRegion k) := by
  have hoff : Reg.SIG_RGNRES + 0x20 * k ∉ Reg.RST_STAT :: heldRegs := by
    revert k; decide
  have h1 := Keeps.setReg x (x.regionResult k) hoff
  exact .ite (h1.trans (.orReg _ _ (by decide))) h1

theorem Keeps.latchOperator (x : Cell) (second : Bool) : Keeps x (x.latchOperator second) := by
  unfold Cell.latchOperator
  extract_lets o g region was r bad ov pic c1 c2 c3
  have h1 : Keeps x c1 := (Keeps.parts ..).trans (.raise _ (by simp))
  have h2 : Keeps x c2 := .ite (h1.trans (.raise _ (by simp))) h1
  have h3 : Keeps x c3 := .ite (h2.trans (.raise _ (by simp))) h2
  exact .ite (h3.trans (.raise _ (by simp))) h3

theorem Keeps.latchSignatures (x : Cell) : Keeps x x.latchSignatures := by
  unfold Cell.latchSignatures
  extract_lets c1 c2 crc c3
  have h1 : Keeps x c1 := .foldl_mem _ (fun k hk x => .latchRegion x (List.mem_range.mp hk)) x
  have h2 : Keeps x c2 := (h1.trans (.latchOperator ..)).trans (.latchOperator ..)
  have h3 : Keeps x c3 := (h2.trans (.setReg _ _ (by decide))).trans (.setReg _ _ (by decide))
  exact (h3.trans (.orReg _ _ (by decide))).trans (.raise _ (by simp))

/-- A frame register set in all its copies changes the copies and the register. -/
theorem KeepsCommit.setAllCopies (x : Cell) {off : Nat} (v : Word) (h : off ∉ Reg.RST_STAT :: heldRegs) :
    KeepsCommit x (x.setAllCopies off v) :=
  (Keeps.setReg x v h).commit.trans ⟨(x.setAllCopies off v).pic, rfl, rfl, .refl (x.setAllCopies off v)⟩

theorem KeepsCommit.overlayStage (x : Cell) : KeepsCommit x x.overlayStage := by
  unfold Cell.overlayStage
  split
  · refine .ite ?_ (.refl x)
    extract_lets overlay pic c1
    have h1 : Keeps x c1 := .parts ..
    exact ((h1.commit.trans (.setAllCopies _ _ (by decide))).trans (Keeps.dirty _).commit).trans (Keeps.raise _ (by simp)).commit
  · exact .refl x

theorem KeepsCommit.blankStart (x : Cell) : KeepsCommit x x.blankStart :=
  (((Keeps.retireLayer x (by decide)).trans (.retireLayer _ (by decide))).trans (.latchSignatures _)).commit.trans
    (.overlayStage _)

/-! ## Line CL (R75, R87) -/

theorem Keeps.clLine {x y : Cell} (h : Keeps x y) : y.clLine = x.clLine := by
  simp only [Cell.clLine, Cell.act, h.active]

theorem Keeps.rbit {x y : Cell} (h : Keeps x y) (w : x.regsWf = true) {o : Nat} (ho : o ∈ heldRegs) (k : Nat) :
    y.rbit o k = x.rbit o k := by
  simp only [Cell.rbit, h.regs w o ho]

theorem Cell.rbit_orReg_set {x : Cell} (off k : Nat) (hk : k < 32) (w : x.regsWf = true) :
    (x.orReg off (2 ^ k)).rbit off k = true := by
  rw [Cell.rbit, Cell.reg_orReg_same _ _ w, BitVec.getLsbD_or, BitVec.getLsbD_ofNat, Nat.testBit_two_pow_self]
  simp [hk]

/-- What the commits and RST_STAT are behind cycle 0 of line `n`: at line CL the flag CL is set and a commit armed for the
next frame is taken; at any other line no commit changes. -/
structure CommitOf (x y : Cell) (n : Nat) : Prop where
  flag  : n = x.clLine → y.rbit Reg.RST_STAT 2 = true
  taken : n = x.clLine → x.pic.armed = true → x.pic.applyFrame = x.beam.frame + 1 →
    y.pic.armed = false ∧ y.pic.staged = true
  other : n ≠ x.clLine → y.pic.armed = x.pic.armed ∧ y.pic.staged = x.pic.staged

theorem CommitOf.after {x y z : Cell} {n : Nat} (h : CommitOf x y n) (g : KeepsCommit y z) (w : y.regsWf = true) :
    CommitOf x z n := by
  obtain ⟨p, hpa, hps, hp⟩ := g
  have hwp : (y.withPic p).regsWf = true := w
  refine ⟨fun e => hp.flags hwp 2 (h.flag e), fun e ha hf => ?_, fun e => ?_⟩
  · rw [hp.armed, hp.staged]
    obtain ⟨hna, hns⟩ := h.taken e ha hf
    exact ⟨hpa.trans hna, hps.trans hns⟩
  · rw [hp.armed, hp.staged]
    obtain ⟨hna, hns⟩ := h.other e
    exact ⟨hpa.trans hna, hps.trans hns⟩

theorem CommitOf.before {x y z : Cell} {n : Nat} (h : Keeps x y) (g : CommitOf y z n) : CommitOf x z n := by
  obtain ⟨gf, gt, go⟩ := g
  rw [h.clLine] at gf gt go
  rw [h.armed, h.apply, h.beam] at gt
  rw [h.armed, h.staged] at go
  exact ⟨gf, gt, go⟩

/-- The picture behind the take of a commit. -/
theorem Cell.commitTake_keeps (x : Cell) : ∃ p : Picture, p.armed = false ∧ p.staged = true ∧
    Keeps (x.withPic p) x.commitTake :=
  ⟨_, rfl, rfl, .orReg _ _ (by decide)⟩

theorem Cell.commitLine_keeps (x : Cell) (n : Nat) : ∃ p, Keeps (x.withPic p) (x.commitLine n) := by
  unfold Cell.commitLine
  dsimp only
  split
  · have h1 : Keeps x (x.orReg Reg.RST_STAT 4) := .orReg _ _ (by decide)
    split
    · obtain ⟨p, -, -, hp⟩ := (x.orReg Reg.RST_STAT 4).commitTake_keeps
      exact ⟨p, (h1.withPic p).trans hp⟩
    · exact ⟨x.pic, h1⟩
  · exact ⟨x.pic, .refl x⟩

theorem Cell.commitLine_commitOf (x : Cell) (n : Nat) (w : x.regsWf = true) : CommitOf x (x.commitLine n) n := by
  by_cases hn : n = x.clLine
  · have hflag : (x.orReg Reg.RST_STAT 4).rbit Reg.RST_STAT 2 = true := Cell.rbit_orReg_set _ 2 (by decide) w
    have hw1 : (x.orReg Reg.RST_STAT 4).regsWf = true := Cell.regsWf_orReg _ _ w
    obtain ⟨p, hpa, hps, hp⟩ := (x.orReg Reg.RST_STAT 4).commitTake_keeps
    have hwp : ((x.orReg Reg.RST_STAT 4).withPic p).regsWf = true := hw1
    simp only [Cell.commitLine, if_pos hn]
    split
    case isTrue =>
      exact ⟨fun _ => hp.flags hwp 2 hflag, fun _ _ _ => ⟨hp.armed.trans hpa, hp.staged.trans hps⟩, fun h => absurd hn h⟩
    case isFalse hno =>
      exact ⟨fun _ => hflag, fun _ ha hf => absurd (by simpa using ⟨ha, hf⟩) hno, fun h => absurd hn h⟩
  · simp only [Cell.commitLine, if_neg hn]
    exact ⟨fun h => absurd h hn, fun h => absurd h hn, fun _ => ⟨rfl, rfl⟩⟩

/-! ## A line starts -/

/-- The captured list is the one that LNL_CTL asks for, and nothing else changes. -/
theorem Cell.lnlCapture_keeps (x : Cell) (n frame : Nat) : ∃ p : Picture, p.armed = x.pic.armed ∧ p.staged = x.pic.staged ∧
    p.lnl.isSome = x.rbit Reg.LNL_CTL 0 ∧ Keeps (x.withPic p) (x.lnlCapture n frame) := by
  refine ⟨(x.lnlCapture n frame).pic, rfl, rfl, ?_, .refl _⟩
  unfold Cell.lnlCapture
  dsimp only
  cases x.rbit Reg.LNL_CTL 0 <;> rfl

/-- What a line start leaves, from a cell `x` whose beam has come to cycle 0 of line `n`. -/
structure LineBegun (x y : Cell) (n : Nat) : Prop where
  beam     : y.beam = { x.beam with started := n + 1 }
  pc       : y.cpu.pc = x.cpu.pc
  gprs     : y.cpu.x = x.cpu.x
  straddle : y.cpu.straddle = x.cpu.straddle
  list     : y.pic.lnl.isSome = x.rbit Reg.LNL_CTL 0
  commit   : CommitOf x y n
  idr      : CellEvent.idr ∉ x.outbox → CellEvent.idr ∉ y.outbox

theorem LineBegun.of_keeps {x y : Cell} {n : Nat} {p : Picture}
    (k : Keeps ((x.withBeam { x.beam with started := n + 1 }).withPic p) y)
    (hlist : y.pic.lnl.isSome = x.rbit Reg.LNL_CTL 0) (hcommit : CommitOf x y n) : LineBegun x y n :=
  ⟨k.beam, k.pc, k.gprs, k.straddle, hlist, hcommit, k.idr⟩

/-- The work of cycle 0 before the line is shown. -/
theorem Keeps.lineCounts (x : Cell) (l n : Nat) :
    Keeps x (((((x.bltWatermark l).clockTimers 1 1).wdgLine).reportTake).inputLate n) :=
  ((((Keeps.bltWatermark x l).trans (.clockTimers ..)).trans (.wdgLine _)).trans (.reportTake _)).trans (.inputLate ..)

theorem Cell.lineBody_begun (x : Cell) (n : Nat) (w : x.regsWf = true) : LineBegun x (x.lineBody n) n := by
  unfold Cell.lineBody
  extract_lets beam c1 c2 c3 c4 c5 next
  have h3 : Keeps c1 c3 := (Keeps.lineCounts c1 _ n).trans (.ite
    ((Keeps.ite (.clearAffine c2) (.showLine c2 n)).trans (.sprReport ..)) (.clearAffine c2))
  have w1 : c1.regsWf = true := w
  have w3 : c3.regsWf = true := h3.wf w1
  obtain ⟨p4, h4⟩ := c3.commitLine_keeps n
  have w4 : c4.regsWf = true := h4.wf w3
  have h5 : KeepsCommit c4 (c5.sprNext n) :=
    (KeepsCommit.ite (KeepsCommit.blankStart c4) (.refl c4)).trans (Keeps.sprNext c5 n).commit
  obtain ⟨p5, ha5, hs5, k5⟩ := h5
  obtain ⟨p6, ha6, hs6, hl6, k6⟩ := (c5.sprNext n).lnlCapture_keeps next.1 next.2
  have k7 := Keeps.fetchStart ((c5.sprNext n).lnlCapture next.1 next.2) n
  have kAll : Keeps (c1.withPic p6) (((c5.sprNext n).lnlCapture next.1 next.2).fetchStart n) :=
    ((((h3.withPic p6).trans (h4.withPic p6)).trans (k5.withPic p6)).trans k6).trans k7
  have kEnd : KeepsCommit c4 (((c5.sprNext n).lnlCapture next.1 next.2).fetchStart n) :=
    (KeepsCommit.trans ⟨p5, ha5, hs5, k5⟩ ⟨p6, ha6, hs6, k6⟩).trans k7.commit
  have hctl : (c5.sprNext n).rbit Reg.LNL_CTL 0 = x.rbit Reg.LNL_CTL 0 := by
    have hw4 : (c4.withPic p5).regsWf = true := w4
    have hw3 : (c3.withPic p4).regsWf = true := w3
    rw [k5.rbit hw4 (by decide)]
    exact (h4.rbit hw3 (by decide) 0).trans (h3.rbit w1 (by decide) 0)
  have hend : CommitOf c1 _ n := (CommitOf.before h3 (c3.commitLine_commitOf n w3)).after kEnd w4
  have hlist : (((c5.sprNext n).lnlCapture next.1 next.2).fetchStart n).pic.lnl.isSome = x.rbit Reg.LNL_CTL 0 := by
    rw [k7.lnl, k6.lnl]
    exact hl6.trans hctl
  exact .of_keeps kAll hlist ⟨hend.flag, hend.taken, hend.other⟩

/-- An event at a position is its work between two notes of event times. -/
theorem Cell.event_eq (x : Cell) (p : Nat) (f : Cell → Cell) :
    ∃ e, x.event p f = { f { x with evt := { x.evt with last := p } } with evt := e } := ⟨_, rfl⟩

/-- What LINE_START leaves in its cell. -/
structure LineStarted (x y : Cell) : Prop where
  started : y.beam.started = x.beam.started + 1
  frame   : y.beam.frame = x.beam.frame
  inPorch : y.beam.inPorch = false
  fpos    : y.beam.fpos = Nat.max x.beam.fpos (x.beam.started * x.cpl)
  pc      : y.cpu.pc = x.cpu.pc
  gprs    : y.cpu.x = x.cpu.x
  list    : y.pic.lnl.isSome = x.rbit Reg.LNL_CTL 0
  commit  : CommitOf x y x.beam.started
  idr     : CellEvent.idr ∉ y.outbox

theorem LineStarted.congr_evt {x y : Cell} {e e' : EventTimes} (h : LineStarted { x with evt := e } y) :
    LineStarted x { y with evt := e' } :=
  ⟨h.started, h.frame, h.inPorch, h.fpos, h.pc, h.gprs, h.list, ⟨h.commit.flag, h.commit.taken, h.commit.other⟩, h.idr⟩

/-- The beam comes to a position once what the line leaves is done. -/
theorem Keeps.toPosition {x : Cell} (hl : x.pic.lnl = none) (p : Nat) :
    Keeps (x.withBeam { x.beam with fpos := Nat.max x.beam.fpos p }) (x.lineRest.advanceTo p) := by
  have h1 := Keeps.lineRest hl
  have h2 := Keeps.advanceTo x.lineRest p
  rw [h1.beam] at h2
  exact (h1.withBeam _).trans h2

/-- At cycle 0 of a line transfers become visible. -/
theorem Keeps.toLine {x : Cell} (hl : x.pic.lnl = none) (p : Nat) :
    Keeps (x.withBeam { x.beam with fpos := Nat.max x.beam.fpos p }) ((x.lineRest.advanceTo p).visibility) :=
  (Keeps.toPosition hl p).trans (.visibility _)

theorem LineBegun.lineStarted {x z y : Cell} (h : Keeps
    (x.withBeam { x.beam with fpos := Nat.max x.beam.fpos (x.beam.started * x.cpl) }) z) (g : LineBegun z y x.beam.started)
    (hp : x.beam.inPorch = false) (w : x.regsWf = true) (ho : CellEvent.idr ∉ x.outbox) : LineStarted x y := by
  have hc := CommitOf.before h g.commit
  exact {
    started := by rw [g.beam]
    frame := by rw [g.beam, h.beam]; rfl
    inPorch := by rw [g.beam, h.beam]; exact hp
    fpos := by rw [g.beam, h.beam]; rfl
    pc := g.pc.trans h.pc
    gprs := g.gprs.trans h.gprs
    list := g.list.trans (h.rbit w (by decide) 0)
    commit := ⟨hc.flag, hc.taken, hc.other⟩
    idr := g.idr (h.idr ho) }

theorem Cell.lineStart_started {x : Cell} (hd : x.lineDue = true) (hl : x.pic.lnl = none) (hs : x.cpu.straddle = none)
    (w : x.regsWf = true) (ho : CellEvent.idr ∉ x.outbox) : LineStarted x x.lineStart := by
  have hp : x.beam.inPorch = false := by
    simp only [Cell.lineDue, Bool.and_eq_true, Bool.not_eq_true'] at hd
    exact hd.1.2
  have h := Keeps.toLine hl (x.beam.started * x.cpl)
  have g := Cell.lineBody_begun ((x.lineRest.advanceTo (x.beam.started * x.cpl)).visibility) x.beam.started (h.wf w)
  have hfree : (Cell.lineBody _ x.beam.started).cpu.straddle = none := g.straddle.trans (h.straddle.trans hs)
  have hstart : x.lineStart = ((x.lineRest.advanceTo (x.beam.started * x.cpl)).visibility).lineBody x.beam.started := by
    simp only [Cell.lineStart, hd, Bool.not_true, Bool.false_eq_true, if_false]
    exact Cell.settle_of_free hfree
  rw [hstart]
  exact g.lineStarted h hp w ho

/-- LINE_START as an event of its counted cycle (R42). -/
theorem Cell.lineStart_event_started {x : Cell} (hd : x.lineDue = true) (hl : x.pic.lnl = none)
    (hs : x.cpu.straddle = none) (w : x.regsWf = true) (ho : CellEvent.idr ∉ x.outbox) :
    LineStarted x (x.event x.lineNext Cell.lineStart) := by
  obtain ⟨e, he⟩ := x.event_eq x.lineNext Cell.lineStart
  rw [he]
  exact (Cell.lineStart_started (x := { x with evt := { x.evt with last := x.lineNext } }) hd hl hs w ho).congr_evt

/-- LINE_START of a line that is due: the line's work in its cell, and the copy of a resync that its line lets pass. -/
theorem exec_lineStart_due {s : State} {c : CellId} {x : Cell} (hb : Beaming s c x) (hd : x.lineDue = true)
    (hl : x.pic.lnl = none) : ∃ t, exec (.lineStart c) s = .next t ∧ SameDevice s t ∧ LineStarted x (t.cell c) := by
  have hstarted := Cell.lineStart_event_started hd hl hb.free hb.wf (by rw [hb.out]; exact List.not_mem_nil)
  have hcell : s.cell c = x := hb.eq
  subst hcell
  have hdrain := (Beside.copyDrain (s.onCell c fun x => x.event x.lineNext Cell.lineStart) c).aside
  refine ⟨_, rfl, ?_⟩
  rw [if_pos hd]
  refine ⟨(State.onCell_only s c _ hstarted.idr).1.trans hdrain.dev, ?_⟩
  rw [hdrain.cell, State.onCell_cell s c _ hstarted.idr]
  exact ⟨hstarted.started, hstarted.frame, hstarted.inPorch, hstarted.fpos, hstarted.pc, hstarted.gprs, hstarted.list,
    ⟨hstarted.commit.flag, hstarted.commit.taken, hstarted.commit.other⟩, List.not_mem_nil⟩

/-- The general registers are those of the register vector. -/
theorem Cell.x_congr {x y : Cell} (h : y.cpu.x = x.cpu.x) (r : Reg) : y.x r = x.x r := by
  simp only [Cell.x, h]

/-- Settles O21: what a line start leaves in its cell, and that the device beside stays. -/
theorem lineStart : Obligations.LineStart := by
  unfold Obligations.LineStart
  intro s c x hb hd hl
  obtain ⟨t, hstep, hdev, h⟩ := exec_lineStart_due hb hd hl
  exact ⟨t, hstep, hdev, h.started, h.frame, h.inPorch, h.fpos, h.pc, Cell.x_congr h.gprs, h.list,
    fun e => ⟨h.commit.flag e, h.commit.taken e⟩, h.commit.other⟩

end Sys2Proof.Machine
end

