-- ==== Sys2Proof/Proofs/FramesAndPorches.lean ====
section
/-! PROOF. PORCH_START and FRAME_BOUNDARY (R12, R45, R75, R86): the porch with its correction and carry, the frame that ends and
the frame that begins, and the statement. -/

namespace Sys2Proof.Machine

/-! ## The porch (R45) -/

/-- The correction of a porch is at most 4 cycles, and none in holdover. -/
theorem State.porchDelta_bounds (s : State) (delta : Int) : -4 ≤ s.porchDelta delta ∧ s.porchDelta delta ≤ 4 ∧
    (s.house.loop = .holdover → s.porchDelta delta = 0) := by
  unfold State.porchDelta
  refine ⟨?low, ?high, fun h => if_pos h⟩
  case low => split <;> omega
  case high => split <;> omega

/-- Without slip the porch is the programmed one with its correction and the carry; what falls below 0 is carried on. -/
theorem porchSplit_no_slip (porch : Nat) (delta carry : Int) : porchSplit porch delta carry 0 =
    (((porch : Int) + delta + carry).toNat, min 0 ((porch : Int) + delta + carry), 0) := by
  have hcut : Nat.min (Nat.min 0 256) ((porch : Int) + delta + carry).toNat = 0 := by
    rw [show Nat.min 0 256 = 0 from rfl]
    exact Nat.zero_min _
  simp only [porchSplit, hcut, Nat.sub_zero, Prod.mk.injEq, true_and, and_true]
  split <;> omega

/-- What PORCH_START leaves in its cell. -/
structure PorchBegun (x y : Cell) (delta : Int) : Prop where
  beam : y.beam = { x.beam with
    fpos := Nat.max x.beam.fpos x.counted, inPorch := true
    porchLen := ((x.porch : Int) + delta + x.beam.porchCarry).toNat
    porchCarry := min 0 ((x.porch : Int) + delta + x.beam.porchCarry) }
  idr  : CellEvent.idr ∉ y.outbox

theorem Cell.porchStart_begun {x : Cell} (hd : x.frameDone = true) (hp : x.beam.inPorch = false) (hl : x.pic.lnl = none)
    (ho : CellEvent.idr ∉ x.outbox) (delta : Int) : PorchBegun x (x.porchStart delta 0).1 delta := by
  have h := Keeps.toPosition hl x.counted
  have hidr := h.idr ho
  simp only [Cell.porchStart, hd, hp, Bool.not_false, Bool.and_true, if_true, porchSplit_no_slip, h.beam]
  exact ⟨rfl, hidr⟩

/-- PORCH_START of a running device whose cell has no slip to absorb. -/
theorem exec_porchStart_done {s : State} {c : CellId} {x : Cell} (hb : Beaming s c x) (hup : s.up = true)
    (hd : x.frameDone = true) (hp : x.beam.inPorch = false) (hl : x.pic.lnl = none) (hm : s.mirrorState c ≠ 4) (delta : Int) :
    ∃ t, exec (.porchStart c delta) s = .next t ∧ SameDevice s t ∧ PorchBegun x (t.cell c) (s.porchDelta delta) := by
  have ho : CellEvent.idr ∉ x.outbox := by rw [hb.out]; exact List.not_mem_nil
  have h := Cell.porchStart_begun hd hp hl ho (s.porchDelta delta)
  have hcell : s.cell c = x := hb.eq
  subst hcell
  have hslip : s.slipOf c = 0 := if_neg hm
  have hporch : s.porch c delta = s.onCell c fun x => (x.porchStart (s.porchDelta delta) 0).1 := by
    simp only [State.porch, hslip, if_true]
  refine ⟨_, rfl, ?_⟩
  rw [if_pos hup, hporch]
  refine ⟨(State.onCell_only s c _ h.idr).1, ?_⟩
  rw [State.onCell_cell s c _ h.idr]
  exact ⟨h.beam, List.not_mem_nil⟩

/-! ## The frame that ends (R86) -/

/-- Add to a counter register. -/
def Cell.addReg (x : Cell) (off k : Nat) : Cell := x.setReg off (x.reg off + BitVec.ofNat 32 k)

/-- The frame that ends counts in ID_QFRAMES or in ID_AFRAMES. -/
def Cell.countFrame (x : Cell) : Cell := if x.pic.quiet then x.addReg Reg.ID_QFRAMES 1 else x.addReg Reg.ID_AFRAMES 1

theorem Cell.countFrame_eq (x : Cell) : x.countFrame = { x with regs := x.countFrame.regs } := by
  unfold Cell.countFrame
  split <;> rfl

theorem Cell.regsWf_countFrame {x : Cell} (w : x.regsWf = true) : x.countFrame.regsWf = true := by
  unfold Cell.countFrame
  split
  · exact Cell.regsWf_setReg _ _ w
  · exact Cell.regsWf_setReg _ _ w

theorem Cell.countFrame_reg_other {x : Cell} (w : x.regsWf = true) {o : Nat} (ha : o ≠ Reg.ID_AFRAMES)
    (hq : o ≠ Reg.ID_QFRAMES) : x.countFrame.reg o = x.reg o := by
  unfold Cell.countFrame
  split
  · exact Cell.reg_setReg_other _ w hq
  · exact Cell.reg_setReg_other _ w ha

theorem Cell.countFrame_aframes {x : Cell} (w : x.regsWf = true) : x.countFrame.reg Reg.ID_AFRAMES =
    if x.pic.quiet then x.reg Reg.ID_AFRAMES else x.reg Reg.ID_AFRAMES + 1 := by
  unfold Cell.countFrame
  split
  · exact Cell.reg_setReg_other _ w (by decide)
  · exact Cell.reg_setReg_same _ _ w

theorem Cell.countFrame_qframes {x : Cell} (w : x.regsWf = true) : x.countFrame.reg Reg.ID_QFRAMES =
    if x.pic.quiet then x.reg Reg.ID_QFRAMES + 1 else x.reg Reg.ID_QFRAMES := by
  unfold Cell.countFrame
  split
  · exact Cell.reg_setReg_same _ _ w
  · exact Cell.reg_setReg_other _ w (by decide)

/-- The end of a frame: its remaining work, its count, and what the meter is handed. -/
theorem Cell.frameEnd_keeps (x : Cell) : Keeps (x.lineRest.advanceTo x.counted).countFrame x.frameEnd :=
  ((Keeps.setReg _ _ (by decide)).trans (.parts ..)).trans (.raise _ (by simp))

theorem Keeps.counted {x y : Cell} (h : Keeps x y) (w : x.regsWf = true) : y.counted = x.counted := by
  simp only [Cell.counted, Cell.vtotal, Cell.cpl, Cell.fld, h.regs w Reg.RST_VTIME (by decide),
    h.regs w Reg.RST_HTIME (by decide)]

theorem Cell.countFrame_counted {x : Cell} (w : x.regsWf = true) : x.countFrame.counted = x.counted := by
  simp only [Cell.counted, Cell.vtotal, Cell.cpl, Cell.fld, Cell.countFrame_reg_other w (o := Reg.RST_VTIME) (by decide)
    (by decide), Cell.countFrame_reg_other w (o := Reg.RST_HTIME) (by decide) (by decide)]

/-- What the end of a frame leaves in its cell. -/
structure FrameEnded (x y : Cell) : Prop where
  beam       : y.beam = { x.beam with fpos := Nat.max x.beam.fpos x.counted }
  pc         : y.cpu.pc = x.cpu.pc
  straddle   : y.cpu.straddle = x.cpu.straddle
  staged     : y.pic.staged = x.pic.staged
  active     : y.pic.activeRegs = x.pic.activeRegs
  stagedRegs : y.pic.stagedRegs = x.pic.stagedRegs
  counted    : y.counted = x.counted
  aframes    : y.reg Reg.ID_AFRAMES = if x.pic.quiet then x.reg Reg.ID_AFRAMES else x.reg Reg.ID_AFRAMES + 1
  qframes    : y.reg Reg.ID_QFRAMES = if x.pic.quiet then x.reg Reg.ID_QFRAMES + 1 else x.reg Reg.ID_QFRAMES
  wf         : y.regsWf = true
  idr        : CellEvent.idr ∉ y.outbox

/-- The count of the frame between work that keeps the rest. -/
theorem FrameEnded.of_counted {x z y : Cell} (h : Keeps (x.withBeam { x.beam with fpos := Nat.max x.beam.fpos x.counted }) z)
    (k : Keeps z.countFrame y) (w : x.regsWf = true) (ho : CellEvent.idr ∉ x.outbox) : FrameEnded x y := by
  have wz : z.regsWf = true := h.wf w
  have wc := Cell.regsWf_countFrame wz
  have hc := z.countFrame_eq
  have hA : z.reg Reg.ID_AFRAMES = x.reg Reg.ID_AFRAMES := h.regs w _ (by decide)
  have hQ : z.reg Reg.ID_QFRAMES = x.reg Reg.ID_QFRAMES := h.regs w _ (by decide)
  have hq : z.pic.quiet = x.pic.quiet := h.quiet
  exact {
    beam := by rw [k.beam, hc]; exact h.beam
    pc := by rw [k.pc, hc]; exact h.pc
    straddle := by rw [k.straddle, hc]; exact h.straddle
    staged := by rw [k.staged, hc]; exact h.staged
    active := by rw [k.active, hc]; exact h.active
    stagedRegs := by rw [k.stagedRegs, hc]; exact h.stagedRegs
    counted := ((k.counted wc).trans (Cell.countFrame_counted wz)).trans (h.counted w)
    aframes := by rw [k.regs wc _ (by decide), Cell.countFrame_aframes wz, hq, hA]
    qframes := by rw [k.regs wc _ (by decide), Cell.countFrame_qframes wz, hq, hQ]
    wf := k.wf wc
    idr := k.idr (by rw [hc]; exact h.idr ho) }

theorem Cell.frameEnd_ended {x : Cell} (hl : x.pic.lnl = none) (w : x.regsWf = true) (ho : CellEvent.idr ∉ x.outbox) :
    FrameEnded x x.frameEnd := .of_counted (.toPosition hl x.counted) x.frameEnd_keeps w ho

/-! ## The frame that begins (R12, R75) -/

/-- A staged commit applies with RST_STAT.APPLIED; behind a boundary none is staged. -/
theorem Cell.commitApply_keeps (x : Cell) : ∃ p : Picture, p.staged = false ∧
    p.activeRegs = (if x.pic.staged then x.pic.stagedRegs else x.pic.activeRegs) ∧ Keeps (x.withPic p) x.commitApply := by
  unfold Cell.commitApply
  cases hs : x.pic.staged with
  | true => exact ⟨_, rfl, rfl, .orReg _ _ (by decide)⟩
  | false => exact ⟨x.pic, hs, rfl, .refl x⟩

theorem Cell.commitApply_flag {x : Cell} (hs : x.pic.staged = true) (w : x.regsWf = true) :
    x.commitApply.rbit Reg.RST_STAT 1 = true := by
  simp only [Cell.commitApply, hs, if_true]
  exact Cell.rbit_orReg_set _ 1 (by decide) w

theorem Keeps.overlayApply (x : Cell) : Keeps x x.overlayApply := by
  unfold Cell.overlayApply
  split
  · exact .parts ..
  · exact .refl x

theorem Keeps.encBoundary (x : Cell) (frame : Nat) (quiet composed : Bool) : Keeps x (x.encBoundary frame quiet composed) :=
  .parts ..

theorem Keeps.traceFrame (x : Cell) : Keeps x x.traceFrame := .ite (.raise _ (by simp)) (.refl x)

/-- What the work at the begin of a frame does behind the commit. -/
theorem Cell.beginFrame_keeps (x : Cell) : ∃ p : Picture, p.staged = x.commitApply.pic.staged ∧
    p.activeRegs = x.commitApply.pic.activeRegs ∧ Keeps (x.commitApply.withPic p) x.beginFrame := by
  unfold Cell.beginFrame
  extract_lets applied composed c1 quiet pic c2 c3 pic3 c4
  have h1 : Keeps x.commitApply c1 := .overlayApply _
  have h3 : Keeps c2 c3 := (Keeps.encBoundary ..).trans (.clockTimers ..)
  have h4 : Keeps c2 c4 := h3.trans (.parts ..)
  refine ⟨c2.pic, h1.staged, h1.active, (h1.withPic c2.pic).trans ?_⟩
  exact .ite (h4.trans (.raise _ (by simp))) h4

/-- What FRAME_BOUNDARY of a session that goes on leaves in its cell. -/
structure FrameBegun (x y : Cell) : Prop where
  frame   : y.beam.frame = x.beam.frame + 1
  started : y.beam.started = 0
  fpos    : y.beam.fpos = 0
  inPorch : y.beam.inPorch = false
  pc      : y.cpu.pc = x.cpu.pc
  next    : y.aud.next = 0
  staged  : y.pic.staged = false
  active  : y.pic.activeRegs = if x.pic.staged then x.pic.stagedRegs else x.pic.activeRegs
  applied : x.pic.staged = true → y.rbit Reg.RST_STAT 1 = true
  aframes : y.reg Reg.ID_AFRAMES = if x.pic.quiet then x.reg Reg.ID_AFRAMES else x.reg Reg.ID_AFRAMES + 1
  qframes : y.reg Reg.ID_QFRAMES = if x.pic.quiet then x.reg Reg.ID_QFRAMES + 1 else x.reg Reg.ID_QFRAMES
  idr     : CellEvent.idr ∉ y.outbox

theorem FrameBegun.congr_evt {x y : Cell} {e e' : EventTimes} (h : FrameBegun { x with evt := e } y) :
    FrameBegun x { y with evt := e' } :=
  ⟨h.frame, h.started, h.fpos, h.inPorch, h.pc, h.next, h.staged, h.active, h.applied, h.aframes, h.qframes, h.idr⟩

/-- The frame begins behind the end of the one before: beam and audio at their start, the staged commit applied. -/
theorem Cell.beginFrame_begun {x z : Cell} (h : FrameEnded x z) (hp : x.beam.fpos ≤ x.counted) :
    FrameBegun x z.wrapFrame.beginFrame.traceFrame := by
  have ww : z.wrapFrame.regsWf = true := h.wf
  obtain ⟨p, hps, hpa, hp1⟩ := z.wrapFrame.commitApply_keeps
  obtain ⟨q, hqs, hqa, hq1⟩ := z.wrapFrame.beginFrame_keeps
  have hcw : z.wrapFrame.commitApply.regsWf = true := hp1.wf ww
  have k : Keeps (z.wrapFrame.withPic q) z.wrapFrame.beginFrame.traceFrame :=
    ((hp1.withPic q).trans hq1).trans (.traceFrame _)
  have kq : Keeps (z.wrapFrame.commitApply.withPic q) z.wrapFrame.beginFrame.traceFrame := hq1.trans (.traceFrame _)
  have hfpos : Nat.max x.beam.fpos x.counted - z.counted = 0 := by
    rw [h.counted]; exact Nat.sub_eq_zero_of_le (Nat.max_le.mpr ⟨hp, Nat.le_refl _⟩)
  exact {
    frame := by rw [k.beam]; exact congrArg (·.frame + 1) h.beam
    started := by rw [k.beam]; rfl
    fpos := by rw [k.beam]; exact (congrArg (·.fpos - z.counted) h.beam).trans hfpos
    inPorch := by rw [k.beam]; rfl
    pc := k.pc.trans h.pc
    next := by rw [k.aud]; rfl
    staged := k.staged.trans (hqs.trans (hp1.staged.trans hps))
    active := by
      rw [k.active]
      refine hqa.trans (hp1.active.trans (hpa.trans ?_))
      show (if z.pic.staged then z.pic.stagedRegs else z.pic.activeRegs) = _
      rw [h.staged, h.stagedRegs, h.active]
    applied := fun hs => kq.flags hcw 1 (Cell.commitApply_flag (h.staged.trans hs) ww)
    aframes := (k.regs ww _ (by decide)).trans h.aframes
    qframes := (k.regs ww _ (by decide)).trans h.qframes
    idr := k.idr h.idr }

theorem Cell.beginFrame_straddle (x : Cell) : x.beginFrame.traceFrame.cpu.straddle = x.cpu.straddle := by
  obtain ⟨p, -, -, hp1⟩ := x.commitApply_keeps
  obtain ⟨q, -, -, hq1⟩ := x.beginFrame_keeps
  exact (((hp1.withPic q).trans hq1).trans (.traceFrame _)).straddle

theorem Cell.nextFrame_begun {x : Cell} (hl : x.pic.lnl = none) (hs : x.cpu.straddle = none) (w : x.regsWf = true)
    (ho : CellEvent.idr ∉ x.outbox) (hp : x.beam.fpos ≤ x.counted) : FrameBegun x x.nextFrame := by
  obtain ⟨e, he⟩ := x.event_eq 0 fun c => ((c.frameEnd.wrapFrame).beginFrame.traceFrame).settle
  have h := Cell.frameEnd_ended (x := { x with evt := { x.evt with last := 0 } }) hl w ho
  have hfree : ((Cell.frameEnd { x with evt := { x.evt with last := 0 } }).wrapFrame.beginFrame.traceFrame).cpu.straddle =
      none := by
    rw [Cell.beginFrame_straddle]
    show Option.map _ (Cell.frameEnd _).cpu.straddle = none
    rw [h.straddle, show ({ x with evt := { x.evt with last := 0 } } : Cell).cpu.straddle = none from hs, Option.map_none]
  rw [Cell.nextFrame, he, Cell.settle_of_free hfree]
  exact (Cell.beginFrame_begun h hp).congr_evt

/-- A frame that must be composed begins like any other. -/
theorem Cell.nextFrame_begun_of {x : Cell} (first : Bool) (hl : x.pic.lnl = none) (hs : x.cpu.straddle = none)
    (w : x.regsWf = true) (ho : CellEvent.idr ∉ x.outbox) (hp : x.beam.fpos ≤ x.counted) :
    FrameBegun x (if first then x.composeNext else x).nextFrame := by
  cases first with
  | false => exact Cell.nextFrame_begun hl hs w ho hp
  | true =>
    have h := Cell.nextFrame_begun (x := x.composeNext) hl hs w ho hp
    exact ⟨h.frame, h.started, h.fpos, h.inPorch, h.pc, h.next, h.staged, h.active, h.applied, h.aframes, h.qframes, h.idr⟩

/-- What the rest of the device does when a frame has begun, with no operation waiting at the debug unit. -/
theorem State.afterBoundary_aside {s : State} {c : CellId} (h : (s.dbg[c]).waiting = []) : Aside s (s.afterBoundary c) := by
  unfold State.afterBoundary
  extract_lets s1 m
  have h1 : Beside s s1 := .mirrorBoundary s c
  have h2 : Beside s (if m.reopen && !s1.fenced then s1.setMirror c { m with reopen := false } else s1) :=
    .ite (h1.trans (.setMirror ..)) h1
  rw [State.pumpDbg_idle ((h2.waiting c).trans h)]
  exact h2.aside

/-- FRAME_BOUNDARY of a session that goes on. -/
theorem exec_frameBoundary_goOn {s : State} {c : CellId} {x : Cell} (hb : Beaming s c x) (hup : s.up = true)
    (hd : x.frameDone = true) (hl : x.pic.lnl = none) (hin : x.beam.inPorch = true) (hbite : x.sess.biteEnd = false)
    (hhold : ¬ (x.sess.copies = false ∧ (s.mirrors[c]).phase = .idle ∧ (s.mirrors[c]).g = x.beam.frame + 1))
    (hwait : (s.dbg[c]).waiting = []) (hp : x.beam.fpos ≤ x.counted) :
    ∃ t, exec (.frameBoundary c) s = .next t ∧ SameDevice s t ∧ FrameBegun x (t.cell c) := by
  have ho : CellEvent.idr ∉ x.outbox := by rw [hb.out]; exact List.not_mem_nil
  have h := Cell.nextFrame_begun_of (s.copyEnds c) hl hb.free hb.wf ho hp
  have hcell : s.cell c = x := hb.eq
  subst hcell
  have hat : s.atBoundary c = true := by simp only [State.atBoundary, hup, hd, hin, Bool.and_self]
  have hgo : s.boundary c = s.goOn c := by
    simp only [State.boundary, hbite, Bool.false_eq_true, if_false, if_neg hhold]
  have hw : ((s.onCell c fun x => (if s.copyEnds c then x.composeNext else x).nextFrame).dbg[c]).waiting = [] :=
    (State.onCell_waiting s c _ h.idr c).trans hwait
  have hafter := State.afterBoundary_aside hw
  refine ⟨_, rfl, ?_⟩
  rw [if_pos hat, hgo, State.goOn]
  refine ⟨(State.onCell_only s c _ h.idr).1.trans hafter.dev, ?_⟩
  rw [hafter.cell, State.onCell_cell s c _ h.idr]
  exact ⟨h.frame, h.started, h.fpos, h.inPorch, h.pc, h.next, h.staged, h.active, h.applied, h.aframes, h.qframes,
    List.not_mem_nil⟩

/-- Settles O22: the porch with its correction, and the boundary of a session that goes on. -/
theorem framesAndPorches : Obligations.FramesAndPorches := by
  unfold Obligations.FramesAndPorches
  intro s c x hb hup hd hl
  refine ⟨fun delta hp hm => ?porch, fun hin hbite hhold hwait hp => ?boundary⟩
  case porch =>
    obtain ⟨t, hstep, hdev, h⟩ := exec_porchStart_done hb hup hd hp hl hm delta
    obtain ⟨hlow, hhigh, hhold⟩ := s.porchDelta_bounds delta
    exact ⟨t, hstep, hdev, by rw [h.beam], by rw [h.beam], by rw [h.beam], by rw [h.beam], by rw [h.beam], hlow, hhigh, hhold⟩
  case boundary =>
    obtain ⟨t, hstep, hdev, h⟩ := exec_frameBoundary_goOn hb hup hd hl hin hbite hhold hwait hp
    exact ⟨t, hstep, hdev, h.frame, h.started, h.fpos, h.inPorch, h.pc, h.next, h.staged, h.active, h.applied, h.aframes,
      h.qframes⟩

end Sys2Proof.Machine
end

