-- ==== Sys2Proof/Proofs/LineListEntries.lean ====
section
/-! PROOF. LINE_LIST_ENTRY (R127, R130, R131): which registers a line list may write, what a slot leaves unchanged beside its
registers, the record of an error, and the statement. -/

namespace Sys2Proof.Machine

/-! ## What a slot leaves unchanged -/

/-- The parts of a cell that the work of a line-list slot leaves as they are; no IDR is asked for. -/
structure SlotKeeps (x y : Cell) : Prop where
  cpu  : y.cpu = x.cpu
  beam : y.beam = x.beam
  mem  : y.mem = x.mem
  lnl  : y.pic.lnl = x.pic.lnl
  idr  : CellEvent.idr ∉ x.outbox → CellEvent.idr ∉ y.outbox

theorem SlotKeeps.refl (x : Cell) : SlotKeeps x x := ⟨rfl, rfl, rfl, rfl, id⟩

theorem SlotKeeps.trans {x y z : Cell} (h : SlotKeeps x y) (g : SlotKeeps y z) : SlotKeeps x z :=
  ⟨g.cpu.trans h.cpu, g.beam.trans h.beam, g.mem.trans h.mem, g.lnl.trans h.lnl, fun k => g.idr (h.idr k)⟩

theorem SlotKeeps.ite {x a b : Cell} {p : Prop} [Decidable p] (ha : SlotKeeps x a) (hb : SlotKeeps x b) :
    SlotKeeps x (if p then a else b) := by
  by_cases h : p
  · rw [if_pos h]; exact ha
  · rw [if_neg h]; exact hb

theorem SlotKeeps.setReg (x : Cell) (off : Nat) (v : Word) : SlotKeeps x (x.setReg off v) := ⟨rfl, rfl, rfl, rfl, id⟩

theorem SlotKeeps.writePlain (x : Cell) (d : RegDesc) (off : Nat) (v : Word) : SlotKeeps x (x.writePlain d off v) :=
  .setReg ..

theorem SlotKeeps.withPic (x : Cell) (p : Picture) (h : p.lnl = x.pic.lnl) : SlotKeeps x (x.withPic p) :=
  ⟨rfl, rfl, rfl, h, id⟩

theorem SlotKeeps.lcmpPast (x : Cell) (p : Nat) : SlotKeeps x (x.lcmpPast p) := ⟨rfl, rfl, rfl, rfl, id⟩

theorem SlotKeeps.commitGo (x : Cell) (p : Nat) : SlotKeeps x (x.commitGo p) := by
  unfold Cell.commitGo
  extract_lets late pic c1
  have h1 : SlotKeeps x c1 := .withPic x _ rfl
  have hraise : SlotKeeps c1 ((c1.orReg Reg.RST_STAT 1).raise (.bump 0x1B 0x03)) :=
    ⟨rfl, rfl, rfl, rfl, fun h => by simpa using h⟩
  exact .ite (.refl x) (.ite (h1.trans hraise) h1)

theorem SlotKeeps.writePaldata (x : Cell) (v : Word) : SlotKeeps x (x.writePaldata v) := by
  unfold Cell.writePaldata
  extract_lets i pic c1
  have h1 : SlotKeeps x c1 := .withPic x _ rfl
  exact .ite (h1.trans (.setReg ..)) h1

theorem SlotKeeps.writeCdata (x : Cell) (v : Word) : SlotKeeps x (x.writeCdata v) := by
  unfold Cell.writeCdata
  extract_lets k w pic c1
  have h1 : SlotKeeps x c1 := .withPic x _ rfl
  exact .ite (h1.trans (.setReg ..)) h1

/-! ## The registers that a line list may write (R130) -/

/-- The rows of the blocks CELL to SCL lie below the LNL block. -/
theorem regBlocks_base_lt : ∀ k < 6, ∀ d ∈ regBlocks.getD k [], d.base < Reg.LNL_CTL := by decide +kernel

theorem lnlTarget_lt {off : Nat} (h : lnlTarget off = true) : off < Reg.LNL_CTL := by
  simp only [lnlTarget, Bool.or_eq_true, Bool.and_eq_true, beq_iff_eq, decide_eq_true_eq, Reg.RST_CL, Reg.RST_COMMIT,
    Reg.RST_LCMP, Reg.RST_UFCOL, Reg.RST_UFCOL7] at h
  change off < 0x6000
  omega

theorem regDesc_base_lt {off : Nat} {d : RegDesc} (h : lnlTarget off = true) (hd : regDesc off = some d) :
    d.base < Reg.LNL_CTL :=
  regBlocks_base_lt (off / 0x1000) (Nat.div_lt_of_lt_mul (lnlTarget_lt h)) d (List.mem_of_find?_eq_some hd)

/-- The rows that `ownBehaviour` lists behind those of the picture: the engines' rows, above the LNL block. -/
def engineRows : List Nat := ownBehaviour.drop 16

theorem engineRows_above : ∀ b ∈ engineRows, Reg.LNL_CTL < b := by decide

/-- A write to a register below the LNL block touches registers, palette, coefficients, commits and marks alone: the engines
lie above. -/
theorem SlotKeeps.writeReg_row (x : Cell) {off : Nat} {d : RegDesc} (v : Word) (p : Nat) (hd : regDesc off = some d)
    (hb : d.base < Reg.LNL_CTL) : SlotKeeps x (x.writeReg off v p) := by
  have engine : ∀ b ∈ engineRows, d.base ≠ b := fun b h e => absurd (engineRows_above b h) (by omega)
  have plain : ∀ w, SlotKeeps x (x.writePlain d off w) := .writePlain x d off
  simp only [engineRows, ownBehaviour, List.drop_succ_cons, List.drop_zero, List.mem_cons, List.not_mem_nil, or_false,
    forall_eq_or_imp, forall_eq] at engine
  simp only [Cell.writeReg, hd, beq_iff_eq, Bool.or_eq_true, engine, false_and, or_self, dite_false, if_false]
  have cl := (plain v).ite (p := 1 ≤ bits v.toNat 11 0 ∧ bits v.toNat 11 0 ≤ x.vactive) (.refl x)
  have commit := (SlotKeeps.commitGo x p).ite (p := v.getLsbD 0 = true) (.refl x)
  have affine : ∀ a, SlotKeeps x ((x.writePlain d off v).withPic { x.pic with affine := a }) := fun a =>
    (plain v).trans (.withPic _ _ rfl)
  -- The arms in the order of `writeReg`: RST_CL, RST_COMMIT, RST_LCMP, the RST, PLN and SPR rows, LNL_CTL, CMP, SCL, the rest.
  exact .ite cl <| .ite commit <| .ite ((plain v).trans (.lcmpPast _ p)) <| .ite (.refl x) <|
    .ite ((plain v).trans (.withPic _ _ rfl)) <| .ite (plain _) <| .ite (plain _) <| .ite (affine _) <| .ite (affine _) <|
    .ite (plain _) <| .ite (plain _) <| .ite (plain _) <| .ite (.writePaldata x v) <| .ite (.ite (.refl x) (plain v)) <|
    .ite (.writeCdata x v) (plain v)

/-- A write that a line list may make (R130). -/
theorem SlotKeeps.writeReg (x : Cell) {off : Nat} (v : Word) (p : Nat) (h : lnlTarget off = true) :
    SlotKeeps x (x.writeReg off v p) := by
  cases hd : regDesc off with
  | none => rw [Cell.writeReg_vacant x v p hd]; exact .refl x
  | some d => exact .writeReg_row x v p hd (regDesc_base_lt h hd)

/-! ## The record of an error (R131) -/

/-- The first error's record: its line, kind and entry, and the frame of its list. -/
def Cell.lnlRecord (x : Cell) (r : LnlRun) (kind entry : Nat) : Cell :=
  if x.reg Reg.LNL_STAT = 0 then
    (x.setReg Reg.LNL_ERR (BitVec.ofNat 32 (r.line * 2 ^ 20 + kind * 256 + entry))).setReg Reg.LNL_ERRFRAME
      (BitVec.ofNat 32 r.frame)
  else x

/-- An error is recorded when it is the first, and sets its flag. -/
theorem Cell.lnlError_eq (x : Cell) (r : LnlRun) (kind entry : Nat) :
    x.lnlError r kind entry = (x.lnlRecord r kind entry).orReg Reg.LNL_STAT (2 ^ kind) := rfl

theorem SlotKeeps.lnlError (x : Cell) (r : LnlRun) (kind entry : Nat) : SlotKeeps x (x.lnlError r kind entry) := by
  rw [Cell.lnlError_eq]
  exact (SlotKeeps.ite ((SlotKeeps.setReg ..).trans (.setReg ..)) (.refl x)).trans (.setReg ..)

section
variable {x : Cell} (w : x.regsWf = true) (r : LnlRun) (kind entry : Nat)
include w

theorem Cell.regsWf_lnlRecord : (x.lnlRecord r kind entry).regsWf = true := by
  unfold Cell.lnlRecord
  split
  · exact Cell.regsWf_setReg _ _ (Cell.regsWf_setReg _ _ w)
  · exact w

theorem Cell.reg_lnlRecord_err : (x.lnlRecord r kind entry).reg Reg.LNL_ERR =
    if x.reg Reg.LNL_STAT = 0 then BitVec.ofNat 32 (r.line * 2 ^ 20 + kind * 256 + entry) else x.reg Reg.LNL_ERR := by
  unfold Cell.lnlRecord
  split
  · rw [Cell.reg_setReg_other _ (Cell.regsWf_setReg _ _ w) (by decide), Cell.reg_setReg_same _ _ w]
  · rfl

theorem RegsOnly.lnlRecord : RegsOnly [Reg.LNL_ERR, Reg.LNL_ERRFRAME] x (x.lnlRecord r kind entry) := by
  intro o ho
  simp only [List.mem_cons, List.not_mem_nil, or_false, not_or] at ho
  obtain ⟨herr, hframe⟩ := ho
  unfold Cell.lnlRecord
  split
  · rw [Cell.reg_setReg_other _ (Cell.regsWf_setReg _ _ w) hframe, Cell.reg_setReg_other _ w herr]
  · rfl

theorem Cell.reg_lnlError_stat :
    (x.lnlError r kind entry).reg Reg.LNL_STAT = (x.reg Reg.LNL_STAT ||| BitVec.ofNat 32 (2 ^ kind)) := by
  rw [Cell.lnlError_eq, Cell.reg_orReg_same _ _ (Cell.regsWf_lnlRecord w r kind entry),
    RegsOnly.lnlRecord w r kind entry Reg.LNL_STAT (by decide)]

theorem Cell.reg_lnlError_err : (x.lnlError r kind entry).reg Reg.LNL_ERR =
    if x.reg Reg.LNL_STAT = 0 then BitVec.ofNat 32 (r.line * 2 ^ 20 + kind * 256 + entry) else x.reg Reg.LNL_ERR := by
  rw [Cell.lnlError_eq, Cell.reg_orReg_other _ (Cell.regsWf_lnlRecord w r kind entry) (by decide),
    Cell.reg_lnlRecord_err w]

theorem RegsOnly.lnlError :
    RegsOnly [Reg.LNL_STAT, Reg.LNL_ERR, Reg.LNL_ERRFRAME] x (x.lnlError r kind entry) := by
  intro o ho
  obtain ⟨hstat, hrecord⟩ := not_or.mp (mt List.mem_cons.mpr ho)
  rw [Cell.lnlError_eq, Cell.reg_orReg_other _ (Cell.regsWf_lnlRecord w r kind entry) hstat]
  exact RegsOnly.lnlRecord w r kind entry o hrecord

end

/-! ## The next slot (R127) -/

/-- Whatever a slot holds, its work keeps the rest of the cell. -/
theorem SlotKeeps.lnlSlot (x : Cell) (r : LnlRun) (k : Nat) (slot : LnlSlot) (p : Nat) :
    SlotKeeps x (x.lnlSlot r k slot p) := by
  cases slot with
  | write off v =>
    by_cases h : lnlTarget off = true
    · simp only [Cell.lnlSlot, if_pos h]; exact .writeReg x v p h
    · simp only [Cell.lnlSlot, if_neg h]; exact .lnlError ..
  | _ => exact .lnlError ..

/-- The cell in the cycle of the next slot of its list `r`, with that slot taken. -/
def Cell.atSlot (x : Cell) (r : LnlRun) : Cell :=
  let y := x.advanceTo (x.slotPos (x.beam.started - 1) r.next)
  y.withPic { y.pic with lnl := some { r with next := r.next + 1 } }

theorem Cell.lnlStep_eq {x : Cell} {r : LnlRun} {slot : LnlSlot} (hr : x.pic.lnl = some r)
    (hslot : r.slots[r.next]? = some slot) :
    x.lnlStep = (x.atSlot r).lnlSlot r r.next slot (x.slotPos (x.beam.started - 1) r.next) := by
  simp only [Cell.lnlStep, hr, hslot]
  rfl

/-- Counted cycles that pass with no write-back due change no memory, register or event. -/
theorem Cell.advanceTo_stores {x : Cell} (h : x.blt.wb = []) (p : Nat) :
    (x.advanceTo p).mem = x.mem ∧ (x.advanceTo p).regs = x.regs ∧ (x.advanceTo p).outbox = x.outbox := by
  unfold Cell.advanceTo
  split
  · have hp := Cell.advance_passed x (p - x.beam.fpos)
    have hmem := hp.mem
    have hregs := hp.regs
    have hout := hp.out
    rw [Cell.bltFlush_nil h] at hmem hregs hout
    exact ⟨hmem, hregs, hout⟩
  · exact ⟨rfl, rfl, rfl⟩

/-- What the next slot leaves in its cell; its registers are those that `lnlSlot` leaves. -/
structure SlotDone (x y : Cell) (r : LnlRun) (slot : LnlSlot) : Prop where
  lnl  : y.pic.lnl = some { r with next := r.next + 1 }
  fpos : y.beam.fpos = Nat.max x.beam.fpos (x.slotPos (x.beam.started - 1) r.next)
  mem  : y.mem = x.mem
  regs : ∃ (z : Cell) (p : Nat), z.regs = x.regs ∧ y.regs = (z.lnlSlot r r.next slot p).regs
  idr  : CellEvent.idr ∉ y.outbox

theorem SlotDone.congr_evt {x y : Cell} {r : LnlRun} {slot : LnlSlot} {e e' : EventTimes}
    (h : SlotDone { x with evt := e } y r slot) : SlotDone x { y with evt := e' } r slot :=
  ⟨h.lnl, h.fpos, h.mem, h.regs, h.idr⟩

theorem Cell.lineListEntry_done {x : Cell} {r : LnlRun} {slot : LnlSlot} (hrun : x.running = true)
    (hp : x.beam.inPorch = false) (hstart : x.beam.started ≠ 0) (hwb : x.blt.wb = []) (hs : x.cpu.straddle = none)
    (ho : CellEvent.idr ∉ x.outbox) (hr : x.pic.lnl = some r) (hslot : r.slots[r.next]? = some slot) :
    SlotDone x x.lineListEntry r slot := by
  have k := Keeps.advanceTo x (x.slotPos (x.beam.started - 1) r.next)
  obtain ⟨hmem, hregs, hout⟩ := Cell.advanceTo_stores hwb (x.slotPos (x.beam.started - 1) r.next)
  have g := SlotKeeps.lnlSlot (x.atSlot r) r r.next slot (x.slotPos (x.beam.started - 1) r.next)
  have hfree : x.lnlStep.cpu.straddle = none := by
    rw [Cell.lnlStep_eq hr hslot, g.cpu]
    exact k.straddle.trans hs
  have hentry : x.lineListEntry = x.lnlStep := by
    simp only [Cell.lineListEntry, hrun, hp, hstart, Bool.not_false, Bool.and_true, ne_eq, not_false_eq_true, decide_true,
      if_true, Cell.settle_of_free hfree]
  rw [hentry, Cell.lnlStep_eq hr hslot]
  exact {
    lnl := g.lnl
    fpos := by rw [g.beam]; exact congrArg Beam.fpos k.beam
    mem := g.mem.trans hmem
    regs := ⟨x.atSlot r, x.slotPos (x.beam.started - 1) r.next, hregs, rfl⟩
    idr := g.idr (hout ▸ ho) }

/-- LINE_LIST_ENTRY as an event of its counted cycle (R42). -/
theorem Cell.lineListEntry_event_done {x : Cell} {r : LnlRun} {slot : LnlSlot} (hrun : x.running = true)
    (hp : x.beam.inPorch = false) (hstart : x.beam.started ≠ 0) (hwb : x.blt.wb = []) (hs : x.cpu.straddle = none)
    (ho : CellEvent.idr ∉ x.outbox) (hr : x.pic.lnl = some r) (hslot : r.slots[r.next]? = some slot) (p : Nat) :
    SlotDone x (x.event p Cell.lineListEntry) r slot := by
  obtain ⟨e, he⟩ := x.event_eq p Cell.lineListEntry
  rw [he]
  exact (Cell.lineListEntry_done (x := { x with evt := { x.evt with last := p } }) hrun hp hstart hwb hs ho hr
    hslot).congr_evt

/-- An event of a cell whose beam runs, at its counted cycle: its work in that cell alone. -/
theorem State.liveAt_running {s : State} {c : CellId} {p : Cell → Nat} {f : Cell → Cell} (hrun : (s.cell c).running = true)
    (hi : CellEvent.idr ∉ ((s.cell c).event (p (s.cell c)) f).outbox) : ∃ t, s.liveAt c p f = .next t ∧ OnlyCell c s t ∧
      t.cell c = { (s.cell c).event (p (s.cell c)) f with outbox := [] } := by
  have hwork : (if (s.cell c).running then (s.cell c).event (p (s.cell c)) f else s.cell c) =
      (s.cell c).event (p (s.cell c)) f := if_pos hrun
  rw [← hwork] at hi ⊢
  exact ⟨_, rfl, State.onCell_only s c _ hi, State.onCell_cell s c _ hi⟩

/-- LINE_LIST_ENTRY with a slot left: that slot's work in its cell. -/
theorem exec_lineListEntry_slot {s : State} {c : CellId} {x : Cell} {r : LnlRun} {slot : LnlSlot} (hb : Beaming s c x)
    (hp : x.beam.inPorch = false) (hstart : x.beam.started ≠ 0) (hwb : x.blt.wb = []) (hr : x.pic.lnl = some r)
    (hslot : r.slots[r.next]? = some slot) :
    ∃ t, exec (.lineListEntry c) s = .next t ∧ SameDevice s t ∧ SlotDone x (t.cell c) r slot := by
  have hcell : s.cell c = x := hb.eq
  subst hcell
  have h := Cell.lineListEntry_event_done hb.runs hp hstart hwb hb.free (by rw [hb.out]; exact List.not_mem_nil) hr hslot
    ((s.cell c).nextSlot.getD (s.cell c).evt.last)
  obtain ⟨t, hstep, honly, ht⟩ := State.liveAt_running (p := fun y => y.nextSlot.getD y.evt.last) hb.runs h.idr
  refine ⟨t, hstep, honly.1, ?_⟩
  rw [ht]
  exact ⟨h.lnl, h.fpos, h.mem, h.regs, List.not_mem_nil⟩

/-! ## The registers behind the slot -/

section
variable {x y : Cell} {r : LnlRun} {slot : LnlSlot} (h : SlotDone x y r slot) (w : x.regsWf = true)
include h w

/-- The registers of the slot's work, from a cell whose registers are those before. -/
theorem SlotDone.from_regs : ∃ (z : Cell) (p : Nat), z.regsWf = true ∧ (∀ o, z.reg o = x.reg o) ∧
    ∀ o, y.reg o = (z.lnlSlot r r.next slot p).reg o := by
  obtain ⟨z, p, hz, hy⟩ := h.regs
  exact ⟨z, p, by rw [Cell.regsWf, hz]; exact w, Cell.reg_congr hz, Cell.reg_congr hy⟩

/-- A write that a line list may make, of a register without a behaviour of its own, takes effect. -/
theorem SlotDone.write_plain {off : Nat} {v : Word} {d : RegDesc} (hslot : slot = .write off v) (ht : lnlTarget off = true)
    (hplain : off ∈ plainRegisters) (hd : regDesc off = some d) : RegsOnly [off] x y ∧ y.reg off =
      ((x.reg off &&& ~~~(BitVec.ofNat 32 d.rw)) ||| (v &&& BitVec.ofNat 32 d.rw)) &&& ~~~(v &&& BitVec.ofNat 32 d.w1c) := by
  obtain ⟨z, p, wz, hz, hy⟩ := h.from_regs w
  subst hslot
  have hval : ∀ o, y.reg o = (z.writePlain d off v).reg o := fun o => by
    rw [hy, Cell.lnlSlot, if_pos ht]
    exact Cell.reg_congr (Cell.writeReg_of_plainRegisters v p hplain hd).1 o
  refine ⟨fun o ho => ?_, ?_⟩
  · rw [hval, RegsOnly.writePlain d off v wz o ho, hz]
  · rw [hval, Cell.writePlain_reg_same d off v wz, hz]

/-- A slot that records an error of a kind: its flag is set, and the first error is kept. -/
theorem SlotDone.error {kind entry : Nat} (hslot : ∀ (z : Cell) p, z.lnlSlot r r.next slot p = z.lnlError r kind entry) :
    RegsOnly [Reg.LNL_STAT, Reg.LNL_ERR, Reg.LNL_ERRFRAME] x y ∧
    y.reg Reg.LNL_STAT = (x.reg Reg.LNL_STAT ||| BitVec.ofNat 32 (2 ^ kind)) ∧
    y.reg Reg.LNL_ERR = if x.reg Reg.LNL_STAT = 0 then BitVec.ofNat 32 (r.line * 2 ^ 20 + kind * 256 + entry)
      else x.reg Reg.LNL_ERR := by
  obtain ⟨z, p, wz, hz, hy⟩ := h.from_regs w
  rw [hslot] at hy
  refine ⟨fun o ho => ?_, ?_, ?_⟩
  · rw [hy, RegsOnly.lnlError wz r kind entry o ho, hz]
  · rw [hy, Cell.reg_lnlError_stat wz, hz]
  · rw [hy, Cell.reg_lnlError_err wz, hz, hz]

end

/-- Settles O24: the next slot's write, or the error it records, with the rest of the cell and the device as they were. -/
theorem lineListEntries : Obligations.LineListEntries := by
  unfold Obligations.LineListEntries
  intro s c x r slot hb hp hstart hwb hr hslot
  obtain ⟨t, hstep, hdev, h⟩ := exec_lineListEntry_slot hb hp hstart hwb hr hslot
  refine ⟨t, hstep, hdev, h.lnl, h.fpos, h.mem, fun off v d => h.write_plain hb.wf, fun off v hw ht => ?badTarget,
    fun lmax hover => ?behind⟩
  case badTarget =>
    have herror := h.error hb.wf (kind := 1) (entry := r.next) fun z p => by
      rw [hw, Cell.lnlSlot, if_neg (ne_true_of_eq_false ht)]
    rwa [Nat.one_mul] at herror
  case behind =>
    obtain ⟨-, hstat, herr⟩ := h.error hb.wf (kind := 0) (entry := lmax) fun z p => by rw [hover, Cell.lnlSlot]
    rw [Nat.zero_mul, Nat.add_zero] at herr
    exact ⟨hstat, herr⟩

end Sys2Proof.Machine
end

