-- ==== Sys2Proof/Proofs/OverlayAndIdrRequests.lean ====
section
/-! PROOF. OVERLAY_APPLY and IDR_REQUEST of an unmirrored session (R143, R159, R253, R254): where a request places its stamp, what
counting a viewer's request leaves as it was, and the statement. -/

namespace Sys2Proof.Machine

/-- An update of one cell reaches that cell alone. -/
theorem OnlyCell.setCell (s : State) (c : CellId) (x : Cell) : OnlyCell c s (s.setCell c x) :=
  ⟨.setCell s c x, fun _ => s.cell_setCell_other x⟩

/-- What leaves the cells aside may come before what one cell does. -/
theorem Aside.onlyCell {s t u : State} {c : CellId} (h : Aside s t) (g : OnlyCell c t u) : OnlyCell c s u :=
  ⟨h.dev.trans g.1, fun d hd => (g.2 d hd).trans (h.cell d)⟩

/-! ## OVERLAY_APPLY (R143) -/

/-- A pending set that fits is submitted in an unmirrored session for the frame that follows: the next one while the cell runs,
else the one it starts with. -/
theorem exec_overlayApply_unmirrored {s : State} {c : CellId} (hup : s.up = true) (hadm : s.admittedIn c = true)
    (hmir : s.mirrorState c = 0) (hfit : s.overlayFits c = true) : exec (.overlayApply c) s =
      .next (s.submitOverlay c (if (s.cell c).running then (s.cell c).beam.frame + 1 else (s.cell c).beam.frame)) := by
  change execOverlayApply c s = _
  rw [execOverlayApply, hup, hadm, hfit, State.overlaySubmit, if_pos hmir]
  rfl

/-! ## IDR_REQUEST (R253, R254) -/

/-- The frame of a request behind the last IDR: the one asked for, or the last one's IDRMIN frames later. -/
def Cell.idrFrame (x : Cell) (n : Nat) : Nat := Nat.max n (x.enc.lastIdr + x.enc.cfg.idrmin)

/-- A request for a frame behind the last IDR places one stamp; it changes the encoder alone. -/
theorem Cell.stampIdr_behind {x : Cell} {n : Nat} (h : x.enc.lastIdr < n) : x.stampIdr n =
    { x with enc := { x.enc with lastIdr := x.idrFrame n, stamps := x.enc.stamps ++ [x.idrFrame n] } } := by
  have hframe : (if n < x.enc.lastIdr + x.enc.cfg.idrmin then x.enc.lastIdr + x.enc.cfg.idrmin else n) = x.idrFrame n := by
    change _ = max n (x.enc.lastIdr + x.enc.cfg.idrmin)
    split <;> omega
  rw [Cell.stampIdr, if_neg (Nat.not_le.mpr h), hframe]

/-- The device with a viewer's request counted (R303). -/
def State.countRequest (s : State) (c : CellId) (src : IdrSource) : State :=
  if src = .viewer then s.bumpObj (cellObj c 0x1F) 6 else s

theorem Aside.countRequest (s : State) (c : CellId) (src : IdrSource) : Aside s (s.countRequest c src) :=
  .ite (.bumpObj ..) (.refl s)

/-- The count of viewers' requests is another object than the mirror's state. -/
theorem State.mirrorState_countRequest {s : State} (c : CellId) (src : IdrSource) (h : s.objsWf = true) :
    (s.countRequest c src).mirrorState c = s.mirrorState c := by
  have hkey : objKey (cellObj c 0x11) 1 ≠ objKey (cellObj c 0x1F) 6 := by
    simp only [objKey, cellObj]
    omega
  unfold State.countRequest
  split
  · exact State.obj_setObj_other _ h hkey
  · rfl

/-- A request of an admitted, unmirrored session is stamped by its own cell. -/
theorem exec_idrRequest_unmirrored {s : State} {c : CellId} (src : IdrSource) (hwf : s.objsWf = true) (hup : s.up = true)
    (hadm : s.admittedIn c = true) (hmir : s.mirrorState c = 0) :
    exec (.idrRequest c src) s = .next ((s.countRequest c src).setCell c (s.cell c).requestIdr) := by
  have hmir' : (s.countRequest c src).mirrorState c = 0 := (State.mirrorState_countRequest c src hwf).trans hmir
  have hask : (s.countRequest c src).askIdr c = (s.countRequest c src).setCell c (s.cell c).requestIdr := by
    rw [State.askIdr, if_pos hmir', (Aside.countRequest s c src).cell c]
  change execIdrRequest c src s = _
  rw [execIdrRequest, hup, hadm, ← hask]
  rfl

/-- Settles O25: the submitted set and the stamp are updates of the one cell. -/
theorem overlayAndIdrRequests : Obligations.OverlayAndIdrRequests := by
  unfold Obligations.OverlayAndIdrRequests
  intro s c hwf hup hadm hmir
  refine ⟨fun hfit => ?overlay, fun src hlast => ?idr⟩
  case overlay =>
    refine ⟨_, exec_overlayApply_unmirrored hup hadm hmir hfit, .setCell .., rfl, ?_⟩
    rw [State.submitOverlay, State.cell_setCell_same]
    exact ⟨rfl, rfl, rfl⟩
  case idr =>
    refine ⟨_, (s.cell c).idrFrame ((s.cell c).beam.frame + 2), exec_idrRequest_unmirrored src hwf hup hadm hmir,
      (Aside.countRequest s c src).onlyCell (.setCell ..), ?_⟩
    rw [State.cell_setCell_same, Cell.requestIdr, Cell.stampIdr_behind hlast]
    exact ⟨rfl, rfl, rfl, rfl⟩

end Sys2Proof.Machine
end
